-- ==== Sys2Proof/Word.lean ====
section
/-! DEFINITION. The word types of the ZA512 (R8, R9) and their plainest arithmetic. -/
namespace Sys2Proof

/-- A byte. -/
abbrev Byte := BitVec 8

/-- A halfword. -/
abbrev Half := BitVec 16

/-- A register, a sample or an instruction half: 32 bits. -/
abbrev Word := BitVec 32

/-- A tick count, an identifier or an instruction word: 64 bits. -/
abbrev DWord := BitVec 64

/-- An accumulator of a cell (R93). -/
abbrev AccWord := BitVec 80

/-- The two's complement integer of a word. -/
def sInt {n : Nat} (x : BitVec n) : Int := x.toInt

/-- The truth of a one-bit condition as a word bit. -/
def ofFlag (b : Bool) : Nat := if b then 1 else 0

end Sys2Proof
end

