-- ==== Sys2Proof/Syntax.lean ====
section
/-! DEFINITION. The commands of the block: one constructor per row of the table of operations and events, with
the row's operands. -/
namespace Sys2Proof

/-- One memory port of the MEM field (R104): its width (64 bits when `wide`), its pointer, its D register
and whether the pointer is post-modified. -/
structure MemPort where
  wide : Bool
  ptr : BitVec 3
  reg : BitVec 4
  upd : Bool
deriving DecidableEq, Repr

/-- The MEM field (R104): read ports X and Y and write port W; a disabled port's other fields are 0. -/
structure MemPorts where
  x : Option MemPort
  y : Option MemPort
  w : Option MemPort
deriving DecidableEq, Repr

/-- The count of a LOOP: IMM[27:12], or D[RA] bits 15:0 (AUX[1]). -/
inductive LoopCount where
  | imm (n : BitVec 16)
  | reg (ra : BitVec 4)
deriving DecidableEq, Repr

/-- The tile of a TLOAD or TSTORE: IMM[13:0], or D[RA] bits 13:0 (AUX[3]). -/
inductive TileIdx where
  | imm (t : BitVec 14)
  | reg (ra : BitVec 4)
deriving DecidableEq, Repr

/-- A subframe as a receiver decodes it (R376 to R381): audio bits 23:0, V, U and C, a parity or biphase error, the
channel active bit of MADI, and a block start (the Z preamble of AES3). -/
structure SubFrame where
  audio : BitVec 24
  v : Bool
  u : Bool
  c : Bool
  err : Bool
  active : Bool
  blk : Bool
deriving DecidableEq, Repr

/-- An access of one tile of DRAM as it reaches the controller (R472 to R474): its initiator, its address, and the bytes it writes
with their mark, or no bytes for a read. -/
structure DramAccess where
  init : BitVec 4
  addr : BitVec 35
  bytes : List Byte
  mark : Bool
deriving DecidableEq, Repr

/-- What a host write carries: its value, and whether its TLP is poisoned (R260). -/
structure TlpWrite where
  data : DWord
  poison : Bool
deriving DecidableEq, Repr

/-- A period of tail stream `stream`; `bad` is the tile of the group, if any, whose read from DRAM is disturbed (R250, R252). -/
structure TailTurn where
  stream : BitVec 6
  bad : Option (BitVec 10)
deriving DecidableEq, Repr

/-- A receiver's access to its doorbell or to its mask register (R289, R290). -/
inductive BellAccess where
  | take (bit : BitVec 5)
  | mask (v : Word)
deriving DecidableEq, Repr

/-- A reference, and whether it is PPS_IN, which the monitor of reference 4 follows beside the 10 MHz, that is meant (R308). -/
structure RefIn where
  ref : BitVec 5
  pps : Bool
deriving DecidableEq, Repr

/-- The bits of a received slot, first bit in bit 31; `edge0`, signed, counts the DATUM cycles from this tick's boundary to edge 0 of
its frame (R362, R363, R367). -/
structure SlotBits where
  data : Word
  edge0 : Half
deriving DecidableEq, Repr

/-- How a sense frame arrived: with no code or disparity error when `codeOk`, its SOF `sof` DRIVE cycles after this tick's boundary
(R430 to R432). -/
structure SenseLink where
  codeOk : Bool
  sof : Half
deriving DecidableEq, Repr

/-- How a DRAM read ends: forwarded from a write entry or not, after the accesses that reached the controller before it (R472 to
R474). -/
structure ReadEnd where
  fwd : Bool
  arrivals : List DramAccess
deriving DecidableEq, Repr

/-- How a DRAM write ends: with a parity error or without, after the accesses that reached the controller before it (R472 to R474,
R478). -/
structure WriteEnd where
  parity : Bool
  arrivals : List DramAccess
deriving DecidableEq, Repr

/-- The instructions of the test access port (R540, R542, R543). -/
inductive TapIr where
  | bypass | idcode | sample | extest | clamp | highz | keyLoad | debug
deriving DecidableEq, Repr

/-- What the test access port is given: an instruction, or none for Test-Logic-Reset, and what is shifted into the boundary-scan
register with SAMPLE/PRELOAD or EXTEST (R540, R541). -/
structure TapScan where
  ir : Option TapIr
  bsr : List Bool
deriving DecidableEq, Repr

/-- An item of a bulk frame (R454, R466): bytes of a graph image for DRAM; the owner's rate and the number its next
tick takes; a tile of program, backing or region memory (0, 1, 2) with its mark; the live image; the words of a
symbol; the TGT and settings of a gain slot; stake entries; a configuration register; a drive module's
configuration; DTM_MEDIA_OFF; a tail stream with its origin tick; a dither state with its tick. -/
inductive BulkItem where
  | image (addr : BitVec 64) (bytes : List (BitVec 8))
  | align (rate : BitVec 4) (tick : BitVec 64)
  | tile (mem : BitVec 2) (tile : BitVec 32) (bytes : List (BitVec 8)) (mark : Bool)
  | graph (bytes : List (BitVec 8))
  | symbol (handle : BitVec 32) (words : List (BitVec 32))
  | gain (handle : BitVec 32) (tgt floor up down : BitVec 32) (tmo : BitVec 16)
  | stake (entries : List (BitVec 16 × BitVec 16))
  | reg (addr : BitVec 32) (v : BitVec 32)
  | drvCfg (mod : BitVec 3) (bytes : List (BitVec 8))
  | media (v : BitVec 64)
  | tail (id : BitVec 6) (desc : List (BitVec 8)) (origin : BitVec 64)
  | dither (ep : BitVec 16) (state : BitVec 64) (tick : BitVec 64)
deriving DecidableEq, Repr

/-- The commands (spec/opcode_table.json), one constructor per row, in the order of the model's families. -/
inductive Instr where
  /-- NOP: The cell issues an instruction that does nothing. (R108) -/
  | nop (cell : BitVec 9)
  /-- BR: Unconditional branch after two delay slots. (R108) -/
  | br (cell : BitVec 9) (t : BitVec 12)
  /-- BRZ: Branch if D[RA] is zero. (R108) -/
  | brz (cell : BitVec 9) (ra : BitVec 4) (t : BitVec 12)
  /-- BRNZ: Branch if D[RA] is not zero. (R108) -/
  | brnz (cell : BitVec 9) (ra : BitVec 4) (t : BitVec 12)
  /-- BRN: Branch if D[RA] is negative. (R108) -/
  | brn (cell : BitVec 9) (ra : BitVec 4) (t : BitVec 12)
  /-- BRNN: Branch if D[RA] is not negative. (R108) -/
  | brnn (cell : BitVec 9) (ra : BitVec 4) (t : BitVec 12)
  /-- BRIND: Branch to the address held in D[RA] bits 11:0. (R108) -/
  | brind (cell : BitVec 9) (ra : BitVec 4)
  /-- LOOP: Starts a hardware loop level with start, end and count. (R115) -/
  | loop (cell : BitVec 9) (lvl : BitVec 1) (cnt : LoopCount) (le : BitVec 12)
  /-- RETB: Ends the traverse share of the leg and resumes the background or idles. (R138) -/
  | retb (cell : BitVec 9)
  /-- BWAIT: The background records its resume point and waits for the next tick entry. (R139) -/
  | bwait (cell : BitVec 9)
  /-- CMAC: Complex multiply-accumulate into an accumulator pair. (R99) -/
  | cmac (cell : BitVec 9) (ra rb : BitVec 4) (aux : BitVec 3) (mem : MemPorts)
  /-- CMACJ: Complex multiply-accumulate with the conjugate of y. (R99) -/
  | cmacj (cell : BitVec 9) (ra rb : BitVec 4) (aux : BitVec 3) (mem : MemPorts)
  /-- CMSU: Complex multiply-subtract. (R99) -/
  | cmsu (cell : BitVec 9) (ra rb : BitVec 4) (aux : BitVec 3) (mem : MemPorts)
  /-- CMSUJ: Complex multiply-subtract with the conjugate of y. (R99) -/
  | cmsuj (cell : BitVec 9) (ra rb : BitVec 4) (aux : BitVec 3) (mem : MemPorts)
  /-- CMACR: Real-by-complex multiply-accumulate. (R99) -/
  | cmacr (cell : BitVec 9) (ra rb : BitVec 4) (aux : BitVec 3) (mem : MemPorts)
  /-- MAC2: Dual real multiply-accumulate into an accumulator pair. (R99) -/
  | mac2 (cell : BitVec 9) (ra rb rc rd : BitVec 4) (aux : BitVec 3) (mem : MemPorts)
  /-- MSU2: Dual real multiply-subtract. (R99) -/
  | msu2 (cell : BitVec 9) (ra rb rc rd : BitVec 4) (aux : BitVec 3) (mem : MemPorts)
  /-- MAS2: Dual real multiply-add and multiply-subtract. (R99) -/
  | mas2 (cell : BitVec 9) (ra rb rc rd : BitVec 4) (aux : BitVec 3) (mem : MemPorts)
  /-- MAC1: Single real multiply-accumulate into one accumulator. (R99) -/
  | mac1 (cell : BitVec 9) (ra rb : BitVec 4) (aux : BitVec 4) (mem : MemPorts)
  /-- MSU1: Single real multiply-subtract from one accumulator. (R99) -/
  | msu1 (cell : BitVec 9) (ra rb : BitVec 4) (aux : BitVec 4) (mem : MemPorts)
  /-- EXT: Extracts a rounded, optionally saturated 32-bit value from an accumulator. (R96) -/
  | ext (cell : BitVec 9) (a : BitVec 2) (rd : BitVec 4) (s : BitVec 4) (mem : MemPorts)
  /-- EXTP: Extracts both accumulators of a pair into a register pair. (R96) -/
  | extp (cell : BitVec 9) (p : BitVec 1) (rd : BitVec 4) (s : BitVec 4) (mem : MemPorts)
  /-- ACLR: Clears an accumulator and its poison. (R108) -/
  | aclr (cell : BitVec 9) (a : BitVec 2) (mem : MemPorts)
  /-- ALD: Loads an accumulator from D[RB] scaled by 2^40. (R108) -/
  | ald (cell : BitVec 9) (a : BitVec 2) (rb : BitVec 4) (mem : MemPorts)
  /-- ASHR: Arithmetic right shift of an accumulator. (R108) -/
  | ashr (cell : BitVec 9) (a : BitVec 2) (n : BitVec 4) (mem : MemPorts)
  /-- ASHL: Left shift of an accumulator modulo 2^80. (R108) -/
  | ashl (cell : BitVec 9) (a : BitVec 2) (n : BitVec 4) (mem : MemPorts)
  /-- AADD: Adds one accumulator into another. (R108) -/
  | aadd (cell : BitVec 9) (a b : BitVec 2) (mem : MemPorts)
  /-- ASUB: Subtracts one accumulator from another. (R108) -/
  | asub (cell : BitVec 9) (a b : BitVec 2) (mem : MemPorts)
  /-- AGET: Copies a part of an accumulator into a D register. (R108) -/
  | aget (cell : BitVec 9) (a : BitVec 2) (rd : BitVec 4) (part : BitVec 2) (mem : MemPorts)
  /-- APUT: Writes a part of an accumulator from a D register. (R108) -/
  | aput (cell : BitVec 9) (a : BitVec 2) (rb : BitVec 4) (part : BitVec 2) (mem : MemPorts)
  /-- MOV: Copies a D register. (R108) -/
  | mov (cell : BitVec 9) (ra rd : BitVec 4) (mem : MemPorts)
  /-- ADD: 32-bit add, saturating when MR.DSAT is 1. (R108) -/
  | add (cell : BitVec 9) (ra rb rd : BitVec 4) (mem : MemPorts)
  /-- SUB: 32-bit subtract, saturating when MR.DSAT is 1. (R108) -/
  | sub (cell : BitVec 9) (ra rb rd : BitVec 4) (mem : MemPorts)
  /-- AND: Bitwise AND. (R108) -/
  | and (cell : BitVec 9) (ra rb rd : BitVec 4) (mem : MemPorts)
  /-- OR: Bitwise OR. (R108) -/
  | or (cell : BitVec 9) (ra rb rd : BitVec 4) (mem : MemPorts)
  /-- XOR: Bitwise exclusive OR. (R108) -/
  | xor (cell : BitVec 9) (ra rb rd : BitVec 4) (mem : MemPorts)
  /-- NEG: Two's complement negation. (R108) -/
  | neg (cell : BitVec 9) (ra rd : BitVec 4) (mem : MemPorts)
  /-- ABS: Absolute value, saturating the most negative value. (R108) -/
  | abs (cell : BitVec 9) (ra rd : BitVec 4) (mem : MemPorts)
  /-- MIN: Signed minimum. (R108) -/
  | min (cell : BitVec 9) (ra rb rd : BitVec 4) (mem : MemPorts)
  /-- MAX: Signed maximum. (R108) -/
  | max (cell : BitVec 9) (ra rb rd : BitVec 4) (mem : MemPorts)
  /-- ASR: Arithmetic right shift. (R108) -/
  | asr (cell : BitVec 9) (ra rb rd : BitVec 4) (mem : MemPorts)
  /-- LSR: Logical right shift. (R108) -/
  | lsr (cell : BitVec 9) (ra rb rd : BitVec 4) (mem : MemPorts)
  /-- LSL: Left shift without saturation. (R108) -/
  | lsl (cell : BitVec 9) (ra rb rd : BitVec 4) (mem : MemPorts)
  /-- SEL: Selects D[RA] or D[RB] by the sign of D[RC]. (R108) -/
  | sel (cell : BitVec 9) (ra rb rc rd : BitVec 4) (mem : MemPorts)
  /-- LDI: Loads a 32-bit immediate into a D register. (R108) -/
  | ldi (cell : BitVec 9) (rd : BitVec 4) (imm : BitVec 32)
  /-- SETP: Sets a pointer register from an immediate. (R108) -/
  | setp (cell : BitVec 9) (n : BitVec 3) (imm : BitVec 11)
  /-- SETB: Sets a circular buffer base from an immediate. (R108) -/
  | setb (cell : BitVec 9) (n : BitVec 3) (imm : BitVec 11)
  /-- SETL: Sets a circular buffer length and BREV flag. (R119) -/
  | setl (cell : BitVec 9) (n : BitVec 3) (brev : Bool) (imm : BitVec 12)
  /-- SETM: Sets a signed post-modify step. (R108) -/
  | setm (cell : BitVec 9) (n : BitVec 3) (imm : BitVec 12)
  /-- TLOAD: Starts a move of a 256-byte tile into an operand slot, verified on arrival. (R121) -/
  | tload (cell : BitVec 9) (slot : BitVec 3) (region : Bool) (t : TileIdx)
  /-- TSTORE: Starts a move of an operand slot to a tile with a fresh check word. (R122) -/
  | tstore (cell : BitVec 9) (slot : BitVec 3) (region : Bool) (t : TileIdx)
  /-- TWAIT: Stalls until none of the masked slots is busy. (R125) -/
  | twait (cell : BitVec 9) (mask : BitVec 8)
  /-- STRM: Starts the coefficient streamer on a pair of slots. (R128) -/
  | strm (cell : BitVec 9) (slot : BitVec 3) (region : Bool) (more : BitVec 8) (first : BitVec 14)
  /-- STNEXT: Releases the older streamer slot for refill. (R128) -/
  | stnext (cell : BitVec 9)
  /-- STSTOP: Stops the streamer once any refill completes. (R130) -/
  | ststop (cell : BitVec 9)
  /-- RECV: Reads a subscription slot into a D register. (R108) -/
  | recv (cell : BitVec 9) (rd : BitVec 4) (slot : BitVec 6) (mem : MemPorts)
  /-- RECVP: Reads two subscription slots into a register pair. (R108) -/
  | recvp (cell : BitVec 9) (rd : BitVec 4) (slot : BitVec 6) (mem : MemPorts)
  /-- PUB: Writes a D register to a publish slot. (R164) -/
  | pub (cell : BitVec 9) (ra : BitVec 4) (slot : BitVec 6) (mem : MemPorts)
  /-- PUBP: Writes a register pair to two publish slots. (R164) -/
  | pubp (cell : BitVec 9) (ra : BitVec 4) (slot : BitVec 6) (mem : MemPorts)
  /-- GAIN: Applies a zero-cross gain slot to a sample, taking at most one step. (R145) -/
  | gain (cell : BitVec 9) (ra rd : BitVec 4) (slot : BitVec 6) (mem : MemPorts)
  /-- MTS: Writes a special register from a D register. (R91) -/
  | mts (cell : BitVec 9) (ra : BitVec 4) (n : BitVec 6)
  /-- MFS: Reads a special register into a D register. (R91) -/
  | mfs (cell : BitVec 9) (rd : BitVec 4) (n : BitVec 6)
  /-- ILLEGAL_INSTRUCTION: a cell issues a word that is illegal by its bits. (R102, R103) -/
  | illegalInstruction (cell : BitVec 9) (word : DWord)
  /-- TICK_BOUNDARY: the datum generates a boundary `cycles` CELL cycles and `clks` TIME clocks after the last. (R50, R61) -/
  | tickBoundary (cycles : BitVec 16) (clks : Word)
  /-- FORCED_LEG_ENTRY: leg `leg` starts. (R52) -/
  | forcedLegEntry (leg : BitVec 2)
  /-- LEG_END: the last cycle of leg `leg`. (R70, R163) -/
  | legEnd (leg : BitVec 2)
  /-- WINDOW_END: the issue cycles of window `win` of exchange `exch` (0 chip, 1 + region, 5 + cluster) end with its entries
  from position `first` on unissued. (R167) -/
  | windowEnd (exch : BitVec 6) (win : BitVec 3) (first : BitVec 16)
  /-- SCHEDULE_TILE_FETCH: a window fetches a tile of its schedule store; `bad` says that it fails its check. (R168) -/
  | scheduleTileFetch (exch : BitVec 6) (win : BitVec 3) (tile : BitVec 16) (bad : Bool)
  /-- COMMIT_WINDOW: the last 96 cycles of the tick. (R57) -/
  | commitWindow
  /-- SUSPEND: the command in channel `ch` suspends the engine. (R74, R85) -/
  | suspend (ch : BitVec 4)
  /-- RESUME: the command in channel `ch` ends a suspension. (R77, R85) -/
  | resume (ch : BitVec 4)
  /-- SET_RATE: the command in channel `ch` changes the rate. (R82, R85) -/
  | setRate (ch : BitVec 4)
  /-- COMMAND_EFFECT: the first command due takes effect. (R64, R280) -/
  | commandEffect
  /-- SUSPEND_HOLD_END: the hold of a suspension ends at this boundary. (R74) -/
  | suspendHoldEnd
  /-- RATE_FADE_END: boundary T+64 of a SET_RATE. (R82) -/
  | rateFadeEnd
  /-- FIRST_NEW_RATE_TICK: ticks resume at the new rate, `wait` ticks after the first possible boundary and `clks` TIME
  clocks after the last one. (R82) -/
  | firstNewRateTick (wait : BitVec 12) (clks : Word)
  /-- GRAPH_LOAD: the command in channel `ch` loads an image into the pending bank. (R209) -/
  | graphLoad (ch : BitVec 4)
  /-- GRAPH_LOAD_DONE: the load in progress completes or is refused. (R209, R453) -/
  | graphLoadDone
  /-- GRAPH_COMMIT: the command in channel `ch` schedules a commit. (R212) -/
  | graphCommit (ch : BitVec 4)
  /-- GRAPH_CUT: the commit due takes effect as a cut. (R213) -/
  | graphCut
  /-- GRAPH_FADE_START: the commit due takes effect as a fade. (R214) -/
  | graphFadeStart
  /-- FADE_END: the fade has run its F ticks. (R214) -/
  | fadeEnd
  /-- GRAPH_DISCARD: the command in channel `ch` empties the pending bank. (R229) -/
  | graphDiscard (ch : BitVec 4)
  /-- GRAPH_INFO: the command in channel `ch` reads the banks. (R229) -/
  | graphInfo (ch : BitVec 4)
  /-- REGION_SETTLED: SETTLE traversed ticks have passed for region `region`. (R221) -/
  | regionSettled (region : BitVec 2)
  /-- CELL_RETIRE: the command in channel `ch` retires a cell. (R224) -/
  | cellRetire (ch : BitVec 4)
  /-- RETIRE_COPY_DONE: the spare holds the retiring cell's tiles. (R224) -/
  | retireCopyDone
  /-- RETIRE_SWAP: the shadow period is over at this boundary. (R196) -/
  | retireSwap
  /-- STAKE_SET: the command in channel `ch` changes stakes. (R229) -/
  | stakeSet (ch : BitVec 4)
  /-- STAKE_GET: the command in channel `ch` reads stakes. (R229) -/
  | stakeGet (ch : BitVec 4)
  /-- STAKE_SAVE: the command in channel `ch` saves the table; `bad` is the record that fails its read-back. (R229) -/
  | stakeSave (ch : BitVec 4) (bad : Option Byte)
  /-- STAKE_LOAD: the command in channel `ch` stages a saved table. (R229) -/
  | stakeLoad (ch : BitVec 4)
  /-- PARAM_WRITE: the command in channel `ch` writes symbols. (R235, R258) -/
  | paramWrite (ch : BitVec 4)
  /-- PARAM_READ: the command in channel `ch` reads a symbol. (R258) -/
  | paramRead (ch : BitVec 4)
  /-- GAIN_SET: the command in channel `ch` sets gain targets. (R241) -/
  | gainSet (ch : BitVec 4)
  /-- GAIN_CFG: the command in channel `ch` sets up gain slots. (R242) -/
  | gainCfg (ch : BitVec 4)
  /-- GAIN_GET: the command in channel `ch` reads a gain slot. (R258) -/
  | gainGet (ch : BitVec 4)
  /-- TAIL_BIND: the command in channel `ch` binds tail streams. (R249) -/
  | tailBind (ch : BitVec 4)
  /-- TAIL_UNBIND: the command in channel `ch` ends tail streams. (R253) -/
  | tailUnbind (ch : BitVec 4)
  /-- TAIL_PERIOD: the next period of a tail stream begins. (R250, R252) -/
  | tailPeriod (region : BitVec 2) (turn : TailTurn)
  /-- TAIL_GROUP_LATE: a group of a tail stream misses its deadline; a read group misses its tiles from `first` on. (R252) -/
  | tailGroupLate (region : BitVec 2) (stream : BitVec 6) (first : BitVec 16)
  /-- TILE_MOVE_COMPLETE: the move that names slot `slot` of a cell completes; `bad` disturbs the tile as it is read. (R123) -/
  | tileMoveComplete (cell : BitVec 9) (slot : BitVec 3) (bad : Bool)
  /-- STREAMER_REFILL_DONE: the refill of a streamer slot completes. (R128) -/
  | streamerRefillDone (cell : BitVec 9) (slot : BitVec 3) (bad : Bool)
  /-- FETCH_COMPLETE: the fetch of a program tile completes. (R132) -/
  | fetchComplete (cell : BitVec 9) (tile : BitVec 7) (bad : Bool)
  /-- WAKE_EVENT: a wake event reaches a cell. (R148) -/
  | wakeEvent (cell : BitVec 9)
  /-- CELL_ON: 2,400 cycles have passed since the wake event. (R148) -/
  | cellOn (cell : BitVec 9)
  /-- WAKE_FAIL: 10 µs have passed since the wake event and the cell is not ON. (R148) -/
  | wakeFail (cell : BitVec 9)
  /-- DRAM_READAHEAD_DONE: tile `tile` of a tap's line reaches its read-ahead buffer. (R193) -/
  | dramReadaheadDone (region : BitVec 2) (tap : BitVec 10) (tile : BitVec 18) (bad : Bool)
  /-- WRITE_BEHIND_OVERFLOW: the tick affects the tiles (line, tile) of a region's engine. (R194) -/
  | writeBehindOverflow (region : BitVec 2) (tiles : List (BitVec 9 × BitVec 18))
  /-- HOST_ACCESS_ABORT: a host access of `len` bytes to space 0 PF0 BAR0, 1 PF0 BAR2 or 2 PF1 BAR0 at an offset that aborts. (R36, R41) -/
  | hostAccessAbort (space : BitVec 2) (off : BitVec 30) (len : BitVec 4) (write : Bool)
  /-- HOST_MEMORY_WINDOW_ACCESS: a host access of 4 or 8 bytes through BAR2 or a region memory window; `w` is what it writes. (R180, R260) -/
  | hostMemoryWindowAccess (bar2 : Bool) (off : BitVec 30) (wide : Bool) (w : Option TlpWrite)
  /-- FIELDBOOK_WINDOW_READ: a host read of the field book window of PF1. (R288) -/
  | fieldbookWindowRead (off : BitVec 18) (wide : Bool)
  /-- TICK_LO_READ: a 32-bit read of GCTL_TICK_LO, or of ENG_TICK_LO with `eng`. (R61) -/
  | tickLoRead (eng : Bool)
  /-- LATCHED_LO_READ: a 32-bit read of another register that latches its high half. (R40) -/
  | latchedLoRead (addr : Word)
  /-- REGISTER_WRITE: a host write of 32 bits, or of 64 with `wide`; PF1 stands at 0x8000_0000. (R13, R12, R260) -/
  | registerWrite (addr : Word) (wide : Bool) (w : TlpWrite)
  /-- DRAM_WIN_WRITE: a host write of GCTL_DRAM_WIN. (R43) -/
  | dramWinWrite (v : Word)
  /-- MSIX_COLLAPSE_WRITE: a host write of GCTL_MSIX_ROUTE.COLLAPSE. (R45) -/
  | msixCollapseWrite (on : Bool)
  /-- ABORT_CLR: a host write of GCTL_CNT_CLR.ABORT_CLR. (R41) -/
  | abortClr
  /-- AUTH_CHALLENGE: the command in channel `ch` asks for a challenge. (R284) -/
  | authChallenge (ch : BitVec 4)
  /-- AUTH_RESPONSE: the command in channel `ch` answers the challenge. (R284, R285) -/
  | authResponse (ch : BitVec 4)
  /-- AUTH_CLOSE: the command in channel `ch` ends the session. (R287) -/
  | authClose (ch : BitVec 4)
  /-- CHALLENGE_EXPIRY: 1 s has passed since the challenge's response. (R284) -/
  | challengeExpiry
  /-- AUTH_LOCKOUT_END: the 60 s of a lockout have passed. (R286) -/
  | authLockoutEnd
  /-- DOORBELL_RING: doorbell bit `bit` of region `unit` or of cluster `unit` (`cluster`) is set; with `taken` in the clock of a take of that bit. (R289, R290) -/
  | doorbellRing (cluster : Bool) (unit bit : BitVec 5) (taken : Bool)
  /-- DOORBELL_TAKE: the receiver clears a doorbell bit, or writes its mask register. (R289, R290) -/
  | doorbellTake (cluster : Bool) (unit : BitVec 5) (access : BellAccess)
  /-- DOORBELL_TIMEOUT: a pending doorbell is not taken within its limit; `ch` holds the command that needed the work, if
  any. (R291, R292) -/
  | doorbellTimeout (cluster : Bool) (unit bit : BitVec 5) (ch : Option (BitVec 4))
  /-- CMD_RING: the host writes RING = 1 to channel `ch`. (R264) -/
  | cmdRing (ch : BitVec 3)
  /-- CMD_ABORT: the host writes ABORT = 1 to channel `ch`. (R268) -/
  | cmdAbort (ch : BitVec 3)
  /-- CMD_TAKE: the executive takes the RINGING request that rang first. (R265, R277) -/
  | cmdTake
  /-- COMMAND_ACCEPT: the executive has checked the command in channel `ch` and done its work before acceptance. (R63, R278) -/
  | commandAccept (ch : BitVec 4)
  /-- CMD_RESPONSE: the executive writes the response of channel `ch`. (R263, R274) -/
  | cmdResponse (ch : BitVec 4)
  /-- CMD_TAKE_TIMEOUT: channel `ch` has been RINGING for LIMIT_US. (R267) -/
  | cmdTakeTimeout (ch : BitVec 3)
  /-- CMD_IGNORED_WRITE: a write to channel `ch` that its state makes ineffective: 0 to CMD_REQ, 1 of RING, 2 of ABORT, 3 of
  both. (R266) -/
  | cmdIgnoredWrite (ch : BitVec 3) (kind : BitVec 2)
  /-- CMD_TIMEOUT_WRITE: the host writes `v` to CMD_TIMEOUT of channel `ch`. (R267) -/
  | cmdTimeoutWrite (ch : BitVec 3) (v : Word)
  /-- FUNCTION_LEVEL_RESET: a function level reset or hot reset of PF0, or of PF1. (R269) -/
  | functionLevelReset (pf1 : Bool)
  /-- SYS_NOP: the command in channel `ch` is answered at its effect tick. (R299) -/
  | sysNop (ch : BitVec 4)
  /-- SYS_INFO: the command in channel `ch` reads identification and versions. (R299) -/
  | sysInfo (ch : BitVec 4)
  /-- SYS_TIME: the command in channel `ch` reads the time of the next boundary. (R299) -/
  | sysTime (ch : BitVec 4)
  /-- SYS_SCHED: the command in channel `ch` lists the accepted commands. (R299) -/
  | sysSched (ch : BitVec 4)
  /-- SYS_CANCEL: the command in channel `ch` cancels accepted commands. (R300) -/
  | sysCancel (ch : BitVec 4)
  /-- REF_CFG: the command in channel `ch` sets the parameters of a reference. (R339) -/
  | refCfg (ch : BitVec 4)
  /-- REF_ENABLE: the command in channel `ch` enables or disables a reference. (R309, R339) -/
  | refEnable (ch : BitVec 4)
  /-- DATUM_CFG: the command in channel `ch` sets the datum's configuration. (R339) -/
  | datumCfg (ch : BitVec 4)
  /-- DATUM_FREQ_ADJ: the command in channel `ch` sets a frequency offset. (R328) -/
  | datumFreqAdj (ch : BitVec 4)
  /-- DATUM_STEP: the command in channel `ch` moves boundaries. (R329) -/
  | datumStep (ch : BitVec 4)
  /-- DATUM_STATUS: the command in channel `ch` reads the datum's state. (R339) -/
  | datumStatus (ch : BitVec 4)
  /-- HOLDOVER_SAVE: the command in channel `ch` saves the model and the references; `bad` is the record whose
  read-back fails twice, if one does. (R327, R339) -/
  | holdoverSave (ch : BitVec 4) (bad : Option (BitVec 3))
  /-- REF_EN_WRITE: the executive writes DTM_REF_CFG of reference `ref`. (R295, R309) -/
  | refEnWrite (ref : BitVec 5) (v : Word)
  /-- REF_TIMING_POINT: a timing point of `ref` arrives `dev` thousandths of the expected period from its
  prediction; `phase` is the phase of the datum to it in 0.25 ns, positive when the datum is late. (R308, R311) -/
  | refTimingPoint (ref : RefIn) (dev : BitVec 16) (phase : Word)
  /-- MISSING_EDGE: a window of `ref` passes without an accepted point. (R308, R311) -/
  | missingEdge (ref : RefIn)
  /-- FREQ_GATE_END: a frequency gate of `ref` ends with a mean offset `freq` in ppt. (R313) -/
  | freqGateEnd (ref : BitVec 5) (freq : Word)
  /-- DATUM_LOCK: the phase and frequency errors have stayed within limits throughout LOCK_TIME. (R320) -/
  | datumLock
  /-- HOLDOVER_UPDATE: one second passes outside lock. (R322) -/
  | holdoverUpdate
  /-- MODEL_RECORD: the executive makes the 10 s record of the holdover model. (R323) -/
  | modelRecord
  /-- XO_SENSOR_READ: the XO sensor answers with a reading, or does not answer. (R324) -/
  | xoSensorRead (val : Option Half)
  /-- HOLD_LIMIT_EXPIRY: HOLD_SEC has reached HOLD_LIMIT. (R325) -/
  | holdLimitExpiry
  /-- MODEL_SAVE: the executive writes the model record; `bad` says that its read-back fails twice. (R326) -/
  | modelSave (bad : Bool)
  /-- PTP_SYNC_TIMEOUT: 4 Sync intervals pass with no Sync from the selected master. (R312) -/
  | ptpSyncTimeout
  /-- TIME_ADJ_WRITE: the executive writes DTM_TIME_ADJ. (R334) -/
  | timeAdjWrite (v : Word)
  /-- TIME_INC_WRITE: the executive writes DTM_TIME_INC_LO, DTM_TIME_INC_HI or both. (R333, R334) -/
  | timeIncWrite (lo : Option Word) (hi : Option Half)
  /-- MEDIA_OFF_WRITE: the executive writes DTM_MEDIA_OFF. (R338) -/
  | mediaOffWrite (v : DWord)
  /-- PPS_IN_EDGE: a rising edge on PPS_IN, `clks` TIME clocks after the last command that carried time, at an
  eighth of a TIME clock. (R337) -/
  | ppsInEdge (clks : Word) (eighth : BitVec 3)
  /-- START_IN_EDGE: a rising edge on START_IN, timed as PPS_IN_EDGE is. (R370, R337, R371) -/
  | startInEdge (clks : Word) (eighth : BitVec 3)
  /-- CAPTURE_NS_READ: a 32-bit read of DTM_PPS_NS, or of DTM_START_NS. (R337) -/
  | captureNsRead (start : Bool)
  /-- XO_ACTIVITY_TRIP: eight AON cycles have passed without an XO edge; `inStart` says within the start window of FBRC. (R345, R348) -/
  | xoActivityTrip (clks : Word) (inStart : Bool)
  /-- XO_WINDOW_END: a window of 1,024 AON cycles ends with `count` XO cycles. (R345) -/
  | xoWindowEnd (count : BitVec 12) (clks : Word) (inStart : Bool)
  /-- FBRC_WINDOW_END: a qualification window of FBRC ends with `count` cycles. (R346) -/
  | fbrcWindowEnd (count : BitVec 12) (clks : Word)
  /-- FBRC_START_TIMEOUT: the start window of FBRC ends. (R346) -/
  | fbrcStartTimeout
  /-- PLL_LOCK_LOSS: a PLL loses its lock. (R344, R342) -/
  | pllLockLoss (pll : BitVec 3)
  /-- INTERNAL_RESET_RELEASE: the internal reset may be released; the firmware banks may be bad, and the recovery image with them. (R348, R524) -/
  | internalResetRelease (clks : Word) (badA badB rec : Bool)
  /-- RESET_HOLD_TIMEOUT: the internal reset is held 1 ms after the release of RESET_N. (R349) -/
  | resetHoldTimeout
  /-- GATE_CLOSE: a gate unit has had no work for 16 cycles. (R350) -/
  | gateClose (unit : BitVec 5)
  /-- GATE_FORCE_WRITE: a host write of CLK_GATE_FORCE. (R351, R352) -/
  | gateForceWrite (v : Word)
  /-- FORCE_HIT: an access meets a force-gated unit. (R353) -/
  | forceHit (unit : BitVec 3) (host : Bool) (off : BitVec 30)
  /-- CLK_OBS_WRITE: a host write of CLK_OBS. (R357) -/
  | clkObsWrite (v : Word)
  /-- PORT_CFG: the command in channel `ch` configures a TDM/I²S port. (R390) -/
  | portCfg (ch : BitVec 4)
  /-- PORT_ENABLE: the command in channel `ch` enables a port. (R368, R390) -/
  | portEnable (ch : BitVec 4)
  /-- PORT_DISABLE: the command in channel `ch` disables a port. (R365, R390) -/
  | portDisable (ch : BitVec 4)
  /-- PORT_SLOTS: the command in channel `ch` sets slot masks. (R366, R390) -/
  | portSlots (ch : BitVec 4)
  /-- START_ARM: the command in channel `ch` arms a set of ports. (R369) -/
  | startArm (ch : BitVec 4)
  /-- START: the command in channel `ch` releases the armed set. (R370) -/
  | start (ch : BitVec 4)
  /-- COMMON_START_RELEASE: the boundary of a common start has come. (R370, R373) -/
  | commonStartRelease
  /-- START_OUT_PULSE: the middle of tick B − 2 of a start with OUT = 1. (R372) -/
  | startOutPulse
  /-- PORT_STATUS: the command in channel `ch` reads a port. (R390) -/
  | portStatus (ch : BitVec 4)
  /-- AES_CFG: the command in channel `ch` configures an AES3 port. (R390) -/
  | aesCfg (ch : BitVec 4)
  /-- MADI_CFG: the command in channel `ch` configures a MADI port. (R380, R390) -/
  | madiCfg (ch : BitVec 4)
  /-- TDM_SLOT_RECEIVED: port `port` samples the last bit of slot `slot`. (R362, R363, R367) -/
  | tdmSlotReceived (port : BitVec 4) (slot : BitVec 5) (bits : SlotBits)
  /-- AES3_FRAME_RECEIVED: receiver `rx` receives a frame; `good` says that its preambles and coding are valid,
  `rate` is the measured rate code, and `freq` the measured frame rate in mHz. (R374 to R378) -/
  | aes3FrameReceived (rx : BitVec 3) (good : Bool) (rate : BitVec 4) (freq : Word) (a b : SubFrame)
  /-- NONAUDIO_HOLD_END: NA_HOLD frames of receiver `rx` (MADI at 8 to 11) have passed with no preamble in pair
  `pair`. (R377) -/
  | nonaudioHoldEnd (rx : BitVec 4) (pair : BitVec 5)
  /-- MADI_FRAME_RECEIVED: MADI receiver `rx` receives a frame of up to 64 subframes. (R374 to R381) -/
  | madiFrameReceived (rx : BitVec 2) (good : Bool) (rate : BitVec 4) (freq : Word) (subs : List SubFrame)
  /-- MADI_FRAME_START: the frame of MADI transmitter `tx` due at this boundary could start `delay` ns after it.
  (R382, R383) -/
  | madiFrameStart (tx : BitVec 2) (delay : Word)
  /-- CUE_CFG: the command in channel `ch` configures a cue port. (R390) -/
  | cueCfg (ch : BitVec 4)
  /-- CUE_STATUS: the command in channel `ch` reads a cue port. (R390) -/
  | cueStatus (ch : BitVec 4)
  /-- CUE_MEASURE: cue port `port` measures: DET_N reads plugged, and the resistances of S1 and S2 to ground in Ω. (R386 to
  R388) -/
  | cueMeasure (port : BitVec 1) (plugged : Bool) (s1 s2 : Word)
  /-- CUE_CLASSIFY_TIMEOUT: 500 ms of classification pass without a result. (R387) -/
  | cueClassifyTimeout (port : BitVec 1)
  /-- CUE_BUTTON_STUCK: a button is held for STUCK_S seconds. (R388) -/
  | cueButtonStuck (port : BitVec 1)
  /-- RECEIVER_LOCK_LOSS: the signal of receiver `rx` (MADI at 8 to 11) stops and the receiver loses lock. (R374) -/
  | receiverLockLoss (rx : BitVec 4)
  /-- MAC_CFG: the command in channel `ch` configures a MAC. (R417) -/
  | macCfg (ch : BitVec 4)
  /-- MAC_ENABLE: the command in channel `ch` enables or disables a MAC. (R417) -/
  | macEnable (ch : BitVec 4)
  /-- GROUP_FILTER: the command in channel `ch` writes a hash table. (R397, R417) -/
  | groupFilter (ch : BitVec 4)
  /-- STREAM_RX_CFG: the command in channel `ch` configures a receive stream. (R417) -/
  | streamRxCfg (ch : BitVec 4)
  /-- STREAM_TX_CFG: the command in channel `ch` configures a transmit stream. (R417) -/
  | streamTxCfg (ch : BitVec 4)
  /-- STREAM_ENABLE: the command in channel `ch` enables a stream. (R411, R417) -/
  | streamEnable (ch : BitVec 4)
  /-- STREAM_DISABLE: the command in channel `ch` disables a stream. (R417) -/
  | streamDisable (ch : BitVec 4)
  /-- NET_STATS: the command in channel `ch` reads statistics. (R416, R417) -/
  | netStats (ch : BitVec 4)
  /-- NET_SEND: the command in channel `ch` sends data from DRAM. (R402, R417) -/
  | netSend (ch : BitVec 4)
  /-- NET_SEND_DONE: the NET_SEND of channel `ch` has sent its last frame, or stopped. (R402) -/
  | netSendDone (ch : BitVec 4)
  /-- PTP_CFG: the command in channel `ch` configures the PTP servo. (R414, R417) -/
  | ptpCfg (ch : BitVec 4)
  /-- FRAME_RECEIVED: MAC `mac` receives a frame, `bytes` from the destination address to the FCS, `clks` TIME clocks
  after the last command that carried time. (R396 to R400, R407 to R410, R414) -/
  | frameReceived (mac : BitVec 2) (bytes : List Byte) (clks : Word)
  /-- RXQ_TAIL_WRITE: the host writes NET_RXQ_TAIL. (R400) -/
  | rxqTailWrite (mac : BitVec 2) (v : Word)
  /-- FRAME_TRANSMIT: MAC `mac` sends its next frame. (R395, R401) -/
  | frameTransmit (mac : BitVec 2)
  /-- LINK_CHANGE: the PCS of MAC `mac` now shows block lock, a local fault and a remote fault. (R395) -/
  | linkChange (mac : BitVec 2) (lock lfault rfault : Bool)
  /-- SFP_SIDEBAND_CHANGE: the sideband inputs of MAC `mac`, MODABS_N, LOS and TXFAULT, are now at these levels. (R394) -/
  | sfpSidebandChange (mac : BitVec 2) (modabs los txfault : Bool)
  /-- NET_SNAP_TAKE: the host writes NET_SNAP.TAKE of MAC `mac`. (R416) -/
  | netSnapTake (mac : BitVec 2)
  /-- PTP_ANNOUNCE_TIMEOUT: the selected master has sent no Announce for ANNOUNCE_TO intervals. (R414) -/
  | ptpAnnounceTimeout
  /-- PTP_DELAY_REQ_INTERVAL: the servo's Delay_Req interval expires. (R414) -/
  | ptpDelayReqInterval
  /-- DRIVE_CFG: the command in channel `ch` configures a drive module. (R441) -/
  | driveCfg (ch : BitVec 4)
  /-- DRIVE_PROTECT: the command in channel `ch` replaces the protected frequencies. (R423, R441) -/
  | driveProtect (ch : BitVec 4)
  /-- DRIVE_ENABLE: the command in channel `ch` starts drive channels. (R426, R441) -/
  | driveEnable (ch : BitVec 4)
  /-- DRIVE_DISABLE: the command in channel `ch` ramps drive channels out. (R427, R441) -/
  | driveDisable (ch : BitVec 4)
  /-- DRIVE_STATUS: the command in channel `ch` reads a module. (R441) -/
  | driveStatus (ch : BitVec 4)
  /-- DRIVE_CLEAR: the command in channel `ch` returns latched channels to OFF. (R438, R441) -/
  | driveClear (ch : BitVec 4)
  /-- CARRIER_BOUNDARY: the next carrier period of module `mod` begins. (R422, R424) -/
  | carrierBoundary (mod : BitVec 3)
  /-- SENSE_FRAME: a sense frame of module `mod` arrives. (R430 to R432) -/
  | senseFrame (mod : BitVec 3) (bytes : List Byte) (link : SenseLink)
  /-- SENSE_TIMEOUT: module `mod` has sent no valid frame for 16 FCLK periods. (R432) -/
  | senseTimeout (mod : BitVec 3)
  /-- DRV_FLT_ASSERT: DRV_FLT_N of channel `chan` has been low for 4 DRIVE cycles. (R437) -/
  | drvFltAssert (chan : BitVec 6)
  /-- RETRY_START: the wait of channel `chan` is over at this boundary. (R437) -/
  | retryStart (chan : BitVec 6)
  /-- PILOT_MEASURE_DONE: a measurement of channel `chan` gives |Z| in mΩ and its phase in 0.01°. (R435, R437) -/
  | pilotMeasureDone (chan : BitVec 6) (z : Word) (phase : BitVec 16)
  /-- DC_WINDOW_END: the DC window of channel `chan` ends. (R434) -/
  | dcWindowEnd (chan : BitVec 6)
  /-- RAIL_RECOVER: PVDD of module `mod` has stayed above 1.05 × PVDD_MIN for 100 ms. (R436) -/
  | railRecover (mod : BitVec 3)
  /-- POVIN_LINK_UP: the link has trained and hello frames have carried the partner's GCTL_ID, chip identifier and PAIR_ID. (R445) -/
  | povinLinkUp (gctlId : Word) (chipId : DWord) (pairId : Bool)
  /-- POVIN_LINK_DOWN: the link loses training. (R451) -/
  | povinLinkDown
  /-- POVIN_FRAME_ERROR: a frame fails its CRC, or the lane's coding is broken (`coding`). (R444) -/
  | povinFrameError (coding : Bool)
  /-- HEARTBEAT_RECEIVED: a heartbeat frame arrives `arrival` quarter nanoseconds after this chip's boundary, with the drive
  channel states sent beside it. (R447, R439) -/
  | heartbeatReceived (frame : List Byte) (arrival : Word) (drive : List Word)
  /-- OWN_POINT: the warden's own point finds that this chip's heartbeat has `left`. (R448) -/
  | ownPoint (left : Bool)
  /-- PARTNER_POINT: the partner point, with the level of PAIR_OWN_IN. (R448) -/
  | partnerPoint (ownIn : Bool)
  /-- TAKEOVER: the boundary at which a takeover decided takes place. (R459, R460, R461) -/
  | takeover
  /-- OWNERSHIP_RELEASE: the owner releases at once where a condition for it holds. (R462, R463) -/
  | ownershipRelease
  /-- PLANNED_RELEASE: boundary R of a planned release. (R465) -/
  | plannedRelease
  /-- MIRROR_COPY_RECEIVED: the copy of the command in the owner's channel `ch` arrives, with its effect tick. (R452) -/
  | mirrorCopyReceived (ch : BitVec 4) (packet : List Byte) (tick : DWord)
  /-- MIRROR_ACK_RECEIVED: the standby answers the copy of channel `ch` with a reason. (R452) -/
  | mirrorAckReceived (ch : BitVec 4) (reason : Half)
  /-- MIRROR_ACK_TIMEOUT: the copy of channel `ch` was not answered within its limit, or, on the standby, is withdrawn because
  its acknowledgement came too late for the effect tick (`late`). (R452, R453) -/
  | mirrorAckTimeout (ch : BitVec 4) (late : Bool)
  /-- MIRROR_FORWARD_RECEIVED: a command of the standby's channel `ch` arrives at the owner. (R452) -/
  | mirrorForwardReceived (ch : BitVec 3) (packet : List Byte)
  /-- FORWARD_RESULT_RECEIVED: the owner's result for the forwarded command of channel `ch` arrives. (R452) -/
  | forwardResultReceived (ch : BitVec 3) (reason : Half) (applied : DWord) (payload : List Byte)
  /-- BULK_FRAME_RECEIVED: an item of a bulk frame arrives. (R454, R466) -/
  | bulkFrameReceived (item : BulkItem)
  /-- PAIR_STATUS: the command in channel `ch` reads the pair's status. (R468) -/
  | pairStatus (ch : BitVec 4)
  /-- PAIR_HANDOVER: the command in channel `ch` asks for a planned release. (R468) -/
  | pairHandover (ch : BitVec 4)
  /-- PAIR_RESYNC: the command in channel `ch` starts a resynchronisation; `standby` is the standby's own reason, 0 when it
  can take the copy. (R466, R468) -/
  | pairResync (ch : BitVec 4) (standby : Half)
  /-- RESYNC_COMMIT: boundary C_r; `bad` says that the node record fails its read-back. (R466, R531) -/
  | resyncCommit (bad : Bool)
  /-- LIVENESS_UPDATE: the executive sets its liveness bit. (R464) -/
  | livenessUpdate
  /-- EXEC_WDOG_EXPIRY: 3 ms have passed without a liveness update. (R464) -/
  | execWdogExpiry
  /-- PAIR_SIG_TAKE: the host copies the last matched signatures. (R469) -/
  | pairSigTake
  /-- DQS_OSC_CHECK: the DQS interval oscillator shows a drift beyond the limit, or none. (R475) -/
  | dqsOscCheck (drift : Bool)
  /-- RETRAIN_WINDOW: a retraining window of `len` tenths of a microsecond. (R475, R477) -/
  | retrainWindow (len : BitVec 5)
  /-- DDR_FREQ_CHANGE: a frequency change of `len` tenths of a microsecond. (R476, R477) -/
  | ddrFreqChange (len : BitVec 10)
  /-- DRAM_READ_DONE (R478): a DRAM tile read of an initiator completes, with link corrections, a first and a second uncorrectable read and a disturbance of the tile. -/
  | dramReadDone (init : BitVec 4) (tile : BitVec 27) (corr : BitVec 8) (err1 err2 bad : Bool) (link : ReadEnd)
  /-- DRAM_WRITE_DONE (R478): the write entry that holds a write of an initiator is written, or discarded for a parity error. -/
  | dramWriteDone (init : BitVec 4) (addr : BitVec 35) (bytes : List Byte) (mark : Bool) (link : WriteEnd)
  /-- BMX_HELD_ISSUE (R484): a held transaction joins those that wait at a target port, and the port grants one of them (R482). -/
  | bmxHeldIssue
  /-- DEFAULT_TARGET: an initiator's transaction goes to the default target. (R485) -/
  | defaultTarget (init : BitVec 4) (addr : BitVec 40) (write : Bool)
  /-- BUS_TIMEOUT: a target has been silent for 1 ms. (R486) -/
  | busTimeout (init : BitVec 4) (addr : BitVec 40) (write : Bool)
  /-- DMA_START: a host write of EN = 1. (R488) -/
  | dmaStart (ch : BitVec 4)
  /-- DMA_ABORT: a host write of EN = 0. (R497) -/
  | dmaAbort (ch : BitVec 4)
  /-- DMA_CHANNEL_RUN: the channel at the head of the queue starts. (R490) -/
  | dmaChannelRun
  /-- DMA_READ_RESPONSE: the read of the burst in progress is answered. (R491, R493) -/
  | dmaReadResponse (err : Bool)
  /-- DMA_WRITE_RESPONSE: the write of the burst in progress is answered. (R491, R493) -/
  | dmaWriteResponse (err : Bool)
  /-- FAULT_ACK_WRITE: a host write of FLT_UNACK. (R504) -/
  | faultAckWrite (mask : Word)
  /-- BLOCK_RESET: the first level-3 reset that is due takes place. (R506) -/
  | blockReset
  /-- FAULT_CFG: the command in channel `ch` sets the reaction level of a class. (R518, R504) -/
  | faultCfg (ch : BitVec 4)
  /-- FAULT_ACK: the command in channel `ch` acknowledges classes. (R518, R504) -/
  | faultAck (ch : BitVec 4)
  /-- FAULT_STATUS: the command in channel `ch` reads the fault state. (R518, R508) -/
  | faultStatus (ch : BitVec 4)
  /-- CNT_READ: the command in channel `ch` reads a snapshot of counters. (R518, R510) -/
  | cntRead (ch : BitVec 4)
  /-- CNT_CLEAR: the command in channel `ch` clears counters. (R510) -/
  | cntClear (ch : BitVec 4)
  /-- COUNTER_SNAPSHOT: the executive writes its hourly snapshot; `bad` is the record that fails its read-back. (R511) -/
  | counterSnapshot (bad : Option (BitVec 2))
  /-- VCORE_AVERAGE: an average of four supply samples, given as their sum in millivolts. (R512) -/
  | vcoreAverage (sum : Half)
  /-- SHED_STAGE_FALL: the supply has been above the exit threshold long enough. (R512, R513) -/
  | shedStageFall
  /-- DIE_TEMP_READ: a reading of the die temperature. (R513, R516) -/
  | dieTempRead (t : Half)
  /-- SHED_STAGE_EFFECT: the stage in force takes effect at a boundary. (R514) -/
  | shedStageEffect
  /-- SHED_RESET_RELEASE: the reset of stage 5 is released. (R516, R515) -/
  | shedResetRelease
  /-- FW_WRITE: the command in channel `ch` programs a firmware slot; `bad` says that a QSPI access or the read-back fails. (R544) -/
  | fwWrite (ch : BitVec 4) (bad : Bool)
  /-- FW_VERIFY: the command in channel `ch` verifies a firmware slot; `bad` says that a QSPI read does not complete. (R534, R544) -/
  | fwVerify (ch : BitVec 4) (bad : Bool)
  /-- EXEC_SWAP: the command in channel `ch` schedules an executive handover; `bad` says that a QSPI read does not complete. (R537) -/
  | execSwap (ch : BitVec 4) (bad : Bool)
  /-- EXEC_HANDOVER: boundary H holds the channels; with `taken` the new executive has taken the handover block. (R537) -/
  | execHandover (taken : Bool)
  /-- HANDOVER_TIMEOUT: the new executive has not taken the handover block within 1 ms. (R538) -/
  | handoverTimeout
  /-- FW_SLOT_SET: the command in channel `ch` writes the firmware pointer record; `bad` says that a QSPI read does not complete,
  `rec` that the record fails its read-back. (R535, R544) -/
  | fwSlotSet (ch : BitVec 4) (bad rec : Bool)
  /-- FB_WRITE: the command in channel `ch` writes records; record `bad` of them fails its read-back. (R529, R544) -/
  | fbWrite (ch : BitVec 4) (bad : Option Byte)
  /-- KEY_SET: the command in channel `ch` writes a key slot; `bad` says that the record fails its read-back. (R544) -/
  | keySet (ch : BitVec 4) (bad : Bool)
  /-- RESET_N_ASSERT: RESET_N falls. (R554, R521) -/
  | resetNAssert
  /-- RESET_N_RELEASE: RESET_N rises with the strap balls as given. (R521, R522) -/
  | resetNRelease (straps : BitVec 6)
  /-- PERST_N_ASSERT: PERST_N falls, or rises again. (R522, R521) -/
  | perstNAssert (low : Bool)
  /-- RAIL_POWER_FAIL: a rail leaves its range. (R552, R521) -/
  | railPowerFail
  /-- RAIL_POWER_GOOD: all rails are within their ranges. (R552, R521) -/
  | railPowerGood
  /-- EXEC_READY: the executive has started; DRAM may not have trained, with one rank per channel or two. (R526, R524) -/
  | execReady (trained ranks : Bool)
  /-- EXEC_RESTART_DONE: a restarted executive is ready. (R506) -/
  | execRestartDone
  /-- TAP_TEST_MODE: the test access port loads an instruction, or enters Test-Logic-Reset. (R540, R541) -/
  | tapTestMode (scan : TapScan)
  /-- KEY_LOAD: the test access port writes a session key. (R542) -/
  | keyLoad (slot : BitVec 8) (key : BitVec 256)
  /-- DEBUG_ENABLE_WRITE: a host write of GCTL_DEBUG. (R543) -/
  | debugEnableWrite (on : Bool)
  /-- PCIE_LINK_LOSS: the PCIe link is lost. (R287) -/
  | pcieLinkLoss
deriving DecidableEq, Repr

end Sys2Proof
end

