-- ==== Sys2Proof/Config.lean ====
section
/-! DEFINITION. What one implementation fixes and what the spec leaves open.
Every constant here is opaque and has no body: nothing can evaluate it, so a claim about it holds for every value. -/
namespace Sys2Proof.Config

/-- A free value: the n-th value the machine produces where the spec states none (log entry 3). -/
opaque freeValue : Nat → Word

/-- The two public keys for firmware images in the boot ROM (R533), whose values the spec does not give (log entry 14). -/
opaque romKey : Nat → BitVec 256

/-- The cell of the boundary-scan register that drives an output ball (R540): the order of the cells is in a file that the spec does not
hold (log entry 55). -/
opaque bsrCell : Nat → Nat

/-- The transactions that wait at the ports of the bus matrix when one that was held back is issued for the n-th time, the oldest
first, each by its initiator and its address (R482, R484): what the initiators ask is not part of the state (log entry 57). -/
opaque busWaiting : Nat → List (Nat × Nat)

/-- The bank and the row of the devices that hold a tile of DRAM, and with them whether a request hits an open row (R472): the spec gives
the channel of an address and no more (log entry 57). -/
opaque dramBank : Nat → Nat
opaque dramRow : Nat → Nat

end Sys2Proof.Config
end

