-- ==== Sys2Proof/Machine/Num.lean ====
section
/-! DEFINITION. Rounding, saturation, bit fields, byte order and checksums: the arithmetic the rules share. -/
namespace Sys2Proof.Machine
open Sys2Proof

/-- ⟨n / d⟩: the nearest integer to n / d for d > 0, a tie going to the even one (R96, R145). -/
def roundEven (n d : Int) : Int :=
  let q := Int.fdiv n d
  let r := Int.fmod n d
  if 2 * r < d then q
  else if 2 * r > d then q + 1
  else if q % 2 = 0 then q else q + 1

/-- Clamps `n` to the range `lo` to `hi`. -/
def clampInt (lo hi n : Int) : Int := if n < lo then lo else if n > hi then hi else n

/-- A number lies in a range. -/
def within (n lo hi : Nat) : Bool := decide (lo ≤ n) && decide (n ≤ hi)

/-- Inserts an element behind those whose key is the same or less. -/
def insertBy {α : Type} (key : α → Nat) (x : α) : List α → List α
  | [] => [x]
  | y :: r => if key x < key y then x :: y :: r else y :: insertBy key x r

/-- A list in the order of a key; elements of one key keep their order. -/
def sortBy {α : Type} (key : α → Nat) (l : List α) : List α := l.foldl (fun a x => insertBy key x a) []

/-- The 32-bit two's complement range. -/
def maxS32 : Int := 2147483647
def minS32 : Int := -2147483648

/-- Saturates to 32 bits; the flag says whether saturation took place. -/
def sat32 (n : Int) : Word × Bool :=
  if n > maxS32 then (BitVec.ofInt 32 maxS32, true)
  else if n < minS32 then (BitVec.ofInt 32 minS32, true)
  else (BitVec.ofInt 32 n, false)

/-- ⌈n / d⌉ for naturals, d > 0. -/
def ceilDiv (n d : Nat) : Nat := (n + d - 1) / d

/-- Bits `hi` down to `lo` of a number. -/
def bits (n hi lo : Nat) : Nat := (n >>> lo) % 2 ^ (hi + 1 - lo)

/-- Bit `i` of a number. -/
def bitAt (n i : Nat) : Bool := n.testBit i

/-- Bits `hi` down to `lo` of a word, as a number. -/
def fld {w : Nat} (x : BitVec w) (hi lo : Nat) : Nat := bits x.toNat hi lo

/-- Replaces bits `hi` down to `lo` of a word. -/
def putFld (x : Word) (hi lo v : Nat) : Word :=
  let m : Word := BitVec.ofNat 32 ((2 ^ (hi + 1 - lo) - 1) <<< lo)
  (x &&& ~~~m) ||| (BitVec.ofNat 32 (v <<< lo) &&& m)

/-- Sets or clears bit `i` of a word. -/
def putBit (x : Word) (i : Nat) (b : Bool) : Word := putFld x i i (ofFlag b)

/-- Reverses the order of the low `k` bits of `n` (R119). -/
def revBits : Nat → Nat → Nat
  | 0, _ => 0
  | k + 1, n => (n % 2) * 2 ^ k + revBits k (n / 2)

/-- The little-endian number of a list of bytes (R9). -/
def leNat : List Byte → Nat
  | [] => 0
  | b :: r => b.toNat + 256 * leNat r

/-- The `n` little-endian bytes of a number (R9). -/
def leBytes : Nat → Nat → List Byte
  | 0, _ => []
  | n + 1, v => BitVec.ofNat 8 v :: leBytes n (v / 256)

/-- Bytes `off` to `off + n − 1` of a byte list as a number; bytes past the end read 0. -/
def leField (b : List Byte) (off n : Nat) : Nat := leNat ((b.drop off).take n)

/-- `n` bytes of a list from `off`, padded with zero bytes. -/
def bytesFrom (b : List Byte) (off n : Nat) : List Byte :=
  let p := (b.drop off).take n
  p ++ List.replicate (n - p.length) 0

/-- Whether bytes `off` to `off + n − 1` are all zero. -/
def zeroBytes (b : List Byte) (off n : Nat) : Bool := ((b.drop off).take n).all (· == 0)

/-- The two running sums of the check word over little-endian halfwords (R174). -/
def fletcher : List Byte → Nat → Nat → Nat × Nat
  | lo :: hi :: r, c0, c1 =>
    let c0' := (c0 + (lo.toNat + 256 * hi.toNat)) % 65535
    fletcher r c0' ((c1 + c0') % 65535)
  | _, c0, c1 => (c0, c1)

/-- The check word of a tile (R174). -/
def checkWord (tile : List Byte) : Word :=
  let s := fletcher tile 0 0
  BitVec.ofNat 32 (s.2 * 65536 + s.1)

/-- One bit step of a reflected CRC with polynomial `poly`. -/
def crcBit (poly : Word) (c : Word) : Word :=
  if c.getLsbD 0 then (c >>> 1) ^^^ poly else c >>> 1

/-- One byte step of a reflected CRC. -/
def crcByte (poly : Word) (c : Word) (b : Byte) : Word :=
  let x := c ^^^ b.setWidth 32
  (crcBit poly (crcBit poly (crcBit poly (crcBit poly
    (crcBit poly (crcBit poly (crcBit poly (crcBit poly x))))))))

/-- A reflected CRC-32 with initial value and final XOR of all ones. -/
def crc32With (poly : Word) (b : List Byte) : Word :=
  ~~~(b.foldl (crcByte poly) 0xFFFFFFFF)

/-- CRC-32C: polynomial 0x1EDC_6F41, reflected (R204). -/
def crc32c (b : List Byte) : Word := crc32With 0x82F63B78 b

end Sys2Proof.Machine
end

