-- ==== Sys2Proof/Machine/Regs.lean ====
section
/-! DEFINITION. The register map: the offset of every register of the spec, and for each the reset value,
the bits the host writes (H-RW of R12) and the flags a written 1 clears (W1C of R12).
Offsets are those of PF0 BAR0; a register of PF1 BAR0 stands at 0x8000_0000 plus its offset there. -/
namespace Sys2Proof.Machine.Reg
open Sys2Proof

/-- The first register of command channel `ch`: channels 0 to 3 in PF0, 4 to 7 in PF1 (the address map). -/
def cmdBase (ch : Nat) : Nat := if ch < 4 then 0x10000 + 0x1000 * ch else 0x80010000 + 0x1000 * (ch - 4)

/-- The common channel registers of a PF. -/
def cmdCommon (pf1 : Bool) : Nat := if pf1 then 0x80018000 else 0x18000

def GCTL_ID : Nat := 0x0
def GCTL_SCRATCH : Nat := 0x4
def GCTL_TICK_LO : Nat := 0x8
def GCTL_TICK_HI : Nat := 0xC
def GCTL_STATUS : Nat := 0x10
def GCTL_STRAP : Nat := 0x14
def GCTL_MSIX_ROUTE : Nat := 0x18
def GCTL_MSIX_SRC : Nat := 0x1C
def GCTL_DRAM_WIN : Nat := 0x20
def GCTL_ABORT_CNT : Nat := 0x24
def GCTL_ABORT_LAST : Nat := 0x28
def GCTL_CNT_CLR : Nat := 0x2C
def ENG_TICK_LO : Nat := 0xE0000
def ENG_TICK_HI : Nat := 0xE0004
def ENG_STATE : Nat := 0xE0008
def ENG_SUSPEND_LEFT : Nat := 0xE000C
def ENG_LEG_LEN : Nat := 0xE0010
def ENG_MARGIN_MIN : Nat := 0xE0014
def ENG_CLOSURE_OVR : Nat := 0xE0018
def ENG_CLOSURE_LAST : Nat := 0xE001C
def ENG_HELD_CNT : Nat := 0xE0020
def ENG_EVENT : Nat := 0xE0024
def ENG_CNT_CLR : Nat := 0xE0028
def ENG_RATE_DISCARD : Nat := 0xE002C
def ENG_CELL_SEL : Nat := 0xE0100
def ENG_CELL_STAT : Nat := 0xE0104
def ENG_CELL_ON : Nat := 0xE0108
def ENG_ILL_CNT : Nat := 0xE010C
def ENG_CELL_CLR : Nat := 0xE0110
def ENG_TCHK_CNT : Nat := 0xE0200
def ENG_TCHK_LAST : Nat := 0xE0204
def ENG_LATE_CNT : Nat := 0xE0208
def ENG_LATE_LAST : Nat := 0xE020C
def ENG_COLL_CNT : Nat := 0xE0210
def ENG_COLL_LAST : Nat := 0xE0214
def ENG_MUTE_CNT : Nat := 0xE0218
def ENG_MUTE_LAST : Nat := 0xE021C
def ENG_CTT_SEL : Nat := 0xE0220
def ENG_CTT_LO : Nat := 0xE0224
def ENG_CTT_HI : Nat := 0xE0228
def ENG_CHAIN_EVENT : Nat := 0xE022C
def ENG_CHAIN_CLR : Nat := 0xE0230
def ENG_DLY_MARGIN : Nat := 0xE0234
def ENG_LIVE_ID_LO : Nat := 0xE0300
def ENG_LIVE_ID_HI : Nat := 0xE0304
def ENG_GRAPH_STAT : Nat := 0xE0308
def ENG_FADE_LEFT : Nat := 0xE030C
def ENG_RETIRE : Nat := 0xE0310
def ENG_RETIRE_LEFT : Nat := 0xE0314
def ENG_STK_STAT : Nat := 0xE0318
def ENG_GRAPH_EVENT : Nat := 0xE031C
def ENG_GRAPH_CLR : Nat := 0xE0320
def ENG_PARAM_DROP : Nat := 0xE0400
def ENG_PARAM_MARK : Nat := 0xE0404
def ENG_GAIN_STAT : Nat := 0xE0408
def ENG_GAIN_TMO : Nat := 0xE040C
def ENG_TAIL_STAT : Nat := 0xE0410
def ENG_TAIL_LATE : Nat := 0xE0414
def ENG_DITHER_STAT : Nat := 0xE0418
def ENG_PARAM_EVENT : Nat := 0xE041C
def ENG_PARAM_CLR : Nat := 0xE0420
def ENG_MBX_CNT : Nat := 0xE0500
def ENG_MBX_LAST : Nat := 0xE0504
def ENG_MBX_EVENT : Nat := 0xE0508
def ENG_MBX_CLR : Nat := 0xE050C
def DTM_STATE : Nat := 0x30000
def DTM_CTRL : Nat := 0x30004
def DTM_LOCK_CFG : Nat := 0x30008
def DTM_SEL_CFG : Nat := 0x3000C
def DTM_PHASE_ERR : Nat := 0x30010
def DTM_FREQ : Nat := 0x30014
def DTM_STEP_LEFT : Nat := 0x30018
def DTM_HOLD_SEC : Nat := 0x3001C
def DTM_REF_SEL : Nat := 0x30020
def DTM_REF_CFG : Nat := 0x30024
def DTM_REF_WIN : Nat := 0x30028
def DTM_REF_STAT : Nat := 0x3002C
def DTM_REF_FREQ : Nat := 0x30030
def DTM_REF_CNT : Nat := 0x30034
def DTM_REASON : Nat := 0x30038
def DTM_TIME_INC_LO : Nat := 0x30040
def DTM_TIME_INC_HI : Nat := 0x30044
def DTM_TIME_ADJ : Nat := 0x30048
def DTM_TEMP : Nat := 0x30070
def DTM_MEDIA_OFF_LO : Nat := 0x30078
def DTM_MEDIA_OFF_HI : Nat := 0x3007C
def DTM_LOST_CNT : Nat := 0x30080
def DTM_UNLOCK_CNT : Nat := 0x30084
def DTM_EVENT : Nat := 0x30088
def DTM_CNT_CLR : Nat := 0x3008C
def CLK_STAT : Nat := 0x40000
def CLK_XO_WIN : Nat := 0x40004
def CLK_TRIP_CNT : Nat := 0x40008
def CLK_GATE_STAT : Nat := 0x4000C
def CLK_SAP_GATE : Nat := 0x40010
def CLK_GATE_FORCE : Nat := 0x40014
def CLK_REASON : Nat := 0x40018
def CLK_FORCE_HIT : Nat := 0x4001C
def CLK_OBS : Nat := 0x40020
def CLK_OBS_EFF : Nat := 0x40024
def CLK_RESET_CAUSE : Nat := 0x40028
def CLK_EVENT : Nat := 0x4002C
def CLK_CNT_CLR : Nat := 0x40030
def SAP_START_CFG : Nat := 0x50600
def SAP_START_MASK : Nat := 0x50604
def SAP_REASON : Nat := 0x50610
def SAP_EVENT : Nat := 0x50620
def SAP_CNT_CLR : Nat := 0x50624
def CUE_EVENT : Nat := 0xD0020
def NET_STRM_SEL : Nat := 0x64000
def NET_STRM_STAT : Nat := 0x64004
def NET_STRM_BUF : Nat := 0x64008
def NET_STRM_REASON : Nat := 0x64014
def NET_EVENT : Nat := 0x6600C
def NET_CNT_CLR : Nat := 0x66010
def DRV_STAT : Nat := 0x70000
def DRV_GUARD : Nat := 0x70004
def DRV_REASON : Nat := 0x70008
def DRV_SENSE_ERR : Nat := 0x70060
def DRV_EVENT : Nat := 0x70064
def DRV_CNT_CLR : Nat := 0x70068
def PAIR_STAT : Nat := 0x80000
def PAIR_PHASE : Nat := 0x80004
def PAIR_PARTNER_ID : Nat := 0x80008
def PAIR_HB_CNT : Nat := 0x8001C
def PAIR_DIV_CNT : Nat := 0x80020
def PAIR_DIV_LAST : Nat := 0x80024
def PAIR_TAKE_CNT : Nat := 0x80028
def PAIR_LINK_ERR : Nat := 0x8002C
def PAIR_EVENT : Nat := 0x80030
def PAIR_CNT_CLR : Nat := 0x80034
def PAIR_SIG_TAKE : Nat := 0x80038
def DDR_STAT : Nat := 0xA0000
def DDR_ABSENT : Nat := 0xA0004
def DDR_BW : Nat := 0xA0024
def DDR_EVENT : Nat := 0xA0028
def DDR_CNT_CLR : Nat := 0xA002C
def BMX_HOLD_CNT : Nat := 0xB0018
def BMX_EVENT : Nat := 0xB001C
def BMX_CNT_CLR : Nat := 0xB0020
def DMA_STAT : Nat := 0x90000
def DMA_REASON : Nat := 0x90004
def DMA_ERR_CNT : Nat := 0x90008
def DMA_EVENT : Nat := 0x9000C
def DMA_CNT_CLR : Nat := 0x90010
def FLT_LAST : Nat := 0x20098
def FLT_FAULTN : Nat := 0x2009C
def FLT_EVENT : Nat := 0x200A8
def FLT_CNT_CLR : Nat := 0x200AC
def PWR_STAT : Nat := 0xC0000
def PWR_VCORE : Nat := 0xC0004
def PWR_VMIN : Nat := 0xC0008
def PWR_RESET_CAUSE : Nat := 0xC0014
def PWR_EVENT : Nat := 0xC0018
def PWR_CNT_CLR : Nat := 0xC001C
def GCTL_BOOT : Nat := 0x30
def GCTL_DEBUG : Nat := 0x34
def DTM_PPS_NS : Nat := 0x30050
def DTM_START_NS : Nat := 0x30060
def DTM_PPS_SEC_LO : Nat := 0x30054
def DTM_START_SEC_LO : Nat := 0x30064
def DTM_PPS_SEC_HI : Nat := 0x30058
def DTM_START_SEC_HI : Nat := 0x30068
def SAP_TDM_CFG (i : Nat) : Nat := 0x50000 + 0x20 * i
def SAP_TDM_RXMASK (i : Nat) : Nat := 0x50004 + 0x20 * i
def SAP_TDM_TXMASK (i : Nat) : Nat := 0x50008 + 0x20 * i
def SAP_TDM_DIV (i : Nat) : Nat := 0x5000C + 0x20 * i
def SAP_TDM_MDIV (i : Nat) : Nat := 0x50010 + 0x20 * i
def SAP_AESRX_CFG (i : Nat) : Nat := 0x50200 + 0x20 * i
def SAP_AESRX_STAT (i : Nat) : Nat := 0x50204 + 0x20 * i
def SAP_AESRX_CS (i j : Nat) : Nat := 0x50208 + 0x20 * i + 0x4 * j
def SAP_AESTX_CS (i j : Nat) : Nat := 0x50304 + 0x20 * i + 0x4 * j
def SAP_AESTX_CFG (i : Nat) : Nat := 0x50300 + 0x20 * i
def SAP_MADIRX_CFG (i : Nat) : Nat := 0x50400 + 0x20 * i
def SAP_MADITX_CFG (i : Nat) : Nat := 0x50480 + 0x20 * i
def SAP_MADIRX_STAT (i : Nat) : Nat := 0x50404 + 0x20 * i
def SAP_MADIRX_ACT_LO (i : Nat) : Nat := 0x50408 + 0x20 * i
def SAP_MADIRX_ACT_HI (i : Nat) : Nat := 0x5040C + 0x20 * i
def SAP_MADIRX_NA_LO (i : Nat) : Nat := 0x50410 + 0x20 * i
def SAP_MADIRX_NA_HI (i : Nat) : Nat := 0x50414 + 0x20 * i
def SAP_MADITX_CS (i j : Nat) : Nat := 0x50484 + 0x20 * i + 0x4 * j
def SAP_REL_TICK_LO : Nat := 0x50608
def SAP_REL_TICK_HI : Nat := 0x5060C
def SAP_SLIP_CNT : Nat := 0x50614
def SAP_NA_CNT : Nat := 0x50618
def SAP_PAR_CNT : Nat := 0x5061C
def CUE_CFG (i : Nat) : Nat := 0xD0000 + 0x10 * i
def CUE_STAT (i : Nat) : Nat := 0xD0004 + 0x10 * i
def NET_MAC_CFG (i : Nat) : Nat := 0x60000 + 0x1000 * i
def NET_MAC_STAT (i : Nat) : Nat := 0x60004 + 0x1000 * i
def NET_MAC_VLAN (i : Nat) : Nat := 0x60010 + 0x1000 * i
def NET_MAC_REASON (i : Nat) : Nat := 0x60014 + 0x1000 * i
def NET_RXQ_SIZE (i : Nat) : Nat := 0x60018 + 0x1000 * i
def NET_SNAP (i : Nat) : Nat := 0x60024 + 0x1000 * i
def NET_MAC_ADDR_LO (i : Nat) : Nat := 0x60008 + 0x1000 * i
def NET_MAC_ADDR_HI (i : Nat) : Nat := 0x6000C + 0x1000 * i
def NET_RXQ_HEAD (i : Nat) : Nat := 0x6001C + 0x1000 * i
def NET_RXQ_TAIL (i : Nat) : Nat := 0x60020 + 0x1000 * i
def NET_HASH (i j : Nat) : Nat := 0x60040 + 0x1000 * i + 0x4 * j
def NET_SNAP_STAT (i j : Nat) : Nat := 0x60100 + 0x1000 * i + 0x4 * j
def NET_PPS_RX : Nat := 0x6400C
def NET_PPS_TX : Nat := 0x64010
def NET_LATE_CNT : Nat := 0x64018
def NET_GAP_CNT : Nat := 0x6401C
def NET_TIME_NS : Nat := 0x65000
def NET_TIME_SEC_LO : Nat := 0x65004
def NET_TIME_SEC_HI : Nat := 0x65008
def NET_CRC_CNT : Nat := 0x66000
def NET_RUNT_CNT : Nat := 0x66004
def NET_OVERSIZE_CNT : Nat := 0x66008
def DRV_PROT_F (i : Nat) : Nat := 0x70010 + 0x4 * i
def DRV_OC_CNT : Nat := 0x70050
def DRV_DC_CNT : Nat := 0x70054
def DRV_LOAD_CNT : Nat := 0x70058
def DRV_RAIL_CNT : Nat := 0x7005C
def DRV_MOD_CTRL (i : Nat) : Nat := 0x70100 + 0x10 * i
def DRV_MOD_RAIL (i : Nat) : Nat := 0x70104 + 0x10 * i
def DRV_MOD_TEMP (i : Nat) : Nat := 0x70108 + 0x10 * i
def DRV_MOD_FCARR (i : Nat) : Nat := 0x7010C + 0x10 * i
def DRV_CH_STAT (i : Nat) : Nat := 0x70200 + 0x8 * i
def DRV_CH_Z (i : Nat) : Nat := 0x70204 + 0x8 * i
def PAIR_HB_TICK_LO : Nat := 0x8000C
def PAIR_HB_TICK_HI : Nat := 0x80010
def PAIR_RELEASE_LO : Nat := 0x80014
def PAIR_RELEASE_HI : Nat := 0x80018
def PAIR_SIG_TICK_LO : Nat := 0x80040
def PAIR_SIG_TICK_HI : Nat := 0x80044
def PAIR_SIG_OWN (i : Nat) : Nat := 0x80048 + 0x4 * i
def PAIR_SIG_PTR (i : Nat) : Nat := 0x80070 + 0x4 * i
def DDR_XFER_CNT : Nat := 0xA0008
def DDR_TCHK_CNT : Nat := 0xA0010
def DDR_CORR_CNT : Nat := 0xA0018
def DDR_RETRAIN_CNT : Nat := 0xA001C
def DDR_FWD_CNT : Nat := 0xA0020
def DDR_XFER_ADDR : Nat := 0xA000C
def DDR_TCHK_ADDR : Nat := 0xA0014
def BMX_DEC_CNT : Nat := 0xB0000
def BMX_ERR_CNT : Nat := 0xB000C
def BMX_DEC_ADDR_LO : Nat := 0xB0004
def BMX_DEC_ADDR_HI : Nat := 0xB0008
def BMX_ERR_ADDR_LO : Nat := 0xB0010
def BMX_ERR_ADDR_HI : Nat := 0xB0014
def DMA_CH_SRC_LO (i : Nat) : Nat := 0x90100 + 0x40 * i
def DMA_CH_SRC_HI (i : Nat) : Nat := 0x90104 + 0x40 * i
def DMA_CH_DST_LO (i : Nat) : Nat := 0x90108 + 0x40 * i
def DMA_CH_DST_HI (i : Nat) : Nat := 0x9010C + 0x40 * i
def DMA_CH_COUNT (i : Nat) : Nat := 0x90110 + 0x40 * i
def DMA_CH_CFG (i : Nat) : Nat := 0x90114 + 0x40 * i
def DMA_CH_CTRL (i : Nat) : Nat := 0x90118 + 0x40 * i
def DMA_CH_STAT (i : Nat) : Nat := 0x9011C + 0x40 * i
def DMA_CH_LEFT (i : Nat) : Nat := 0x90120 + 0x40 * i
def DMA_CH_RES_CNT (i : Nat) : Nat := 0x9012C + 0x40 * i
def DMA_CH_RES_ADDR_LO (i : Nat) : Nat := 0x90124 + 0x40 * i
def DMA_CH_RES_ADDR_HI (i : Nat) : Nat := 0x90128 + 0x40 * i
def FLT_CFG (i : Nat) : Nat := 0x20000 + 0x4 * i
def FLT_EFF (i : Nat) : Nat := 0x20080 + 0x4 * i
def FLT_UNACK : Nat := 0x20090
def FLT_RAISED : Nat := 0x20094
def FLT_WDOG_CNT : Nat := 0x200A0
def FLT_FB_CNT : Nat := 0x200A4
def PWR_SAG_CNT : Nat := 0xC000C
def PWR_THERM_CNT : Nat := 0xC0010
def CMD_REQ (ch w : Nat) : Nat := cmdBase ch + 0x0 + 4 * w
def CMD_RSP (ch w : Nat) : Nat := cmdBase ch + 0x400 + 4 * w
def CMD_STATUS (ch : Nat) : Nat := cmdBase ch + 0x800
def CMD_DOORBELL (ch : Nat) : Nat := cmdBase ch + 0x804
def CMD_ACK (ch : Nat) : Nat := cmdBase ch + 0x808
def CMD_TIMEOUT (ch : Nat) : Nat := cmdBase ch + 0x80C
def CMD_EVENT (ch : Nat) : Nat := cmdBase ch + 0x810
def CMD_INT_EN (ch : Nat) : Nat := cmdBase ch + 0x814
def CMD_IGNORED (ch : Nat) : Nat := cmdBase ch + 0x818
def CMD_CLR (ch : Nat) : Nat := cmdBase ch + 0x81C
def CMD_TMO_CNT (pf1 : Bool) : Nat := cmdCommon pf1 + 0x0
def CMD_EFFECT_FAIL (pf1 : Bool) : Nat := cmdCommon pf1 + 0x4
def CMD_SESSION (pf1 : Bool) : Nat := cmdCommon pf1 + 0x8
def CMD_CNT_CLR (pf1 : Bool) : Nat := cmdCommon pf1 + 0xC

end Sys2Proof.Machine.Reg

namespace Sys2Proof.Machine
open Sys2Proof

/-- One line of the register map: a register, or an array of them in one or two dimensions. -/
structure RegRow where
  base : Nat
  stride1 : Nat
  count1 : Nat
  stride2 : Nat
  count2 : Nat
  reset : Nat
  rw : Nat
  w1c : Nat
deriving DecidableEq, Repr

/-- The register lies in this row. -/
def RegRow.has (r : RegRow) (a : Nat) : Bool :=
  decide (r.base ≤ a) &&
    (let o := a - r.base
     let i := if r.count1 = 1 then 0 else o / r.stride1
     let p := o - i * r.stride1
     let j := if r.count2 = 1 then 0 else p / r.stride2
     decide (i < r.count1) && decide (j < r.count2) && decide (p = j * r.stride2))

/-- The registers of GCTL. -/
def regRowsGCTL : List RegRow := [
  ⟨0x0, 0x0, 1, 0x0, 1, 0x5A2000B1, 0x0, 0x0⟩,
  ⟨0x4, 0x0, 1, 0x0, 1, 0x0, 0xFFFFFFFF, 0x0⟩,
  ⟨0x8, 0x0, 1, 0x0, 1, 0x0, 0x0, 0x0⟩,
  ⟨0xC, 0x0, 1, 0x0, 1, 0x0, 0x0, 0x0⟩,
  ⟨0x10, 0x0, 1, 0x0, 1, 0x0, 0x0, 0x0⟩,
  ⟨0x14, 0x0, 1, 0x0, 1, 0x0, 0x0, 0x0⟩,
  ⟨0x18, 0x0, 1, 0x0, 1, 0x0, 0x1, 0x0⟩,
  ⟨0x1C, 0x0, 1, 0x0, 1, 0x0, 0x0, 0x0⟩,
  ⟨0x20, 0x0, 1, 0x0, 1, 0x0, 0x1F, 0x0⟩,
  ⟨0x24, 0x0, 1, 0x0, 1, 0x0, 0x0, 0x0⟩,
  ⟨0x28, 0x0, 1, 0x0, 1, 0x0, 0x0, 0x0⟩,
  ⟨0x2C, 0x0, 1, 0x0, 1, 0x0, 0x0, 0x0⟩,
  ⟨0x30, 0x0, 1, 0x0, 1, 0x0, 0x0, 0x0⟩,
  ⟨0x34, 0x0, 1, 0x0, 1, 0x0, 0x1, 0x0⟩]

/-- The registers of ENG. -/
def regRowsENG : List RegRow := [
  ⟨0xE0000, 0x0, 1, 0x0, 1, 0x0, 0x0, 0x0⟩,
  ⟨0xE0004, 0x0, 1, 0x0, 1, 0x0, 0x0, 0x0⟩,
  ⟨0xE0008, 0x0, 1, 0x0, 1, 0x0, 0x0, 0x0⟩,
  ⟨0xE000C, 0x0, 1, 0x0, 1, 0x0, 0x0, 0x0⟩,
  ⟨0xE0010, 0x0, 1, 0x0, 1, 0x0, 0x0, 0x0⟩,
  ⟨0xE0014, 0x0, 1, 0x0, 1, 0xFFFF, 0x0, 0x0⟩,
  ⟨0xE0018, 0x0, 1, 0x0, 1, 0x0, 0x0, 0x0⟩,
  ⟨0xE001C, 0x0, 1, 0x0, 1, 0x0, 0x0, 0x0⟩,
  ⟨0xE0020, 0x0, 1, 0x0, 1, 0x0, 0x0, 0x0⟩,
  ⟨0xE0024, 0x0, 1, 0x0, 1, 0x0, 0x0, 0x1F⟩,
  ⟨0xE0028, 0x0, 1, 0x0, 1, 0x0, 0x0, 0x0⟩,
  ⟨0xE002C, 0x0, 1, 0x0, 1, 0x0, 0x0, 0x0⟩,
  ⟨0xE0100, 0x0, 1, 0x0, 1, 0x0, 0x1FF, 0x0⟩,
  ⟨0xE0104, 0x0, 1, 0x0, 1, 0x0, 0x0, 0x0⟩,
  ⟨0xE0108, 0x0, 1, 0x0, 1, 0x0, 0x0, 0x0⟩,
  ⟨0xE010C, 0x0, 1, 0x0, 1, 0x0, 0x0, 0x0⟩,
  ⟨0xE0110, 0x0, 1, 0x0, 1, 0x0, 0x0, 0x0⟩,
  ⟨0xE0200, 0x0, 1, 0x0, 1, 0x0, 0x0, 0x0⟩,
  ⟨0xE0204, 0x0, 1, 0x0, 1, 0x0, 0x0, 0x0⟩,
  ⟨0xE0208, 0x0, 1, 0x0, 1, 0x0, 0x0, 0x0⟩,
  ⟨0xE020C, 0x0, 1, 0x0, 1, 0x0, 0x0, 0x0⟩,
  ⟨0xE0210, 0x0, 1, 0x0, 1, 0x0, 0x0, 0x0⟩,
  ⟨0xE0214, 0x0, 1, 0x0, 1, 0x0, 0x0, 0x0⟩,
  ⟨0xE0218, 0x0, 1, 0x0, 1, 0x0, 0x0, 0x0⟩,
  ⟨0xE021C, 0x0, 1, 0x0, 1, 0x0, 0x0, 0x0⟩,
  ⟨0xE0220, 0x0, 1, 0x0, 1, 0x0, 0x1F, 0x0⟩,
  ⟨0xE0224, 0x0, 1, 0x0, 1, 0x76543210, 0x0, 0x0⟩,
  ⟨0xE0228, 0x0, 1, 0x0, 1, 0xFEDCBA98, 0x0, 0x0⟩,
  ⟨0xE022C, 0x0, 1, 0x0, 1, 0x0, 0x0, 0x3F⟩,
  ⟨0xE0230, 0x0, 1, 0x0, 1, 0x0, 0x0, 0x0⟩,
  ⟨0xE0234, 0x0, 1, 0x0, 1, 0x20202020, 0x0, 0x0⟩,
  ⟨0xE0300, 0x0, 1, 0x0, 1, 0x0, 0x0, 0x0⟩,
  ⟨0xE0304, 0x0, 1, 0x0, 1, 0x0, 0x0, 0x0⟩,
  ⟨0xE0308, 0x0, 1, 0x0, 1, 0x0, 0x0, 0x0⟩,
  ⟨0xE030C, 0x0, 1, 0x0, 1, 0x0, 0x0, 0x0⟩,
  ⟨0xE0310, 0x0, 1, 0x0, 1, 0x0, 0x0, 0x0⟩,
  ⟨0xE0314, 0x0, 1, 0x0, 1, 0x0, 0x0, 0x0⟩,
  ⟨0xE0318, 0x0, 1, 0x0, 1, 0x0, 0x0, 0x0⟩,
  ⟨0xE031C, 0x0, 1, 0x0, 1, 0x0, 0x0, 0xFF⟩,
  ⟨0xE0320, 0x0, 1, 0x0, 1, 0x0, 0x0, 0x0⟩,
  ⟨0xE0400, 0x0, 1, 0x0, 1, 0x0, 0x0, 0x0⟩,
  ⟨0xE0404, 0x0, 1, 0x0, 1, 0x0, 0x0, 0x0⟩,
  ⟨0xE0408, 0x0, 1, 0x0, 1, 0x0, 0x0, 0x0⟩,
  ⟨0xE040C, 0x0, 1, 0x0, 1, 0x0, 0x0, 0x0⟩,
  ⟨0xE0410, 0x0, 1, 0x0, 1, 0x0, 0x0, 0x0⟩,
  ⟨0xE0414, 0x0, 1, 0x0, 1, 0x0, 0x0, 0x0⟩,
  ⟨0xE0418, 0x0, 1, 0x0, 1, 0x0, 0x0, 0x0⟩,
  ⟨0xE041C, 0x0, 1, 0x0, 1, 0x0, 0x0, 0x7⟩,
  ⟨0xE0420, 0x0, 1, 0x0, 1, 0x0, 0x0, 0x0⟩,
  ⟨0xE0500, 0x0, 1, 0x0, 1, 0x0, 0x0, 0x0⟩,
  ⟨0xE0504, 0x0, 1, 0x0, 1, 0x0, 0x0, 0x0⟩,
  ⟨0xE0508, 0x0, 1, 0x0, 1, 0x0, 0x0, 0x1⟩,
  ⟨0xE050C, 0x0, 1, 0x0, 1, 0x0, 0x0, 0x0⟩]

/-- The registers of DTM. -/
def regRowsDTM : List RegRow := [
  ⟨0x30000, 0x0, 1, 0x0, 1, 0x1F00, 0x0, 0x0⟩,
  ⟨0x30004, 0x0, 1, 0x0, 1, 0x200A, 0x0, 0x0⟩,
  ⟨0x30008, 0x0, 1, 0x0, 1, 0x1401F4, 0x0, 0x0⟩,
  ⟨0x3000C, 0x0, 1, 0x0, 1, 0x64, 0x0, 0x0⟩,
  ⟨0x30010, 0x0, 1, 0x0, 1, 0x0, 0x0, 0x0⟩,
  ⟨0x30014, 0x0, 1, 0x0, 1, 0x0, 0x0, 0x0⟩,
  ⟨0x30018, 0x0, 1, 0x0, 1, 0x0, 0x0, 0x0⟩,
  ⟨0x3001C, 0x0, 1, 0x0, 1, 0x0, 0x0, 0x0⟩,
  ⟨0x30020, 0x0, 1, 0x0, 1, 0x0, 0x1F, 0x0⟩,
  ⟨0x30024, 0x0, 1, 0x0, 1, 0x0, 0x0, 0x0⟩,
  ⟨0x30028, 0x0, 1, 0x0, 1, 0x7D003E8, 0x0, 0x0⟩,
  ⟨0x3002C, 0x0, 1, 0x0, 1, 0x0, 0x0, 0x0⟩,
  ⟨0x30030, 0x0, 1, 0x0, 1, 0x0, 0x0, 0x0⟩,
  ⟨0x30034, 0x0, 1, 0x0, 1, 0x0, 0x0, 0x0⟩,
  ⟨0x30038, 0x0, 1, 0x0, 1, 0x0, 0x0, 0x0⟩,
  ⟨0x30040, 0x0, 1, 0x0, 1, 0x0, 0x0, 0x0⟩,
  ⟨0x30044, 0x0, 1, 0x0, 1, 0x200, 0x0, 0x0⟩,
  ⟨0x30048, 0x0, 1, 0x0, 1, 0x0, 0x0, 0x0⟩,
  ⟨0x30070, 0x0, 1, 0x0, 1, 0x0, 0x0, 0x0⟩,
  ⟨0x30078, 0x0, 1, 0x0, 1, 0x0, 0x0, 0x0⟩,
  ⟨0x3007C, 0x0, 1, 0x0, 1, 0x0, 0x0, 0x0⟩,
  ⟨0x30080, 0x0, 1, 0x0, 1, 0x0, 0x0, 0x0⟩,
  ⟨0x30084, 0x0, 1, 0x0, 1, 0x0, 0x0, 0x0⟩,
  ⟨0x30088, 0x0, 1, 0x0, 1, 0x0, 0x0, 0x3FF⟩,
  ⟨0x3008C, 0x0, 1, 0x0, 1, 0x0, 0x0, 0x0⟩,
  ⟨0x30050, 0x0, 1, 0x0, 1, 0x0, 0x0, 0x0⟩,
  ⟨0x30060, 0x0, 1, 0x0, 1, 0x0, 0x0, 0x0⟩,
  ⟨0x30054, 0x0, 1, 0x0, 1, 0x0, 0x0, 0x0⟩,
  ⟨0x30064, 0x0, 1, 0x0, 1, 0x0, 0x0, 0x0⟩,
  ⟨0x30058, 0x0, 1, 0x0, 1, 0x0, 0x0, 0x0⟩,
  ⟨0x30068, 0x0, 1, 0x0, 1, 0x0, 0x0, 0x0⟩]

/-- The registers of CLK. -/
def regRowsCLK : List RegRow := [
  ⟨0x40000, 0x0, 1, 0x0, 1, 0x0, 0x0, 0x0⟩,
  ⟨0x40004, 0x0, 1, 0x0, 1, 0x0, 0x0, 0x0⟩,
  ⟨0x40008, 0x0, 1, 0x0, 1, 0x0, 0x0, 0x0⟩,
  ⟨0x4000C, 0x0, 1, 0x0, 1, 0x0, 0x0, 0x0⟩,
  ⟨0x40010, 0x0, 1, 0x0, 1, 0x0, 0x0, 0x0⟩,
  ⟨0x40014, 0x0, 1, 0x0, 1, 0x0, 0x1F, 0x0⟩,
  ⟨0x40018, 0x0, 1, 0x0, 1, 0x0, 0x0, 0x0⟩,
  ⟨0x4001C, 0x0, 1, 0x0, 1, 0x0, 0x0, 0x0⟩,
  ⟨0x40020, 0x0, 1, 0x0, 1, 0x0, 0x8FF0FFFF, 0x0⟩,
  ⟨0x40024, 0x0, 1, 0x0, 1, 0x1, 0x0, 0x0⟩,
  ⟨0x40028, 0x0, 1, 0x0, 1, 0x0, 0x0, 0x7⟩,
  ⟨0x4002C, 0x0, 1, 0x0, 1, 0x0, 0x0, 0x1F⟩,
  ⟨0x40030, 0x0, 1, 0x0, 1, 0x0, 0x0, 0x0⟩]

/-- The registers of SAP. -/
def regRowsSAP : List RegRow := [
  ⟨0x50600, 0x0, 1, 0x0, 1, 0x0, 0x0, 0x0⟩,
  ⟨0x50604, 0x0, 1, 0x0, 1, 0x0, 0x0, 0x0⟩,
  ⟨0x50610, 0x0, 1, 0x0, 1, 0x0, 0x0, 0x0⟩,
  ⟨0x50620, 0x0, 1, 0x0, 1, 0x0, 0x0, 0x3F⟩,
  ⟨0x50624, 0x0, 1, 0x0, 1, 0x0, 0x0, 0x0⟩,
  ⟨0x50000, 0x20, 16, 0x0, 1, 0x0, 0x0, 0x0⟩,
  ⟨0x50004, 0x20, 16, 0x0, 1, 0xFFFFFFFF, 0x0, 0x0⟩,
  ⟨0x50008, 0x20, 16, 0x0, 1, 0xFFFFFFFF, 0x0, 0x0⟩,
  ⟨0x5000C, 0x20, 16, 0x0, 1, 0x0, 0x0, 0x0⟩,
  ⟨0x50010, 0x20, 16, 0x0, 1, 0x0, 0x0, 0x0⟩,
  ⟨0x50200, 0x20, 8, 0x0, 1, 0x4000, 0x0, 0x0⟩,
  ⟨0x50204, 0x20, 8, 0x0, 1, 0x0, 0x0, 0x0⟩,
  ⟨0x50208, 0x20, 8, 0x4, 6, 0x0, 0x0, 0x0⟩,
  ⟨0x50304, 0x20, 8, 0x4, 6, 0x0, 0x0, 0x0⟩,
  ⟨0x50300, 0x20, 8, 0x0, 1, 0x0, 0x0, 0x0⟩,
  ⟨0x50400, 0x20, 4, 0x0, 1, 0x4000, 0x0, 0x0⟩,
  ⟨0x50480, 0x20, 4, 0x0, 1, 0x0, 0x0, 0x0⟩,
  ⟨0x50404, 0x20, 4, 0x0, 1, 0x0, 0x0, 0x0⟩,
  ⟨0x50408, 0x20, 4, 0x0, 1, 0x0, 0x0, 0x0⟩,
  ⟨0x5040C, 0x20, 4, 0x0, 1, 0x0, 0x0, 0x0⟩,
  ⟨0x50410, 0x20, 4, 0x0, 1, 0x0, 0x0, 0x0⟩,
  ⟨0x50414, 0x20, 4, 0x0, 1, 0x0, 0x0, 0x0⟩,
  ⟨0x50484, 0x20, 4, 0x4, 6, 0x0, 0x0, 0x0⟩,
  ⟨0x50600, 0x0, 1, 0x0, 1, 0x0, 0x0, 0x0⟩,
  ⟨0x50604, 0x0, 1, 0x0, 1, 0x0, 0x0, 0x0⟩,
  ⟨0x50608, 0x0, 1, 0x0, 1, 0x0, 0x0, 0x0⟩,
  ⟨0x5060C, 0x0, 1, 0x0, 1, 0x0, 0x0, 0x0⟩,
  ⟨0x50610, 0x0, 1, 0x0, 1, 0x0, 0x0, 0x0⟩,
  ⟨0x50614, 0x0, 1, 0x0, 1, 0x0, 0x0, 0x0⟩,
  ⟨0x50618, 0x0, 1, 0x0, 1, 0x0, 0x0, 0x0⟩,
  ⟨0x5061C, 0x0, 1, 0x0, 1, 0x0, 0x0, 0x0⟩,
  ⟨0x50620, 0x0, 1, 0x0, 1, 0x0, 0x0, 0x3F⟩,
  ⟨0x50624, 0x0, 1, 0x0, 1, 0x0, 0x0, 0x0⟩]

/-- The registers of CUE. -/
def regRowsCUE : List RegRow := [
  ⟨0xD0020, 0x0, 1, 0x0, 1, 0x0, 0x0, 0x3FF⟩,
  ⟨0xD0000, 0x10, 2, 0x0, 1, 0x1E000A, 0x0, 0x0⟩,
  ⟨0xD0004, 0x10, 2, 0x0, 1, 0x3F00, 0x0, 0x0⟩,
  ⟨0xD0020, 0x0, 1, 0x0, 1, 0x0, 0x0, 0x3FF⟩]

/-- The registers of NET. -/
def regRowsNET : List RegRow := [
  ⟨0x64000, 0x0, 1, 0x0, 1, 0x0, 0x3FF, 0x0⟩,
  ⟨0x64004, 0x0, 1, 0x0, 1, 0x0, 0x0, 0x0⟩,
  ⟨0x64008, 0x0, 1, 0x0, 1, 0x0, 0x0, 0x0⟩,
  ⟨0x64014, 0x0, 1, 0x0, 1, 0x0, 0x0, 0x0⟩,
  ⟨0x6600C, 0x0, 1, 0x0, 1, 0x0, 0x0, 0x1FF⟩,
  ⟨0x66010, 0x0, 1, 0x0, 1, 0x0, 0x0, 0x0⟩,
  ⟨0x60000, 0x1000, 4, 0x0, 1, 0x40005F2, 0x0, 0x0⟩,
  ⟨0x60004, 0x1000, 4, 0x0, 1, 0x1000000, 0x0, 0x0⟩,
  ⟨0x60010, 0x1000, 4, 0x0, 1, 0x0, 0x0, 0x0⟩,
  ⟨0x60014, 0x1000, 4, 0x0, 1, 0x0, 0x0, 0x0⟩,
  ⟨0x60018, 0x1000, 4, 0x0, 1, 0x0, 0x0, 0x0⟩,
  ⟨0x60024, 0x1000, 4, 0x0, 1, 0x0, 0x0, 0x0⟩,
  ⟨0x60008, 0x1000, 4, 0x0, 1, 0x0, 0x0, 0x0⟩,
  ⟨0x6000C, 0x1000, 4, 0x0, 1, 0x0, 0x0, 0x0⟩,
  ⟨0x6001C, 0x1000, 4, 0x0, 1, 0x0, 0x0, 0x0⟩,
  ⟨0x60020, 0x1000, 4, 0x0, 1, 0x0, 0x0, 0x0⟩,
  ⟨0x60040, 0x1000, 4, 0x4, 16, 0x0, 0x0, 0x0⟩,
  ⟨0x60100, 0x1000, 4, 0x4, 32, 0x0, 0x0, 0x0⟩,
  ⟨0x64000, 0x0, 1, 0x0, 1, 0x0, 0x3FF, 0x0⟩,
  ⟨0x64004, 0x0, 1, 0x0, 1, 0x0, 0x0, 0x0⟩,
  ⟨0x64008, 0x0, 1, 0x0, 1, 0x0, 0x0, 0x0⟩,
  ⟨0x64014, 0x0, 1, 0x0, 1, 0x0, 0x0, 0x0⟩,
  ⟨0x6600C, 0x0, 1, 0x0, 1, 0x0, 0x0, 0x1FF⟩,
  ⟨0x66010, 0x0, 1, 0x0, 1, 0x0, 0x0, 0x0⟩,
  ⟨0x6400C, 0x0, 1, 0x0, 1, 0x0, 0x0, 0x0⟩,
  ⟨0x64010, 0x0, 1, 0x0, 1, 0x0, 0x0, 0x0⟩,
  ⟨0x64018, 0x0, 1, 0x0, 1, 0x0, 0x0, 0x0⟩,
  ⟨0x6401C, 0x0, 1, 0x0, 1, 0x0, 0x0, 0x0⟩,
  ⟨0x65000, 0x0, 1, 0x0, 1, 0x0, 0x0, 0x0⟩,
  ⟨0x65004, 0x0, 1, 0x0, 1, 0x0, 0x0, 0x0⟩,
  ⟨0x65008, 0x0, 1, 0x0, 1, 0x0, 0x0, 0x0⟩,
  ⟨0x66000, 0x0, 1, 0x0, 1, 0x0, 0x0, 0x0⟩,
  ⟨0x66004, 0x0, 1, 0x0, 1, 0x0, 0x0, 0x0⟩,
  ⟨0x66008, 0x0, 1, 0x0, 1, 0x0, 0x0, 0x0⟩]

/-- The registers of DRV. -/
def regRowsDRV : List RegRow := [
  ⟨0x70000, 0x0, 1, 0x0, 1, 0x0, 0x0, 0x0⟩,
  ⟨0x70004, 0x0, 1, 0x0, 1, 0x0, 0x0, 0x0⟩,
  ⟨0x70008, 0x0, 1, 0x0, 1, 0x0, 0x0, 0x0⟩,
  ⟨0x70060, 0x0, 1, 0x0, 1, 0x0, 0x0, 0x0⟩,
  ⟨0x70064, 0x0, 1, 0x0, 1, 0x0, 0x0, 0x7F⟩,
  ⟨0x70068, 0x0, 1, 0x0, 1, 0x0, 0x0, 0x0⟩,
  ⟨0x70010, 0x4, 16, 0x0, 1, 0x0, 0x0, 0x0⟩,
  ⟨0x70050, 0x0, 1, 0x0, 1, 0x0, 0x0, 0x0⟩,
  ⟨0x70054, 0x0, 1, 0x0, 1, 0x0, 0x0, 0x0⟩,
  ⟨0x70058, 0x0, 1, 0x0, 1, 0x0, 0x0, 0x0⟩,
  ⟨0x7005C, 0x0, 1, 0x0, 1, 0x0, 0x0, 0x0⟩,
  ⟨0x70100, 0x10, 8, 0x0, 1, 0x0, 0x0, 0x0⟩,
  ⟨0x70104, 0x10, 8, 0x0, 1, 0x8000, 0x0, 0x0⟩,
  ⟨0x70108, 0x10, 8, 0x0, 1, 0x0, 0x0, 0x0⟩,
  ⟨0x7010C, 0x10, 8, 0x0, 1, 0x0, 0x0, 0x0⟩,
  ⟨0x70200, 0x8, 64, 0x0, 1, 0x0, 0x0, 0x0⟩,
  ⟨0x70204, 0x8, 64, 0x0, 1, 0xFFFF0000, 0x0, 0x0⟩]

/-- The registers of PAIR. -/
def regRowsPAIR : List RegRow := [
  ⟨0x80000, 0x0, 1, 0x0, 1, 0x0, 0x0, 0x0⟩,
  ⟨0x80004, 0x0, 1, 0x0, 1, 0x0, 0x0, 0x0⟩,
  ⟨0x80008, 0x0, 1, 0x0, 1, 0x0, 0x0, 0x0⟩,
  ⟨0x8001C, 0x0, 1, 0x0, 1, 0x0, 0x0, 0x0⟩,
  ⟨0x80020, 0x0, 1, 0x0, 1, 0x0, 0x0, 0x0⟩,
  ⟨0x80024, 0x0, 1, 0x0, 1, 0x0, 0x0, 0x0⟩,
  ⟨0x80028, 0x0, 1, 0x0, 1, 0x0, 0x0, 0x0⟩,
  ⟨0x8002C, 0x0, 1, 0x0, 1, 0x0, 0x0, 0x0⟩,
  ⟨0x80030, 0x0, 1, 0x0, 1, 0x0, 0x0, 0xFF⟩,
  ⟨0x80034, 0x0, 1, 0x0, 1, 0x0, 0x0, 0x0⟩,
  ⟨0x80038, 0x0, 1, 0x0, 1, 0x0, 0x0, 0x0⟩,
  ⟨0x8000C, 0x0, 1, 0x0, 1, 0x0, 0x0, 0x0⟩,
  ⟨0x80010, 0x0, 1, 0x0, 1, 0x0, 0x0, 0x0⟩,
  ⟨0x80014, 0x0, 1, 0x0, 1, 0x0, 0x0, 0x0⟩,
  ⟨0x80018, 0x0, 1, 0x0, 1, 0x0, 0x0, 0x0⟩,
  ⟨0x80040, 0x0, 1, 0x0, 1, 0x0, 0x0, 0x0⟩,
  ⟨0x80044, 0x0, 1, 0x0, 1, 0x0, 0x0, 0x0⟩,
  ⟨0x80048, 0x4, 9, 0x0, 1, 0x0, 0x0, 0x0⟩,
  ⟨0x80070, 0x4, 9, 0x0, 1, 0x0, 0x0, 0x0⟩]

/-- The registers of DDR. -/
def regRowsDDR : List RegRow := [
  ⟨0xA0000, 0x0, 1, 0x0, 1, 0x0, 0x0, 0x0⟩,
  ⟨0xA0004, 0x0, 1, 0x0, 1, 0x0, 0x0, 0x0⟩,
  ⟨0xA0024, 0x0, 1, 0x0, 1, 0x0, 0x0, 0x0⟩,
  ⟨0xA0028, 0x0, 1, 0x0, 1, 0x0, 0x0, 0x7⟩,
  ⟨0xA002C, 0x0, 1, 0x0, 1, 0x0, 0x0, 0x0⟩,
  ⟨0xA0008, 0x0, 1, 0x0, 1, 0x0, 0x0, 0x0⟩,
  ⟨0xA0010, 0x0, 1, 0x0, 1, 0x0, 0x0, 0x0⟩,
  ⟨0xA0018, 0x0, 1, 0x0, 1, 0x0, 0x0, 0x0⟩,
  ⟨0xA001C, 0x0, 1, 0x0, 1, 0x0, 0x0, 0x0⟩,
  ⟨0xA0020, 0x0, 1, 0x0, 1, 0x0, 0x0, 0x0⟩,
  ⟨0xA000C, 0x0, 1, 0x0, 1, 0x0, 0x0, 0x0⟩,
  ⟨0xA0014, 0x0, 1, 0x0, 1, 0x0, 0x0, 0x0⟩]

/-- The registers of BMX. -/
def regRowsBMX : List RegRow := [
  ⟨0xB0018, 0x0, 1, 0x0, 1, 0x0, 0x0, 0x0⟩,
  ⟨0xB001C, 0x0, 1, 0x0, 1, 0x0, 0x0, 0x3⟩,
  ⟨0xB0020, 0x0, 1, 0x0, 1, 0x0, 0x0, 0x0⟩,
  ⟨0xB0000, 0x0, 1, 0x0, 1, 0x0, 0x0, 0x0⟩,
  ⟨0xB000C, 0x0, 1, 0x0, 1, 0x0, 0x0, 0x0⟩,
  ⟨0xB0004, 0x0, 1, 0x0, 1, 0x0, 0x0, 0x0⟩,
  ⟨0xB0008, 0x0, 1, 0x0, 1, 0x0, 0x0, 0x0⟩,
  ⟨0xB0010, 0x0, 1, 0x0, 1, 0x0, 0x0, 0x0⟩,
  ⟨0xB0014, 0x0, 1, 0x0, 1, 0x0, 0x0, 0x0⟩]

/-- The registers of DMA. -/
def regRowsDMA : List RegRow := [
  ⟨0x90000, 0x0, 1, 0x0, 1, 0x0, 0x0, 0x0⟩,
  ⟨0x90004, 0x0, 1, 0x0, 1, 0x0, 0x0, 0x0⟩,
  ⟨0x90008, 0x0, 1, 0x0, 1, 0x0, 0x0, 0x0⟩,
  ⟨0x9000C, 0x0, 1, 0x0, 1, 0x0, 0x0, 0xFFFFFFFF⟩,
  ⟨0x90010, 0x0, 1, 0x0, 1, 0x0, 0x0, 0x0⟩,
  ⟨0x90100, 0x40, 16, 0x0, 1, 0x0, 0xFFFFFFFF, 0x0⟩,
  ⟨0x90104, 0x40, 16, 0x0, 1, 0x0, 0xFF, 0x0⟩,
  ⟨0x90108, 0x40, 16, 0x0, 1, 0x0, 0xFFFFFFFF, 0x0⟩,
  ⟨0x9010C, 0x40, 16, 0x0, 1, 0x0, 0xFF, 0x0⟩,
  ⟨0x90110, 0x40, 16, 0x0, 1, 0x0, 0xFFFFFFFF, 0x0⟩,
  ⟨0x90114, 0x40, 16, 0x0, 1, 0x4355001, 0x87777001, 0x0⟩,
  ⟨0x90118, 0x40, 16, 0x0, 1, 0x0, 0x0, 0x0⟩,
  ⟨0x9011C, 0x40, 16, 0x0, 1, 0x0, 0x0, 0x0⟩,
  ⟨0x90120, 0x40, 16, 0x0, 1, 0x0, 0x0, 0x0⟩,
  ⟨0x9012C, 0x40, 16, 0x0, 1, 0x0, 0x0, 0x0⟩,
  ⟨0x90124, 0x40, 16, 0x0, 1, 0x0, 0x0, 0x0⟩,
  ⟨0x90128, 0x40, 16, 0x0, 1, 0x0, 0x0, 0x0⟩]

/-- The registers of FLT. -/
def regRowsFLT : List RegRow := [
  ⟨0x20098, 0x0, 1, 0x0, 1, 0x0, 0x0, 0x0⟩,
  ⟨0x2009C, 0x0, 1, 0x0, 1, 0x0, 0x0, 0x0⟩,
  ⟨0x200A8, 0x0, 1, 0x0, 1, 0x0, 0x0, 0xF⟩,
  ⟨0x200AC, 0x0, 1, 0x0, 1, 0x0, 0x0, 0x0⟩,
  ⟨0x20000, 0x4, 28, 0x0, 1, 0x0, 0x0, 0x0⟩,
  ⟨0x20080, 0x4, 4, 0x0, 1, 0x0, 0x0, 0x0⟩,
  ⟨0x20090, 0x0, 1, 0x0, 1, 0x0, 0x0, 0xFFFFFFF⟩,
  ⟨0x20094, 0x0, 1, 0x0, 1, 0x0, 0x0, 0xFFFFFFF⟩,
  ⟨0x200A0, 0x0, 1, 0x0, 1, 0x0, 0x0, 0x0⟩,
  ⟨0x200A4, 0x0, 1, 0x0, 1, 0x0, 0x0, 0x0⟩]

/-- The registers of PWR. -/
def regRowsPWR : List RegRow := [
  ⟨0xC0000, 0x0, 1, 0x0, 1, 0x0, 0x0, 0x0⟩,
  ⟨0xC0004, 0x0, 1, 0x0, 1, 0x0, 0x0, 0x0⟩,
  ⟨0xC0008, 0x0, 1, 0x0, 1, 0x0, 0x0, 0x0⟩,
  ⟨0xC0014, 0x0, 1, 0x0, 1, 0x0, 0x0, 0xC0000000⟩,
  ⟨0xC0018, 0x0, 1, 0x0, 1, 0x0, 0x0, 0x7⟩,
  ⟨0xC001C, 0x0, 1, 0x0, 1, 0x0, 0x0, 0x0⟩,
  ⟨0xC000C, 0x0, 1, 0x0, 1, 0x0, 0x0, 0x0⟩,
  ⟨0xC0010, 0x0, 1, 0x0, 1, 0x0, 0x0, 0x0⟩]

/-- The registers of CMD. -/
def regRowsCMD : List RegRow := [
  ⟨0x10000, 0x1000, 4, 0x4, 256, 0x0, 0xFFFFFFFF, 0x0⟩,
  ⟨0x80010000, 0x1000, 4, 0x4, 256, 0x0, 0xFFFFFFFF, 0x0⟩,
  ⟨0x10400, 0x1000, 4, 0x4, 256, 0x0, 0x0, 0x0⟩,
  ⟨0x80010400, 0x1000, 4, 0x4, 256, 0x0, 0x0, 0x0⟩,
  ⟨0x10800, 0x1000, 4, 0x0, 1, 0x0, 0x0, 0x0⟩,
  ⟨0x80010800, 0x1000, 4, 0x0, 1, 0x0, 0x0, 0x0⟩,
  ⟨0x10804, 0x1000, 4, 0x0, 1, 0x0, 0x0, 0x0⟩,
  ⟨0x80010804, 0x1000, 4, 0x0, 1, 0x0, 0x0, 0x0⟩,
  ⟨0x10808, 0x1000, 4, 0x0, 1, 0x0, 0x0, 0x0⟩,
  ⟨0x80010808, 0x1000, 4, 0x0, 1, 0x0, 0x0, 0x0⟩,
  ⟨0x1080C, 0x1000, 4, 0x0, 1, 0xC8, 0x3FFF, 0x0⟩,
  ⟨0x8001080C, 0x1000, 4, 0x0, 1, 0xC8, 0x3FFF, 0x0⟩,
  ⟨0x10810, 0x1000, 4, 0x0, 1, 0x0, 0x0, 0xF⟩,
  ⟨0x80010810, 0x1000, 4, 0x0, 1, 0x0, 0x0, 0xF⟩,
  ⟨0x10814, 0x1000, 4, 0x0, 1, 0xF, 0xF, 0x0⟩,
  ⟨0x80010814, 0x1000, 4, 0x0, 1, 0xF, 0xF, 0x0⟩,
  ⟨0x10818, 0x1000, 4, 0x0, 1, 0x0, 0x0, 0x0⟩,
  ⟨0x80010818, 0x1000, 4, 0x0, 1, 0x0, 0x0, 0x0⟩,
  ⟨0x1081C, 0x1000, 4, 0x0, 1, 0x0, 0x0, 0x0⟩,
  ⟨0x8001081C, 0x1000, 4, 0x0, 1, 0x0, 0x0, 0x0⟩,
  ⟨0x18000, 0x0, 1, 0x0, 1, 0x0, 0x0, 0x0⟩,
  ⟨0x80018000, 0x0, 1, 0x0, 1, 0x0, 0x0, 0x0⟩,
  ⟨0x18004, 0x0, 1, 0x0, 1, 0x0, 0x0, 0x0⟩,
  ⟨0x80018004, 0x0, 1, 0x0, 1, 0x0, 0x0, 0x0⟩,
  ⟨0x18008, 0x0, 1, 0x0, 1, 0x0, 0x0, 0x0⟩,
  ⟨0x80018008, 0x0, 1, 0x0, 1, 0x0, 0x0, 0x0⟩,
  ⟨0x1800C, 0x0, 1, 0x0, 1, 0x0, 0x0, 0x0⟩,
  ⟨0x8001800C, 0x0, 1, 0x0, 1, 0x0, 0x0, 0x0⟩]

/-- Every register of the spec. -/
def regRows : List RegRow :=
  regRowsGCTL ++
  regRowsENG ++
  regRowsDTM ++
  regRowsCLK ++
  regRowsSAP ++
  regRowsCUE ++
  regRowsNET ++
  regRowsDRV ++
  regRowsPAIR ++
  regRowsDDR ++
  regRowsBMX ++
  regRowsDMA ++
  regRowsFLT ++
  regRowsPWR ++
  regRowsCMD

/-- The defaults of FLT_CFG by class (R500): LEVEL, and FN in bit 4. -/
def fltCfgReset (c : Nat) : Nat :=
  if c = 26 then 0x12
  else if c = 18 ∨ c = 19 ∨ c = 25 then 0x11
  else if c = 2 ∨ c = 11 ∨ c = 12 ∨ c = 13 ∨ c = 14 ∨ c = 15 ∨ c = 16 then 0
  else 1

/-- The row of a register. -/
def regRow (a : Nat) : Option RegRow := regRows.find? (fun r => r.has a)

/-- The eight levels of FLT_EFFj at reset (R500). -/
def fltEffReset (j : Nat) : Nat :=
  (List.range 8).foldl (fun n k => n + (if 8 * j + k < 28 then fltCfgReset (8 * j + k) % 8 else 0) * 16 ^ k) 0

/-- The value every register holds at reset. -/
def regReset (a : Nat) : Word :=
  if 0x20000 ≤ a ∧ a < 0x20070 then BitVec.ofNat 32 (if a % 4 = 0 then fltCfgReset ((a - 0x20000) / 4) else 0)
  else if 0x20080 ≤ a ∧ a < 0x20090 then BitVec.ofNat 32 (if a % 4 = 0 then fltEffReset ((a - 0x20080) / 4) else 0)
  else if 0x40000000 ≤ a ∧ a < 0x40001000 then
    (if a % 32 = 4 then 0x07D003E8 else 0)
  else match regRow a with
    | some r => BitVec.ofNat 32 r.reset
    | none => 0

end Sys2Proof.Machine
end

