-- ==== Sys2Proof/Machine/Map.lean ====
section
/-! DEFINITION. Sparse maps from a number to plain data, in one canonical form: keys strictly rising,
and no entry equal to what an unlisted key reads as. Every memory, register file and table of the
model is one of these. -/
namespace Sys2Proof.Machine

/-- A sparse map: what is listed differs from what an unlisted key reads as. -/
abbrev Map (α : Type) := List (Nat × α)

/-- Reads key `k`; `d` says what an unlisted key reads as. -/
def Map.get {α : Type} (d : Nat → α) : Map α → Nat → α
  | [], k => d k
  | (i, v) :: m, k => if i = k then v else Map.get d m k

/-- Places `v` at key `k`, keeping the keys rising, without regard to the default. -/
def Map.place {α : Type} : Map α → Nat → α → Map α
  | [], k, v => [(k, v)]
  | (i, w) :: m, k, v =>
    if k < i then (k, v) :: (i, w) :: m
    else if k = i then (k, v) :: m
    else (i, w) :: Map.place m k v

/-- Removes key `k`. -/
def Map.erase {α : Type} : Map α → Nat → Map α
  | [], _ => []
  | (i, w) :: m, k => if i = k then Map.erase m k else (i, w) :: Map.erase m k

/-- Writes `v` at key `k`: writing what an unlisted key reads as removes the entry. -/
def Map.put {α : Type} [DecidableEq α] (d : Nat → α) (m : Map α) (k : Nat) (v : α) : Map α :=
  if v = d k then Map.erase m k else Map.place m k v

/-- Changes the value at key `k`. -/
def Map.upd {α : Type} [DecidableEq α] (d : Nat → α) (m : Map α) (k : Nat) (f : α → α) : Map α :=
  Map.put d m k (f (Map.get d m k))

/-- Every key of the map is above `b`, the keys rise, and no entry equals the default. -/
def Map.wfAbove {α : Type} [DecidableEq α] (d : Nat → α) : Option Nat → Map α → Bool
  | _, [] => true
  | b, (i, v) :: m =>
    (match b with
      | none => true
      | some j => decide (j < i)) && !decide (v = d i) && Map.wfAbove d (some i) m

/-- The canonical form. -/
def Map.wf {α : Type} [DecidableEq α] (d : Nat → α) (m : Map α) : Bool := Map.wfAbove d none m

/-- The keys that are listed. -/
def Map.keys {α : Type} (m : Map α) : List Nat := m.map Prod.fst

/-- Applies `f` to every listed entry and keeps the canonical form. -/
def Map.mapVals {α : Type} [DecidableEq α] (d : Nat → α) (f : Nat → α → α) : Map α → Map α
  | [] => []
  | (i, v) :: m =>
    if f i v = d i then Map.erase (Map.mapVals d f m) i else (i, f i v) :: Map.mapVals d f m

end Sys2Proof.Machine
end

