-- ==== Sys2Proof/Machine/CellState.lean ====
section
/-! DEFINITION. The state of one cell, of the chain and of the graph banks, as plain data. -/
namespace Sys2Proof.Machine
open Sys2Proof

/-- A 32-bit value with its poison bit (R90, R157). -/
structure Sample where
  v : Word
  p : Bool
deriving DecidableEq, Repr, Inhabited

/-- The value 0 without poison. -/
def Sample.zero : Sample := { v := 0, p := false }

/-- An accumulator with its poison bit (R90, R93). -/
structure AccReg where
  v : AccWord
  p : Bool
deriving DecidableEq, Repr

def AccReg.zero : AccReg := { v := 0, p := false }

/-- A pointer or base register with its poison bit: 11 bits (R89, R90). -/
structure PtrReg where
  v : BitVec 11
  p : Bool
deriving DecidableEq, Repr

def PtrReg.zero : PtrReg := { v := 0, p := false }

/-- A circular buffer length with BREV and its poison bit (R89, R90, R91). -/
structure LenReg where
  len : BitVec 12
  brev : Bool
  p : Bool
deriving DecidableEq, Repr

def LenReg.zero : LenReg := { len := 0, brev := false, p := false }

/-- A signed post-modify step with its poison bit: 12 bits (R89, R90). -/
structure StepReg where
  v : BitVec 12
  p : Bool
deriving DecidableEq, Repr

def StepReg.zero : StepReg := { v := 0, p := false }

/-- The four power states of a cell (R147). -/
inductive Power where
  | off | waking | on | wakeFail
deriving DecidableEq, Repr

/-- What a cell executes (R52 to R56, R138): nothing, its traverse, or its background. -/
inductive Ctx where
  | idle | traverse | background
deriving DecidableEq, Repr

/-- The background of a cell as ENG_CELL_STAT.BG tells it apart (R138 to R140). -/
inductive BgState where
  | ready | waiting | abandoned | noProgram
deriving DecidableEq, Repr

/-- Where execution goes after two delay slots: a branch target, the next index of a branch not
taken, or the end of the leg share (R110, R114). -/
inductive Turn where
  | target (pc : BitVec 12)
  | fall
  | retb
deriving DecidableEq, Repr

/-- A branch or RETB with `left` delay-slot instructions still to issue. -/
structure Branch where
  left : Nat
  turn : Turn
deriving DecidableEq, Repr

/-- The destination of a result that is still within its delay slots (R110). A special register is
named by its number in the SYS table. -/
inductive Dst where
  | d (i : Nat)
  | acc (i : Nat)
  | spec (n : Nat)
deriving DecidableEq, Repr

/-- A result still within its delay slots: it is written when `left` more instructions have issued. -/
structure Pend where
  left : Nat
  dst : Dst
  val : AccWord
  p : Bool
deriving DecidableEq, Repr

/-- A tile move in flight (R121 to R124). `region` tells region memory from backing memory, `bg` a move of the background. -/
structure Move where
  bg : Bool
  store : Bool
  slot : Nat
  region : Bool
  tile : Nat
deriving DecidableEq, Repr

/-- The parameters of a STRM (R128). -/
structure StreamerCfg where
  slot : Nat
  region : Bool
  first : Nat
  count : Nat
deriving DecidableEq, Repr

/-- The coefficient streamer (R128 to R130): the slots still to be delivered with the sequence index
of their tile, which of its two slots holds the older tile, and a stop or restart that waits for the
refill in progress. -/
structure Streamer where
  cfg : StreamerCfg
  next : Nat
  olderHigh : Bool
  refills : List (Nat × Nat)
  stopping : Bool
  restart : Option StreamerCfg
deriving DecidableEq, Repr

/-- A fetch in progress: its tile, whether it is the second attempt (R131, R134), and which contexts asked for it: the
traverse of the leg in progress, the background, or tick entry or a gap for the coming leg (R133). -/
structure Fetch where
  tile : Nat
  second : Bool
  trav : Bool
  back : Bool
  lead : Bool
deriving DecidableEq, Repr

/-- A zero-cross gain slot (R144). -/
structure GainSlot where
  cur : Word
  tgt : Word
  floor : Word
  stepUp : Word
  stepDn : Word
  tmo : BitVec 16
  tmoCnt : BitVec 16
  prev : Bool
deriving DecidableEq, Repr

/-- A publish slot: its value, whether PUB or PUBP wrote it in its assigned leg of this tick, whether
R70 poisoned its leg in this tick, and the value taken at the end of its leg (R163, R164). -/
structure PubSlot where
  s : Sample
  written : Bool
  failed : Bool
  taken : Sample
deriving DecidableEq, Repr

def PubSlot.zero : PubSlot := { s := Sample.zero, written := false, failed := false, taken := Sample.zero }

/-- A subscription slot: its value and the deliveries it received in this tick (R165, R166). -/
structure SubSlot where
  s : Sample
  got : Nat
deriving DecidableEq, Repr

def SubSlot.zero : SubSlot := { s := Sample.zero, got := 0 }

/-- A write through the region memory port that waits until its cell is ON (R149): to program or, with `back`, backing memory,
at a byte address within it; a whole tile with its mark, or bytes to merge. -/
structure PortWrite where
  back : Bool
  addr : Nat
  bytes : List Byte
  whole : Option Bool
deriving DecidableEq, Repr

/-- One physical cell: the registers of R89, its slots, its fetch buffer, its streamer and its power. -/
structure Cell where
  power : Power
  /-- ON, but waiting for the first tick entry (R148). -/
  fresh : Bool
  /-- Has entered WAKE_FAIL: it executes nothing until reset (R148). -/
  dead : Bool
  /-- Writes into its memories that wait until it is ON (R149). -/
  writes : List PortWrite
  d : Map Sample
  acc : Map AccReg
  ptr : Map PtrReg
  base : Map PtrReg
  len : Map LenReg
  step : Map StepReg
  lc : Map (BitVec 16)
  ls : Map (BitVec 12)
  le : Map (BitVec 12)
  /-- SR bits TB, SV, AV and CP; LEG, CTX, LA1 and LA0 are read from where they live. -/
  sr : Word
  mr : Word
  pc : BitVec 12
  leg : Nat
  ctx : Ctx
  /-- In a fade, whether the traverse of an affected cell runs the new program's share (R215). -/
  second : Bool
  legDone : Bool
  bpc : BitVec 12
  bsr : Word
  /-- The branch saved with BPC and BSR (R571). -/
  bbranch : Option Branch
  /-- A background is saved in BPC and BSR (R138). -/
  bgSaved : Bool
  bg : BgState
  /-- The words the background wrote through port W since it last began, with the values written (R71). -/
  bgWrote : Map (Option Word)
  pend : List Pend
  branch : Option Branch
  /-- The 512 words of the eight operand tile slots: slot × 64 + word. -/
  slots : Map Sample
  moves : List Move
  streamer : Option Streamer
  /-- Tiles held by the fetch buffer, the most recently entered first (R131). -/
  fetched : List Nat
  fetches : List Fetch
  pubs : Map PubSlot
  subs : Map SubSlot
  gains : Map GainSlot
  /-- ENG_CELL_STAT bits 7:2 (R150). -/
  sticky : Word
  /-- The tile of the coming leg's entry could not be fetched: that leg fails at its start (R133, R134). -/
  fetchFailed : Bool
deriving DecidableEq, Repr

/-- The default gain slot: 0 dB at rest with the default settings of R242; TMO 0 until a commit sets it. -/
def GainSlot.init : GainSlot :=
  { cur := 0x10000000, tgt := 0x10000000, floor := 0x000068DC, stepUp := 0x1699C0F8,
    stepDn := 0x0B53BEF5, tmo := 0, tmoCnt := 0, prev := false }

/-- A cell as it stands at reset release: OFF (R147), with nothing in its registers. -/
def Cell.reset : Cell :=
  { power := .off, fresh := false, dead := false, writes := [], d := [], acc := [], ptr := [], base := [], len := [], step := [],
    lc := [], ls := [], le := [], sr := 0, mr := 1, pc := 0, leg := 0, ctx := .idle, second := false,
    legDone := false, bpc := 0, bsr := 0, bbranch := none, bgSaved := false, bg := .noProgram,
    bgWrote := [], pend := [], branch := none, slots := [], moves := [], streamer := none,
    fetched := [], fetches := [], pubs := [], subs := [], gains := [], sticky := 0,
    fetchFailed := false }

/-- The engine states of GCTL_STATUS.ENGINE. -/
inductive EngineState where
  | boot | staked | running | suspended | held
deriving DecidableEq, Repr

/-- The six sample rates (R2). -/
inductive Rate where
  | r44 | r48 | r88 | r96 | r176 | r192
deriving DecidableEq, Repr

/-- The phases of a tick (R50). -/
inductive Phase where
  | idle | entry | leg (k : Nat) | gap (k : Nat) | margin | commit
deriving DecidableEq, Repr

/-- A rate change in progress (R82): the effect tick T, the new rate, the channel that waits for its
response, whether boundary T+64 has passed, and for the alignment of a resynchronisation the number that the first tick
takes (R466). -/
structure RateChange where
  t : Nat
  rate : Rate
  ch : Nat
  stopped : Bool
  oldRate : Option Rate
  align : Option Nat
deriving DecidableEq, Repr

/-- The tick generator and the run state of the engine (R46 to R86). -/
structure Eng where
  engine : EngineState
  rate : Option Rate
  ticking : Bool
  tick : DWord
  phase : Phase
  /-- CELL runs at 1,000 MHz in this tick. -/
  cell1000 : Bool
  holdIndef : Bool
  holdLeft : Nat
  /-- The engine is suspended in this tick (R74). -/
  suspended : Bool
  /-- Tick and leg of the most recent closure failure (R70). -/
  failed : Option (Nat × Nat)
  change : Option RateChange
deriving DecidableEq, Repr

/-- An entry of the cell directory with its budget entry (R207). `laddr` is region × 128 + cluster × 16
+ logical cell. -/
structure CellEntry where
  laddr : Nat
  progFirst : Nat
  progBase : Nat
  progTiles : Nat
  legEntry : List Nat
  restart : Nat
  cls : Nat
  decl : List Nat
  declBg : Nat
  pubUsed : BitVec 64
  pubLeg : BitVec 128
  subUsed : BitVec 64
deriving DecidableEq, Repr

/-- An allocation of backing (mem 0) or region (mem 1) memory (R207). -/
structure Extent where
  mem : Nat
  keep : Bool
  region : Nat
  laddr : Nat
  first : Nat
  count : Nat
deriving DecidableEq, Repr

/-- A placement of data tiles (R207). -/
structure Place where
  mem : Nat
  region : Nat
  laddr : Nat
  dst : Nat
  src : Nat
  count : Nat
deriving DecidableEq, Repr

/-- A schedule entry (R161). -/
structure SchedEntry where
  src : Nat
  dst : Nat
  mask : Nat
  win : Nat
  fwd : Bool
deriving DecidableEq, Repr

/-- A schedule block (R208): `exch` numbers the exchange, 0 chip, 1 + region, 5 + region × 8 + cluster. -/
structure SchedBlock where
  exch : Nat
  entries : List SchedEntry
deriving DecidableEq, Repr

/-- A parameter symbol (R207, R232). -/
structure Symbol where
  handle : Nat
  kind : Nat
  words : Nat
  owner : Nat
  loc : Nat
deriving DecidableEq, Repr

/-- A delay line of the image (R189, R207). -/
structure Line where
  region : Nat
  dram : Bool
  keep : Bool
  line : Nat
  base : Nat
  tiles : Nat
  buf : Nat
deriving DecidableEq, Repr

/-- A delay tap of the image (R189, R207). -/
structure Tap where
  region : Nat
  tap : Nat
  line : Nat
  delay : Nat
deriving DecidableEq, Repr

/-- A dither entry (R207, R255). -/
structure DitherEntry where
  ep : Nat
  wordlen : Nat
deriving DecidableEq, Repr

/-- A graph image as the engine holds it (R204 to R208). -/
structure Graph where
  imageId : DWord
  baseId : DWord
  patch : Bool
  rate : Nat
  settle : Nat
  cells : List CellEntry
  extents : List Extent
  places : List Place
  sched : List SchedBlock
  endpoints : List Nat
  symbols : List Symbol
  lines : List Line
  taps : List Tap
  seed : DWord
  dither : List DitherEntry
deriving DecidableEq, Repr

/-- The pending bank (R201). -/
inductive Bank where
  | empty
  | loading (ch : Nat) (addr len : Nat)
  | loaded (g : Graph)
  | scheduled (g : Graph)
deriving DecidableEq, Repr

/-- A fade in progress (R214): the old graph, F and j. -/
structure Fade where
  old : Option Graph
  f : Nat
  j : Nat
deriving DecidableEq, Repr

/-- A cell retirement in progress (R196, R224). `wait` holds from the end of the copy to the next boundary, from
which the shadow period counts. -/
structure Retire where
  laddr : Nat
  ch : Nat
  shadow : Bool
  wait : Bool
  left : Nat
deriving DecidableEq, Repr

/-- The graph banks and what runs beside them. -/
structure GraphState where
  live : Option Graph
  bank : Bank
  fade : Option Fade
  retire : Option Retire
  /-- Traversed ticks since the last change of each region, and the settled bits (R221). -/
  settleCnt : Map Nat
  settled : Nat
  /-- Classes at or above this number are dropped (R222); 4 when none is. -/
  dropFrom : Nat
  /-- DROP as ENG_GRAPH_STAT shows it. -/
  drop : Nat
  stake : Map Half
  stakeOrigin : Nat
  stakeMod : Bool
deriving DecidableEq, Repr

/-- The mute state of an output endpoint channel (R183, R184, R223). `drop` ramps out with the
constant of a class drop. -/
inductive Mute where
  | clear
  | out (j : Nat)
  | muted
  | ramIn (j : Nat)
  | drop (j : Nat) (v : Word)
deriving DecidableEq, Repr

/-- An output endpoint channel: the pending entry and its transfers of this tick, the committed value,
the presented value, and the hold, mute and ramp state (R58, R157, R183, R184). -/
structure OutCh where
  pending : Sample
  pendingOld : Sample
  got : Nat
  gotOld : Nat
  committed : Option Word
  /-- The value last committed. -/
  last : Word
  presented : Sample
  /-- What it would have presented without the ramp of R82. -/
  plain : Word
  /-- Presented something in the previous tick (R226). -/
  shown : Bool
  /-- The held value; none until a clean commit since the graph that drives it (R58). -/
  held : Option Word
  h : Nat
  c : Nat
  mute : Mute
  dither : DWord
deriving DecidableEq, Repr

def OutCh.reset : OutCh :=
  { pending := Sample.zero, pendingOld := Sample.zero, got := 0, gotOld := 0, committed := none,
    last := 0, presented := Sample.zero, plain := 0, shown := false, held := none, h := 0, c := 0, mute := .clear, dither := 0 }

/-- An input endpoint channel: the presented and the receiving entry, the receptions completed in
this tick, and whether a reception has completed since its enable (R157, R169). -/
structure InCh where
  presented : Sample
  receiving : Sample
  got : Nat
  live : Bool
deriving DecidableEq, Repr

def InCh.reset : InCh := { presented := Sample.zero, receiving := Sample.zero, got := 0, live := false }

/-- A full tile of a DRAM line that waits in BUF to be written behind (R193, R194): which tile of the line it is, counted from
the line's first without regard to its length; the ticks it has waited; whether its window has passed, and whether
DRAM service was absent in this tick. -/
structure Behind where
  lap : Nat
  age : Nat
  late : Bool
  absent : Bool
deriving DecidableEq, Repr

/-- A delay line in operation (R190, R193): its running ticks, the samples of its current write tile, the runs of ticks, from
the first to before the last, in which no sample was committed to it, and the full tiles that wait in BUF. -/
structure LineState where
  w : Nat
  wtile : Map Word
  gaps : List (Nat × Nat)
  behind : List Behind
deriving DecidableEq, Repr

def LineState.reset : LineState := { w := 0, wtile := [], gaps := [], behind := [] }

/-- The tile that a tap holds internally (R190): its count from the line's first, its bytes, and whether its samples are
poisoned. -/
structure HeldTile where
  lap : Nat
  bytes : List Byte
  poison : Bool
deriving DecidableEq, Repr

/-- A tap in operation (R190, R193): the tile it holds, the counts of the tiles read ahead into BUF for a DRAM line, and the
sample it last presented. -/
structure TapState where
  cur : Option HeldTile
  ahead : List Nat
  last : Sample
deriving DecidableEq, Repr

def TapState.reset : TapState := { cur := none, ahead := [], last := Sample.zero }

/-- A bound tail stream (R249, R250): `ticks` traversed ticks have run since its effect tick, and `periods`
of its periods have begun. -/
structure Tail where
  write : Bool
  dramBase : Nat
  dramTiles : Nat
  ringBase : Nat
  tiles : Nat
  group : Nat
  skip : Nat
  ticks : Nat
  periods : Nat
deriving DecidableEq, Repr

/-- An entry of a schedule that will not be issued in its window, and whether the miss is counted there (R167, R168); an
output transfer whose miss is not counted is an underrun (R170). -/
structure Skip where
  exch : Nat
  win : Nat
  idx : Nat
  counted : Bool
deriving DecidableEq, Repr

/-- The buffers of the chain and the delay engines (R157, R188). -/
structure Chain where
  staging : Map Sample
  inbound : Map Sample
  ins : Map InCh
  outs : Map OutCh
  skips : List Skip
  /-- A schedule tile whose first fetch failed (R168): exchange and tile. -/
  refetch : List (Nat × Nat)
  lines : Map LineState
  taps : Map TapState
  tails : Map (Option Tail)
  /-- Position of logical cell n of a cluster: cluster × 16 + n (R195). -/
  ctt : Map Nat
  /-- The delay engines have served the taps for the tick in progress (R190). -/
  served : Bool
  /-- Regions whose delay engine has counted CHAIN_LATE in the tick in progress, one bit each (R194). -/
  dlyLate : Nat
deriving DecidableEq, Repr

/-- The memories of tiles (R173), the schedule stores among them, with their check-word side arrays. An unlisted byte reads 0,
and an unlisted check word reads 0, which is the check word of a tile of zeros. -/
structure Mem where
  prog : Map Byte
  progChk : Map Word
  back : Map Byte
  backChk : Map Word
  region : Map Byte
  regionChk : Map Word
  dram : Map Byte
  dramChk : Map Word
  sched : Map Byte
  schedChk : Map Word
deriving DecidableEq, Repr

end Sys2Proof.Machine
end

