-- ==== Sys2Proof/Machine/BlockState.lean ====
section
/-! DEFINITION. The state of the blocks around the engine, as plain data. -/
namespace Sys2Proof.Machine
open Sys2Proof

/-- The reset units of a level-3 reaction (R506). -/
inductive Unit3 where
  | eng | sap | drv | net | dtm | dma | executive
deriving DecidableEq, Repr

/-- An entry of the trap log (R505). -/
structure TrapEntry where
  cls : Nat
  level : Nat
  block : Nat
  tick : DWord
  last : Word
deriving DecidableEq, Repr

/-- The FLT block beside its registers: classes whose step of this tick is taken (R504), the trap log
newest first, the traps taken while the executive is stopped, and the level-3 resets not yet made. -/
structure Flt where
  step : Nat
  traps : List TrapEntry
  waiting : List TrapEntry
  resets : List Unit3
deriving DecidableEq, Repr

/-- The PWR block beside its registers (R512, R513): the supply stage, the stage in force and the one
decided, the thermal and critical actions and the readings that start them. -/
structure Pwr where
  supply : Nat
  stage : Nat
  thermal : Bool
  crit : Bool
  hot105 : Nat
  hot115 : Nat
  /-- Milliseconds of readings at or below 100 °C without interruption. -/
  cool : Nat
  /-- Averages in a row above the exit threshold of the supply stage, from the one at which the condition began or at
  which the stage last fell. -/
  above : Nat
deriving DecidableEq, Repr

/-- Start-up, the executive and the stores that survive a reset (R521 to R544). -/
structure Sys where
  /-- Supplies good (R552). -/
  railsGood : Bool
  /-- The level of RESET_N and PERST_N. -/
  resetN : Bool
  perstN : Bool
  /-- The internal reset is released (R348). -/
  up : Bool
  /-- The TAP holds EXTEST, CLAMP or HIGHZ (R541). -/
  tapTest : Bool
  /-- The TAP's instruction, and what the boundary-scan register drives (R540). -/
  tapIr : TapIr
  tapBsr : List Bool
  /-- Straps as sampled: PAIR_ID bit 0, SECURE_EN bit 1, PAIR_EN bit 2, DRAM_SIZE bits 5:4. -/
  straps : Nat
  execReady : Bool
  execStarted : Bool
  /-- EXEC_ALIVE of R464 as the warden sees it. -/
  execAlive : Bool
  /-- Liveness updates since the last warden check window, in milliseconds without one. -/
  liveMs : Nat
  /-- The control cores run from executive memory bank 1. -/
  bank : Bool
  /-- An accepted EXEC_SWAP: its slot and channel (R537, R539). -/
  swap : Option (Nat × Nat)
  uptime : Nat
  fieldBook : Map Byte
  qspi : Map Byte
  /-- The level of FAULT_N: true when driven low. -/
  faultN : Bool
  /-- The 1 ms of R349 has passed with the internal reset held. -/
  resetLate : Bool
deriving DecidableEq, Repr

/-- The state of a command channel (R263). -/
inductive ChanSt where
  | idle | ringing | taken
deriving DecidableEq, Repr

/-- A response that is ready to be written (R274). -/
structure Resp where
  reason : Nat
  applied : DWord
  payload : List Byte
deriving DecidableEq, Repr

/-- How far a TAKEN command has come: its opcode's checks are to be made, it waits for acceptance, it
waits for the partner's acknowledgement or result (R452), it is accepted or at work, or it is answered. -/
inductive Work where
  | fresh | checked | mirrored | forwarded | accepted | answered
deriving DecidableEq, Repr

/-- A command channel beside its registers. `limit` is LIMIT_US as of the ring; `effTick` the effect tick
fixed at the owner's check under R452. -/
structure Chan where
  st : ChanSt
  limit : Nat
  req : List Byte
  work : Work
  rsp : Option Resp
  /-- The response will not be written (R269, R506). -/
  orphan : Bool
  lastSeq : Nat
  effTick : Nat
deriving DecidableEq, Repr

def Chan.reset : Chan :=
  { st := .idle, limit := 0, req := [], work := .fresh, rsp := none, orphan := false, lastSeq := 0, effTick := 0 }

/-- An accepted command whose effect tick has not yet come (R66): its packet, the symbols its entries were
checked against (R234), a staged stake table (R229), and whether its response waits for the effect. -/
structure Sched where
  ch : Nat
  op : Nat
  seq : Nat
  tick : Nat
  req : List Byte
  syms : List Symbol
  table : Map Half
  waits : Bool
  noMirror : Bool
  /-- Accepted on behalf of the partner's channel (R452). -/
  remote : Bool
deriving DecidableEq, Repr

/-- The secure session (R284 to R288). `challenge` is outstanding; `live` until 1 s has passed. -/
structure Session where
  isOpen : Bool
  slot : Nat
  challenge : Option (List Byte)
  lockout : Bool
  fails : Nat
deriving DecidableEq, Repr

/-- The command channels and the inner mailboxes (R261 to R302). -/
structure Cmd where
  chans : Map Chan
  /-- Channels RINGING, in the order of their rings (R277). -/
  rings : List Nat
  /-- Channels whose command takes effect at a tick and is neither accepted nor refused, in the order of
  their takes (R278). -/
  takes : List Nat
  sched : List Sched
  held : Bool
  session : Session
  /-- Doorbell bits set and masked: region r at r, cluster k at 4 + k (R289, R290). -/
  bells : Map Word
  bellMasks : Map Word
  /-- Timeout flags raised to the senders: a doorbell's under its receiver's key and bit, that of the wake event of cell i
  under 36 + i / 16 at bit i mod 16 (R291). -/
  bellFlags : Map Word
deriving DecidableEq, Repr

/-- What the last host access returned: 0 nothing yet, 1 successful, 2 Completer Abort, 3 a poisoned
completion, 4 unsupported request; and its data (R36, R40, R180, R260). -/
structure HostRsp where
  status : Nat
  data : DWord
deriving DecidableEq, Repr

/-- The host side of the chip: the halves latched by reads of LO registers, keyed by the register that shows
them, and the last completion. -/
structure HostState where
  latches : Map Word
  rsp : HostRsp
deriving DecidableEq, Repr

/-- The monitors of one reference beside its registers (R311 to R314): consecutive missing edges, those of PPS_IN, which
reference 4 has beside its 10 MHz, the extra and missing edges of the gate, the trip, and a RANK that takes effect at the next
boundary. -/
structure RefMon where
  tripped : Bool
  run : Nat
  runPps : Nat
  extra : Nat
  miss : Nat
  rankNext : Option Nat
deriving DecidableEq, Repr

def RefMon.reset : RefMon := { tripped := false, run := 0, runPps := 0, extra := 0, miss := 0, rankNext := none }

/-- A record of the holdover model (R323): the time in seconds of the time counter, the mean temperature in 1/256 °C and the
mean correction in 0.01 ppt. -/
structure ModelRec where
  time : Nat
  temp : Int
  corr : Int
deriving DecidableEq, Repr

/-- The holdover model (R322 to R326): `recs` are the records it is fitted to, newest first, and `records` counts all that were
made. -/
structure Model where
  valid : Bool
  tsrc : Nat
  f0 : Word
  c1 : Word
  c2 : Word
  age : Word
  t0 : Half
  epoch : DWord
  learned : Word
  records : Nat
  recs : List ModelRec
deriving DecidableEq, Repr

def Model.reset : Model :=
  { valid := false, tsrc := 0, f0 := 0, c1 := 0, c2 := 0, age := 0, t0 := 0, epoch := 0, learned := 0,
    records := 0, recs := [] }

/-- A time of the time counter (R333): seconds, nanoseconds and 2⁻⁴⁰ nanoseconds. -/
structure Time where
  sec : BitVec 48
  ns : Word
  frac : BitVec 40
deriving DecidableEq, Repr

/-- The last capture of an edge (R337). -/
structure Capture where
  at_ : Time
  unread : Bool
deriving DecidableEq, Repr

/-- The datum and the time counter beside their registers (R304 to R338): the correction c in 0.01 ppt, DATUM_FREQ_ADJ in ppt, the share of
the step in the tick in progress and nanoseconds since the last REFSEL switch, what HOLDOVER holds without a
model, the INC in force, the counter, its value at the last boundary, a DTM_MEDIA_OFF that waits for the next
boundary, and the captures. -/
structure Dtm where
  refs : Map RefMon
  model : Model
  corr : Int
  freqAdj : Int
  /-- TIME clocks since reset, and the corrections and temperatures of the last 10 s by the clock at which each began,
  newest first (R323, R325). -/
  clocks : Nat
  corrs : List (Nat × Int)
  temps : List (Nat × Int)
  /-- The XO sensor has answered (R324). -/
  xoRead : Bool
  /-- The phase target in 0.25 ns, once it is measured; an alignment that waits for its grid; and, in 2⁻⁴⁰ ns, how long after a
  boundary the last PPS_IN edge came (R319). -/
  target : Option Int
  alignDue : Bool
  ppsPhase : Option Nat
  /-- Ticks for which the errors of the lock have lain within their limits (R320). -/
  lockTicks : Nat
  planned : Int
  sinceSwitch : Option Nat
  holdMean : Bool
  mean : Int
  inc : Nat
  time : Time
  bound : Time
  mediaNext : Option DWord
  pps : Capture
  start : Capture
  /-- HOLD_LIMIT in seconds and REG of DATUM_CFG. -/
  holdLimit : Nat
  sensorReg : Nat
deriving DecidableEq, Repr

def Time.zero : Time := { sec := 0, ns := 0, frac := 0 }

def Dtm.reset : Dtm :=
  { refs := [], model := Model.reset, corr := 0, freqAdj := 0, clocks := 0, corrs := [], temps := [], xoRead := false, target := none,
    alignDue := false, ppsPhase := none, lockTicks := 0, planned := 0, sinceSwitch := none, holdMean := false, mean := 0,
    inc := 0x20000000000, time := Time.zero, bound := Time.zero, mediaNext := none,
    pps := { at_ := Time.zero, unread := false }, start := { at_ := Time.zero, unread := false }, holdLimit := 604800, sensorReg := 0 }

/-- The XO monitor and FBRC beside their registers (R345 to R348): consecutive good windows, good windows since
RESET_N was released with no trip, the latched trip, whether it holds the internal reset until FBRC has qualified, FBRC in its
start window, and its good windows. -/
structure Clk where
  good : Nat
  first : Nat
  tripped : Bool
  latch : Bool
  hold : Bool
  fbStart : Bool
  fbGood : Nat
deriving DecidableEq, Repr

def Clk.reset : Clk := { good := 0, first := 0, tripped := false, latch := false, hold := false, fbStart := true, fbGood := 0 }

/-! ## Serial audio, AES3 and MADI -/

/-- A channel of a receiver: the sample it last decoded, and its channel status block in progress with the
non-audio bit of the last complete one (R376 to R378). -/
structure RxCh where
  prev : Word
  pos : Option Nat
  acc : BitVec 192
  na : Bool
deriving DecidableEq, Repr

def RxCh.reset : RxCh := { prev := 0, pos := none, acc := 0, na := false }

/-- A channel pair of a receiver: a preamble seen, the frames since, the last subframe's bits 23:8, and whether
it is muted (R377). -/
structure RxPair where
  burst : Bool
  since : Nat
  last : Half
  muted : Bool
deriving DecidableEq, Repr

def RxPair.reset : RxPair := { burst := false, since := 0, last := 0, muted := false }

/-- An AES3 receiver (0 to 7) or a MADI receiver (8 to 11): frames in a row that are good or bad, the slip
buffer, the frame presented, its channels and pairs, the owner's read decision, and the frame rate measured last, in mHz (R374,
R375, R455). -/
structure Rx where
  good : Nat
  bad : Nat
  reading : Bool
  slip : List (List Word)
  shown : List Word
  chans : Map RxCh
  pairs : Map RxPair
  decision : Nat
  freq : Nat
deriving DecidableEq, Repr

def Rx.reset : Rx :=
  { good := 0, bad := 0, reading := false, slip := [], shown := [], chans := [], pairs := [], decision := 0, freq := 0 }

/-- An AES3 transmitter (0 to 7) or a MADI transmitter (8 to 11): the frame within the channel status block, the block in force,
the frames begun, the samples presented at the boundary before this one, and the subframes of the MADI frame sent last (R379,
R382). -/
structure TxPort where
  pos : Nat
  cs : List Byte
  frames : Nat
  before : List Word
  line : List Word
deriving DecidableEq, Repr

def TxPort.reset : TxPort := { pos := 0, cs := [], frames := 0, before := [], line := [] }

/-- A TDM port: the masks its frame captured at BCLK edge 0, whether a frame that belongs to this tick has arrived, and for a
frame that belongs to the next tick the slots received of it (R366, R367). -/
structure TdmPort where
  rxMask : Word
  txMask : Word
  heard : Bool
  early : Option (List (Nat × Word))
deriving DecidableEq, Repr

def TdmPort.reset : TdmPort := { rxMask := 0, txMask := 0, heard := false, early := none }

/-- The SAP block beside its registers: `release` is the boundary at which the armed set is released, `pulse` the
boundary for which START_OUT is pulsed, `pulses` the pulses made, and `captured` the boundary that a non-owner's own START_IN
capture gives (R370 to R373). -/
structure Sap where
  rxs : Map Rx
  txs : Map TxPort
  tdm : Map TdmPort
  release : Option Nat
  pulse : Option Nat
  pulses : Nat
  captured : Option Nat
deriving DecidableEq, Repr

def Sap.reset : Sap := { rxs := [], txs := [], tdm := [], release := none, pulse := none, pulses := 0, captured := none }

/-- A cue port beside its registers: consecutive readings of DET_N at a new level, milliseconds of
classification, the button state read (0 to 3, or 4 for none) and how often, and how long a button is held. -/
structure Cue where
  detRun : Nat
  classMs : Nat
  seen : Nat
  run : Nat
  heldMs : Nat
deriving DecidableEq, Repr

def Cue.reset : Cue := { detRun := 0, classMs := 0, seen := 4, run := 0, heldMs := 0 }

/-! ## Ethernet -/

/-- A stream: its configuration as the command gave it, its enable, the samples stored by tick, the samples last
presented, the ticks of a gap, whether a sample has been stored, the last sequence numbers, the ticks for which
A_OK and B_OK still read 1, its statistics, and for a transmit stream the samples gathered (R403 to R410). -/
structure Stream where
  cfg : List Byte
  en : Bool
  buf : Map (List Word)
  prev : List Word
  gap : Nat
  started : Bool
  seqA : Option Nat
  seqB : Option Nat
  okA : Nat
  okB : Nat
  stats : Map Nat
  gather : List (List Word)
deriving DecidableEq, Repr

def Stream.reset : Stream :=
  { cfg := [], en := false, buf := [], prev := [], gap := 0, started := false, seqA := none, seqB := none,
    okA := 0, okB := 0, stats := [], gather := [] }

/-- What MAC_CFG sets beside the registers: the IP addresses and the queue base. -/
structure MacCfg where
  ipv4 : List Byte
  ipv6 : List Byte
  base : Nat
deriving DecidableEq, Repr

def MacCfg.reset : MacCfg := { ipv4 := [], ipv6 := [], base := 0 }

/-- A frame that waits to be sent: kind 0 stream, 1 PTP, 2 NET_SEND; its bytes without the FCS; and the stream or
the channel it comes from. -/
structure TxFrame where
  mac : Nat
  kind : Nat
  bytes : List Byte
  src : Nat
deriving DecidableEq, Repr

/-- A NET_SEND in progress: frames sent, and whether it ends with CHECK_FAIL (R402). -/
structure Sending where
  ch : Nat
  sent : Nat
  fail : Bool
deriving DecidableEq, Repr

/-- A PTP master seen: the MAC it is heard on, its Announce fields in the order in which they are compared, its port identity, the
TIME clocks counted when it was last heard, and whether it is qualified. -/
structure Master where
  mac : Nat
  rank : List Byte
  ident : List Byte
  heard : Nat
  good : Bool
deriving DecidableEq, Repr

/-- The PTP servo (R336, R414): its configuration, the masters heard, the selected one, the receive time of the
last Sync and the transmit time of the last Delay_Req, the next sequence number; SEQ and correction of a two-step Sync whose
Follow_Up is awaited, the time at which the master sent the last Sync, whether a Delay_Req awaits its Delay_Resp, and the path delay
measured last, all times in 2⁻⁴⁰ ns. -/
structure Ptp where
  cfg : List Byte
  masters : List Master
  master : Option Master
  syncAt : Time
  reqAt : Time
  seq : Half
  follow : Option (Nat × Int)
  origin : Option Int
  asked : Bool
  delay : Option Int
deriving DecidableEq, Repr

def Ptp.reset : Ptp :=
  { cfg := [], masters := [], master := none, syncAt := Time.zero, reqAt := Time.zero, seq := 0, follow := none, origin := none,
    asked := false, delay := none }

/-- The NET block beside its registers. `stats` holds MAC m's statistic i at 16 × m + i; `wire` the last frame
each MAC sent. Receive streams stand at their number, transmit streams at 512 plus it. `gathered` says that the transmit streams have
taken the samples of this tick. -/
structure Net where
  macs : Map MacCfg
  streams : Map Stream
  stats : Map DWord
  queue : List TxFrame
  sends : List Sending
  ptp : Ptp
  wire : Map (List Byte)
  gathered : Bool
deriving DecidableEq, Repr

def Net.reset : Net :=
  { macs := [], streams := [], stats := [], queue := [], sends := [], ptp := Ptp.reset, wire := [], gathered := false }

/-! ## Drive -/

/-- A drive channel beside its registers: carrier periods since its start, whether the start is a retry, the gains
g and h in 2⁻³², a ramp-out's remaining carrier periods with the gains it began at, the interpolation's previous
sample, a trip that waits for the carrier boundary, the noise-shaping errors and limiter gain of R424, the pulse
width, the tick from which a retry may start, ticks of the retry's final ramp, a load outside its window, and the units of half a DRIVE
cycle since the pilot's start. -/
structure DrvCh where
  n : Nat
  retry : Bool
  g : Nat
  h : Nat
  out : Nat
  g0 : Nat
  h0 : Nat
  p0 : Word
  p1 : Word
  trip : Bool
  dc : Bool
  e1 : Int
  e2 : Int
  lim : Nat
  q : Nat
  waitTick : Nat
  grow : Nat
  zOut : Bool
  measuring : Bool
  vSum : Int
  vN : Nat
  pilot : Nat
deriving DecidableEq, Repr

def DrvCh.reset : DrvCh :=
  { n := 0, retry := false, g := 0, h := 0, out := 0, g0 := 0, h0 := 0, p0 := 0, p1 := 0, trip := false, dc := false, e1 := 0,
    e2 := 0, lim := 4294967296, q := 0, waitTick := 0, grow := 0, zOut := false, measuring := false,
    vSum := 0, vN := 0, pilot := 0 }

/-- A power module beside its registers: its configuration as DRIVE_CFG gave it, the carrier boundaries of a stop
that remain, whether a stop leaves the module enabled (R428, R432), the channels that restart when the module may run again, the sense frames in a row that were valid
and the last SEQ, a rail below PVDD_MIN, the carrier period of the tick, and the edge of DRV_FCLK, its tick and its number there, that
the last valid frame belongs to (R430). -/
structure DrvMod where
  cfg : List Byte
  stop : Nat
  hold : Bool
  restart : Nat
  valid : Nat
  seq : Option Nat
  low : Bool
  period : Nat
  edge : Option (Nat × Nat)
deriving DecidableEq, Repr

def DrvMod.reset : DrvMod :=
  { cfg := [], stop := 0, hold := false, restart := 0, valid := 0, seq := none, low := false, period := 0, edge := none }

/-- The DRV block beside its registers. `adopt` holds the channel states the owner sent (R439). -/
structure Drv where
  chans : Map DrvCh
  mods : Map DrvMod
  adopt : List Word
deriving DecidableEq, Repr

def Drv.reset : Drv := { chans := [], mods := [], adopt := [] }

/-! ## The pair -/

/-- A heartbeat as it is read from its frame (R447). -/
structure Beat where
  flags : Nat
  engine : Nat
  shed : Nat
  tick : DWord
  sigs : List Word
  releaseAt : DWord
  startRel : DWord
  slip : Nat
  txOfs : Word
  rxOfs : Word
  image : DWord
deriving DecidableEq, Repr

/-- The signatures of a tick, with what governs their comparison: ENGINE, the regions settled, the shed stage, a fade,
and the live IMAGE_ID (R449, R457). -/
structure Sigs where
  tick : DWord
  sigs : List Word
  engine : Nat
  settled : Nat
  shed : Nat
  fade : Bool
  image : DWord
deriving DecidableEq, Repr

/-- A command that travels the mirror (R452): the channel it came from on the chip that took it, its packet, its effect
tick, and whether this chip has acknowledged the owner's copy of it, with the payload that then answers it. -/
structure Mirrored where
  ch : Nat
  req : List Byte
  tick : Nat
  acked : Bool
  pay : List Byte
deriving DecidableEq, Repr

/-- What the standby does to undo its acknowledgement of a copy, when the owner refuses the command after all (R452, R453):
the entry it scheduled, the entries it cancelled, the bank it discarded, or the field book it wrote. -/
inductive Undo where
  | entry (e : Sched)
  | cancel (before gone : List Sched)
  | bank (b : Bank)
  | book (m : Map Byte)
deriving DecidableEq, Repr

/-- A PAIR_RESYNC in progress (R466): its channel on the owner; none on the standby. -/
structure Resync where
  ch : Option Nat
deriving DecidableEq, Repr

/-- The PAIR block and the warden beside their registers (R443 to R467). -/
structure Pair where
  /-- This chip drives the wired outputs, and the level of PAIR_OWN_IN at the last partner point. -/
  owner : Bool
  ownIn : Bool
  /-- PAIR_OWN_IN read asserted at the last partner point while this chip owned (R462). -/
  bothOwn : Bool
  linkUp : Bool
  /-- The partner of the hello exchange is incompatible, and carries the same PAIR_ID. -/
  incompat : Bool
  sameId : Bool
  partnerId : DWord
  /-- Unit A has neither owned nor found PAIR_OWN_IN asserted since its reset (R461). -/
  unitFirst : Bool
  /-- A heartbeat has arrived since the last partner point; the last one; presence at the last point. -/
  fresh : Bool
  beat : Option Beat
  present : Bool
  /-- RX_OFS and TX_OFS of this chip. -/
  rxOwn : Word
  txOfs : Word
  /-- The heartbeat of the tick before has left (R448). -/
  left : Bool
  /-- Consecutive partner points at which PAIR_OWN_IN read released. -/
  released : Nat
  /-- The boundary of a takeover, and its rule: 0 R460, 1 R461. -/
  takeAt : Option Nat
  takeRule : Nat
  /-- RELEASE_AT in force; on the owner the standby's TAKE_ACK has come, on the standby it has been sent. -/
  releaseAt : Option Nat
  takeAck : Bool
  /-- A resynchronisation has completed since reset; LINK_LOST came directly from SYNCED without a gap since. -/
  resynced : Bool
  fromSynced : Bool
  own : Option Sigs
  /-- The signatures of the last tick for which both heartbeats are at hand: this chip's and the partner's. -/
  matched : Option (Sigs × List Word)
  diverged : Bool
  /-- The channel of a PAIR_HANDOVER that waits for its boundary. -/
  handover : Option Nat
  resync : Option Resync
  copies : List Mirrored
  forwards : List Mirrored
  /-- By the owner's channel, as its copies number it here: how the last acknowledgement is undone. -/
  undo : List (Nat × Undo)
  /-- What a resynchronisation has copied so far, and the tick in which its last part came. -/
  bulk : List BulkItem
  bulkAt : Nat
  /-- The heartbeat last sent, and the results sent for forwarded commands: channel, reason, applied tick, payload. -/
  sent : List Byte
  results : List (Nat × Nat × Nat × List Byte)
deriving DecidableEq, Repr

def Pair.reset : Pair :=
  { owner := false, ownIn := false, bothOwn := false, linkUp := false, incompat := false, sameId := false, partnerId := 0,
    unitFirst := true, fresh := false, beat := none, present := false, rxOwn := 0, txOfs := 0, left := true,
    released := 0, takeAt := none, takeRule := 0, releaseAt := none, takeAck := false, resynced := false,
    fromSynced := false, own := none, matched := none, diverged := false, handover := none, resync := none,
    copies := [], forwards := [], undo := [], bulk := [], bulkAt := 0, sent := [], results := [] }

/-! ## DMA and DRAM -/

/-- The active set of a DMA channel (R488 to R497): what it copies, the bytes not yet confirmed written, the burst
in the holding register, whether the engine waits for the write response, and whether the channel stops when the step in progress is
complete. -/
structure DmaAct where
  src : Nat
  dst : Nat
  count : Nat
  cfg : Word
  left : Nat
  hold : List Byte
  mark : Bool
  writing : Bool
  stop : Bool
deriving DecidableEq, Repr

/-- The DMA engine beside its registers: its queue and its active sets. -/
structure Dma where
  queue : List Nat
  acts : Map (Option DmaAct)
deriving DecidableEq, Repr

def Dma.reset : Dma := { queue := [], acts := [] }

/-- A request that the DRAM controller holds (R472, R473): its number, its QoS, its tile, the TIME clock at its arrival, and whether it has
been issued. A write entry also holds the tile and its side-array entry as they were before it, and its writes in arrival order. -/
structure DramReq where
  num : Nat
  qos : Nat
  tile : Nat
  init : Nat
  since : Nat
  issued : Bool
  write : Bool
  old : List Byte
  oldChk : Word
  parts : List DramAccess
deriving DecidableEq, Repr

/-- The DRAM controller beside its registers: a retraining that waits for its window, the tick of the last window
and of the last frequency change, and the boundary at which CELL last changed its frequency. -/
structure Ddr where
  drift : Bool
  lastWindow : Option Nat
  lastFreq : Option Nat
  cellAt : Nat
  /-- The requests that the controller holds, the oldest first (R472); the row that is open in each bank; the number that the next
  request takes. -/
  reqs : List DramReq
  rows : Map (Option Nat)
  nreq : Nat
deriving DecidableEq, Repr

def Ddr.reset : Ddr :=
  { drift := false, lastWindow := none, lastFreq := none, cellAt := 0, reqs := [], rows := [], nreq := 0 }

/-! ## Arbitration (R171, R172, R482) -/

/-- A requester of a region memory port: a slot of a cell with its rank, 1 a streamer refill, 2 a traverse move, 3 a background
move. -/
structure Asker where
  rank : Nat
  cell : Nat
  slot : Nat
deriving DecidableEq, Repr

/-- The arbiter of a region memory port: the grants that each requester has waited through, the grants whose move has not completed, the
cluster granted last, and in each cluster the cell granted last. -/
structure PortQ where
  waits : List (Asker × Nat)
  granted : List Asker
  cluster : Option Nat
  cell : Map (Option Nat)
deriving DecidableEq, Repr

def PortQ.reset : PortQ := { waits := [], granted := [], cluster := none, cell := [] }

/-- The arbiters: of the region memory ports, and of the ports of the bus matrix with the initiator that each granted last. -/
structure Ports where
  region : Map PortQ
  bus : Map (Option Nat)
deriving DecidableEq, Repr

def Ports.reset : Ports := { region := [], bus := [] }

end Sys2Proof.Machine
end

