-- ==== Sys2Proof/Machine/State.lean ====
section
/-! DEFINITION. The state of the machine: one chip with everything the spec gives it, the queue of commands, and its reset (R521). -/
namespace Sys2Proof.Machine
open Sys2Proof

/-- Everything the spec gives the chip, but for the queue of commands. Registers whose content is shown from other fields are
computed where they are read; `nfree` is the model's own. -/
structure Chip where
  /-- The tick generator and the run state (R46 to R86). -/
  eng : Eng
  /-- The 512 physical cells (R18, R87 to R150). -/
  cells : Map Cell
  /-- The graph banks, the fade, the retirement and the stakes (R201 to R231). -/
  graph : GraphState
  /-- The buffers of the chain, the delay engines and the tail streams (R151 to R199, R249 to R253). -/
  chain : Chain
  /-- The memories of tiles with their check words (R173 to R181). -/
  mem : Mem
  /-- The stored registers by address (R12 to R16): PF0 at the offset in BAR0, PF1 at 0x8000_0000 plus its offset, the
  references of DTM at 0x4000_0000 plus 32 each. -/
  regs : Map Word
  /-- What waits in the fault reactions (R500 to R508). -/
  flt : Flt
  /-- The supply and the die temperature (R512 to R517). -/
  pwr : Pwr
  /-- Pins, reset, the executive, the field book and the flash (R521 to R545). -/
  sys : Sys
  /-- The command channels, the effects that are scheduled, the session and the doorbells (R261 to R300). -/
  cmd : Cmd
  /-- The host's last completion and the latched halves (R38 to R41). -/
  host : HostState
  /-- The datum and the references (R301 to R340). -/
  dtm : Dtm
  /-- The clock monitors (R341 to R357). -/
  clk : Clk
  /-- The serial audio ports (R358 to R391). -/
  sap : Sap
  /-- The cue ports (R384 to R389). -/
  cues : Map Cue
  /-- The MACs and the stream engine (R392 to R418). -/
  net : Net
  /-- The drive modules and channels (R419 to R442). -/
  drv : Drv
  /-- The Povin link, the warden and the mirror (R443 to R469). -/
  pair : Pair
  /-- The DMA engine (R488 to R497). -/
  dma : Dma
  /-- The DRAM controller (R470 to R479). -/
  ddr : Ddr
  /-- The arbiters of the ports (R171, R172, R482). -/
  ports : Ports
  /-- How often each MSI-X vector has been signalled (R44, R45). -/
  msix : Map Nat
  /-- By event register: the bits that raised their vector when they were last set (R45, R88). -/
  raised : Map Word
  /-- The model's own: how many free values have been used (log entry 3). -/
  nfree : Nat
deriving DecidableEq, Repr

def Eng.reset : Eng :=
  { engine := .boot, rate := none, ticking := false, tick := 0, phase := .idle, cell1000 := false,
    holdIndef := false, holdLeft := 0, suspended := false, failed := none, change := none }

def GraphState.reset : GraphState :=
  { live := none, bank := .empty, fade := none, retire := none, settleCnt := [], settled := 0,
    dropFrom := 4, drop := 0, stake := [], stakeOrigin := 0, stakeMod := false }

def Chain.reset : Chain :=
  { staging := [], inbound := [], ins := [], outs := [], skips := [], refetch := [], lines := [],
    taps := [], tails := [], ctt := [], served := false, dlyLate := 0 }

def Mem.reset : Mem :=
  { prog := [], progChk := [], back := [], backChk := [], region := [], regionChk := [], dram := [],
    dramChk := [], sched := [], schedChk := [] }

def Flt.reset : Flt := { step := 0, traps := [], waiting := [], resets := [] }

def Pwr.reset : Pwr :=
  { supply := 0, stage := 0, thermal := false, crit := false, hot105 := 0, hot115 := 0, cool := 0, above := 0 }

def Sys.reset : Sys :=
  { railsGood := true, resetN := false, perstN := true, up := false, tapTest := false, tapIr := .idcode, tapBsr := [], straps := 0,
    execReady := false, execStarted := false, execAlive := false, liveMs := 0, bank := false,
    swap := none, uptime := 0, fieldBook := [], qspi := [], faultN := false, resetLate := false }

def Session.reset : Session :=
  { isOpen := false, slot := 0, challenge := none, lockout := false, fails := 0 }

def Cmd.reset : Cmd :=
  { chans := [], rings := [], takes := [], sched := [], held := false, session := Session.reset,
    bells := [], bellMasks := [], bellFlags := [] }

def HostState.reset : HostState := { latches := [], rsp := { status := 0, data := 0 } }

def Chip.reset : Chip :=
  { eng := Eng.reset, cells := [], graph := GraphState.reset, chain := Chain.reset, mem := Mem.reset,
    regs := Map.put regReset [] Reg.CLK_RESET_CAUSE 1, flt := Flt.reset, pwr := Pwr.reset, sys := Sys.reset, cmd := Cmd.reset, host := HostState.reset,
    dtm := Dtm.reset, clk := Clk.reset, sap := Sap.reset, cues := [], net := Net.reset, drv := Drv.reset,
    pair := Pair.reset, dma := Dma.reset, ddr := Ddr.reset, ports := Ports.reset, msix := [], raised := [], nfree := 0 }

/-- The machine: the chip, and the commands that wait, first in, first out. -/
structure State where
  chip : Chip
  pending : List Instr
deriving DecidableEq, Repr

/-- The faults that end a run: the spec gives every command an effect, so no meaning raises one. -/
inductive Fault where
  /-- Raised by no command; safe. -/
  | unreachable
deriving DecidableEq, Repr

/-- The reasons for which the model gives a command no meaning. -/
inductive Refusal where
  /-- Raised by an arm of `exec` that has no meaning yet, under the command's mnemonic: there is none left; safe. -/
  | notModelled (mnemonic : String)
deriving DecidableEq, Repr

/-- The machine right after reset: the rails good, RESET_N low, no command waiting. -/
def State.reset : State := { chip := Chip.reset, pending := [] }

end Sys2Proof.Machine
end

