-- ==== Sys2Proof/Machine/Ops.lean ====
section
/-! DEFINITION. The named operations over registers, counters, events, interrupts and memories that the
meanings share. -/
namespace Sys2Proof.Machine
open Sys2Proof

/-- A command whose effect on the chip is `f`: everything but the queue (every meaning ends here). -/
def State.act (s : State) (f : Chip → Chip) : Host.Outcome State Fault Refusal :=
  .next { s with chip := f s.chip }

/-! ## Registers -/

/-- The stored value of a register. -/
def Chip.reg (c : Chip) (a : Nat) : Word := Map.get regReset c.regs a

/-- Stores a register. -/
def Chip.setReg (c : Chip) (a : Nat) (v : Word) : Chip := { c with regs := Map.put regReset c.regs a v }

/-- Changes a register. -/
def Chip.modReg (c : Chip) (a : Nat) (f : Word → Word) : Chip := c.setReg a (f (c.reg a))

/-- A field of a register. -/
def Chip.regFld (c : Chip) (a hi lo : Nat) : Nat := fld (c.reg a) hi lo

/-- Stores a field of a register. -/
def Chip.setFld (c : Chip) (a hi lo v : Nat) : Chip := c.modReg a (fun x => putFld x hi lo v)

/-- A bit of a register. -/
def Chip.regBit (c : Chip) (a i : Nat) : Bool := (c.reg a).getLsbD i

/-- Sets or clears a bit of a register. -/
def Chip.setBit (c : Chip) (a i : Nat) (b : Bool) : Chip := c.modReg a (fun x => putBit x i b)

/-- One more event in the 16-bit counter of a register: it saturates at 0xFFFF (R509). -/
def Chip.bump (c : Chip) (a : Nat) : Chip :=
  let n := c.regFld a 15 0
  c.setFld a 15 0 (if n < 65535 then n + 1 else 65535)

/-- `n` more events in a 16-bit counter. -/
def Chip.bumpBy (c : Chip) (a n : Nat) : Chip :=
  let m := c.regFld a 15 0 + n
  c.setFld a 15 0 (if m < 65535 then m else 65535)

/-! ## Interrupts -/

/-- Signals the vector of a source: with COLLAPSE every PF0 source signals vector 0 (R44, R45). -/
def Chip.signal (c : Chip) (v : Nat) : Chip :=
  let w := if 4 ≤ v ∧ v ≤ 7 then v else if c.regBit Reg.GCTL_MSIX_ROUTE 0 then 0 else v
  { c with msix := Map.put (fun _ => 0) c.msix w (Map.get (fun _ => 0) c.msix w + 1) }

/-- The bits of an event register that raised their vector when they were last set. -/
def Chip.raisedBits (c : Chip) (a : Nat) : Word := Map.get (fun _ => 0) c.raised a

/-- Sets bit `i` of event register `a`; the source signals its vector when the bit was clear and `ok`, and the condition then
lasts until the bit is cleared, whatever becomes of the reaction level (R45, R88). -/
def Chip.event (c : Chip) (a i v : Nat) (ok : Bool) : Chip :=
  if c.regBit a i then c
  else
    let c1 := c.setBit a i true
    let c2 := { c1 with raised := Map.put (fun _ => 0) c1.raised a (putBit (c1.raisedBits a) i ok) }
    if ok then c2.signal v else c2

/-! ## Time -/

/-- ENG_TICK as a number. -/
def Chip.tickN (c : Chip) : Nat := c.eng.tick.toNat

/-- The configured LEVEL of a fault class (FLT_CFG). -/
def Chip.level (c : Chip) (cls : Nat) : Nat := c.regFld (Reg.FLT_CFG cls) 2 0

/-! ## Straps -/

def Chip.pairId (c : Chip) : Bool := c.sys.straps.testBit 0
def Chip.secureEn (c : Chip) : Bool := c.sys.straps.testBit 1
def Chip.pairEn (c : Chip) : Bool := c.sys.straps.testBit 2

/-- The function of a channel answers the host: PF1 exists with SECURE_EN = 1 only (R42), and neither does in reset. -/
def Chip.pfUp (c : Chip) (pf1 : Bool) : Bool := c.sys.up && c.sys.perstN && (!pf1 || c.secureEn)

/-- Installed DRAM in bytes (GCTL_STRAP). -/
def Chip.dramSize (c : Chip) : Nat := 2 ^ 32 * 2 ^ (bits c.sys.straps 5 4)

/-- DRAM below the check-word area (R181). -/
def Chip.dramUsable (c : Chip) : Nat := c.dramSize - c.dramSize / 64

/-! ## Bytes and tiles -/

/-- What an unlisted byte of memory reads as. -/
def byte0 : Nat → Byte := fun _ => 0

/-- `n` bytes from address `a`. -/
def memRead (m : Map Byte) (a : Nat) : Nat → List Byte
  | 0 => []
  | n + 1 => Map.get byte0 m a :: memRead m (a + 1) n

/-- Writes bytes from address `a`. -/
def memWrite (m : Map Byte) (a : Nat) : List Byte → Map Byte
  | [] => m
  | b :: r => memWrite (Map.put byte0 m a b) (a + 1) r

/-- What an unlisted check word reads as: the check word of a tile of zeros (R174). -/
def chk0 : Nat → Word := fun _ => 0

/-- The memories of tiles (R173). A tile number counts over all units: cell × 128 + tile for program
memory, cell × 512 + tile for backing memory, region × 16,384 + tile for region memory, exchange × 2²⁰ + tile for the
schedule stores. -/
inductive Space where
  | prog | back | region | dram | sched
deriving DecidableEq, Repr

/-- The bytes of a memory. -/
def Mem.bytes (m : Mem) : Space → Map Byte
  | .prog => m.prog
  | .back => m.back
  | .region => m.region
  | .dram => m.dram
  | .sched => m.sched

/-- The side array of a memory. -/
def Mem.chks (m : Mem) : Space → Map Word
  | .prog => m.progChk
  | .back => m.backChk
  | .region => m.regionChk
  | .dram => m.dramChk
  | .sched => m.schedChk

/-- Replaces a memory and its side array. -/
def Mem.set (m : Mem) (sp : Space) (b : Map Byte) (k : Map Word) : Mem :=
  match sp with
  | .prog => { m with prog := b, progChk := k }
  | .back => { m with back := b, backChk := k }
  | .region => { m with region := b, regionChk := k }
  | .dram => { m with dram := b, dramChk := k }
  | .sched => { m with sched := b, schedChk := k }

/-- The 256 bytes of a tile. -/
def Mem.tile (m : Mem) (sp : Space) (t : Nat) : List Byte := memRead (m.bytes sp) (256 * t) 256

/-- The side-array entry of a tile. -/
def Mem.entry (m : Mem) (sp : Space) (t : Nat) : Word := Map.get chk0 (m.chks sp) t

/-- A side-array entry carries the stored-poison mark (R175). -/
def marked (k : Word) : Bool := fld k 31 16 = 65535

/-- A tile fails its check (R176). -/
def Mem.fails (m : Mem) (sp : Space) (t : Nat) : Bool :=
  let k := m.entry sp t
  !marked k && !decide (k = checkWord (m.tile sp t))

/-- The check word with the mark (R175). -/
def markOf (k : Word) : Word := putFld k 31 16 65535

/-- Writes a whole tile with a fresh check word, and with the mark when `mark` (R175, R177). -/
def Mem.putTile (m : Mem) (sp : Space) (t : Nat) (b : List Byte) (mark : Bool) : Mem :=
  let k := checkWord b
  m.set sp (memWrite (m.bytes sp) (256 * t) b)
    (Map.put chk0 (m.chks sp) t (if mark then markOf k else k))

/-- Writes consecutive tiles of a memory from tile `t`, each with a fresh check word. -/
def Mem.putTiles (m : Mem) (sp : Space) (t : Nat) (b : List Byte) : Nat → Mem
  | 0 => m
  | n + 1 => (m.putTile sp t (b.take 256) false).putTiles sp (t + 1) (b.drop 256) n

/-- A write smaller than a tile: read, verify, merge and write back; a failed or marked read leaves the
mark (R179). `bad` says that the tile as read does not agree with what was stored. -/
def Mem.merge (m : Mem) (sp : Space) (addr : Nat) (b : List Byte) (bad : Bool) : Mem :=
  let t := addr / 256
  let o := addr % 256
  let old := m.tile sp t
  let new := old.take o ++ b ++ old.drop (o + b.length)
  m.putTile sp t new (bad || marked (m.entry sp t) || m.fails sp t)

end Sys2Proof.Machine
end

