-- ==== Sys2Proof/Machine/Fault.lean ====
section
/-! DEFINITION. Fault classes and their reactions (R500 to R508): one operation raises a fault, and every
meaning that reports one calls it. -/
namespace Sys2Proof.Machine
open Sys2Proof

/-- The fault classes (R500). -/
inductive FaultClass where
  | tileCheck | closure | chainLate | chainCollide | ddrXfer | busDecode | busErr | dmaErr | mbxTimeout
  | refLost | datumUnlock | portSlip | portNonaudio | netCrc | netRunt | netOversize | streamLate
  | streamGap | driveOc | driveDc | driveLoad | driveRail | pairHeartbeat | pairDiverge | supplySag
  | thermal | execWdog | fieldbookWrite
deriving DecidableEq, Repr

/-- The number of a class (R500). -/
def FaultClass.num : FaultClass → Nat
  | .tileCheck => 0 | .closure => 1 | .chainLate => 2 | .chainCollide => 3 | .ddrXfer => 4
  | .busDecode => 5 | .busErr => 6 | .dmaErr => 7 | .mbxTimeout => 8 | .refLost => 9
  | .datumUnlock => 10 | .portSlip => 11 | .portNonaudio => 12 | .netCrc => 13 | .netRunt => 14
  | .netOversize => 15 | .streamLate => 16 | .streamGap => 17 | .driveOc => 18 | .driveDc => 19
  | .driveLoad => 20 | .driveRail => 21 | .pairHeartbeat => 22 | .pairDiverge => 23 | .supplySag => 24
  | .thermal => 25 | .execWdog => 26 | .fieldbookWrite => 27

/-- The block codes of R505. -/
def blkENG : Nat := 14
def blkCMD : Nat := 1
def blkFLT : Nat := 2
def blkDTM : Nat := 3
def blkSAP : Nat := 5
def blkNET : Nat := 6
def blkDRV : Nat := 7
def blkPAIR : Nat := 8
def blkDMA : Nat := 9
def blkDDR : Nat := 10
def blkBMX : Nat := 11
def blkPWR : Nat := 12
def blkWARDEN : Nat := 15

/-- The reset unit of a class reported by a block (R500). -/
def resetUnit (cls : FaultClass) (blk : Nat) : Option Unit3 :=
  match cls with
  | .tileCheck => if blk = blkDDR then none else some .eng
  | .closure | .chainLate | .chainCollide => some .eng
  | .mbxTimeout => if blk = blkCMD then none else some .eng
  | .dmaErr => some .dma
  | .refLost | .datumUnlock => some .dtm
  | .portSlip | .portNonaudio => some .sap
  | .netCrc | .netRunt | .netOversize | .streamLate | .streamGap => some .net
  | .driveOc | .driveDc | .driveLoad | .driveRail => some .drv
  | .execWdog => some .executive
  | _ => none

/-- The effective level E of a class (FLT_EFF). -/
def Chip.eff (c : Chip) (cls : Nat) : Nat :=
  c.regFld (Reg.FLT_EFF (cls / 8)) (4 * (cls % 8) + 3) (4 * (cls % 8))

/-- Stores E of a class. -/
def Chip.setEff (c : Chip) (cls e : Nat) : Chip :=
  c.setFld (Reg.FLT_EFF (cls / 8)) (4 * (cls % 8) + 3) (4 * (cls % 8)) e

/-- A class with FN = 1 is unacknowledged (R508). -/
def Chip.fnAsserted (c : Chip) : Bool :=
  (List.range 28).any (fun k => c.regBit Reg.FLT_UNACK k && c.regBit (Reg.FLT_CFG k) 4)

/-- The causes of FLT_FAULTN and the level of FAULT_N that they give (R508); `pairClash` is the pair cause. -/
def Chip.faultNLevel (c : Chip) (pairClash : Bool) : Bool :=
  c.fnAsserted || c.regBit Reg.PWR_RESET_CAUSE 31 || pairClash || (c.sys.resetLate && !c.sys.up) || c.pwr.stage == 5

/-- Brings FAULT_N and FLT_FAULTN in line with their causes and sets FLT_EVENT.FAULTN on a change (R508). -/
def Chip.faultN (c : Chip) : Chip :=
  let clash := c.regBit Reg.FLT_FAULTN 1
  let lvl := c.faultNLevel clash
  let v : Word := putBit (putBit (putBit (putBit 0 31 lvl) 2 (c.regBit Reg.PWR_RESET_CAUSE 31)) 1 clash) 0 c.fnAsserted
  let c1 := c.setReg Reg.FLT_FAULTN v
  if lvl = c.sys.faultN then c1
  else { c1 with sys := { c1.sys with faultN := lvl } }.event Reg.FLT_EVENT 3 8 true

/-- Adds an entry to the trap log, newest first, at most 32 (R505). -/
def Chip.logTrap (c : Chip) (t : TrapEntry) : Chip :=
  ({ c with flt := { c.flt with traps := (t :: c.flt.traps).take 32 } }).event Reg.FLT_EVENT 0 8 true

/-- A level-2 trap: logged by the executive, or held until it returns (R505). -/
def Chip.trap (c : Chip) (t : TrapEntry) : Chip :=
  if c.sys.execAlive then c.logTrap t
  else { c with flt := { c.flt with waiting := c.flt.waiting ++ [t] } }

/-- The registers that a chip reset keeps: the causes of the last reset, and what the AON monitors show (R344, R345,
R346, R507). -/
def Chip.keptRegs (c : Chip) : Map Word :=
  let mon : Word := putFld 0 10 6 (c.regFld Reg.CLK_STAT 10 6)
  [(Reg.CLK_RESET_CAUSE, c.reg Reg.CLK_RESET_CAUSE), (Reg.PWR_RESET_CAUSE, c.reg Reg.PWR_RESET_CAUSE), (Reg.CLK_STAT, mon),
    (Reg.CLK_XO_WIN, c.reg Reg.CLK_XO_WIN)].foldl (fun m e => Map.put regReset m e.1 e.2) []

/-- The chip reset of R344, R507, R514 and R522: everything returns to its reset value but what a reset
keeps: the supplies and pins, the straps sampled, the field book and the QSPI NOR, the retained registers,
the memories, and the monitors of the clocks, the supply and the temperature, which run in AON. -/
def Chip.chipReset (c : Chip) : Chip :=
  { Chip.reset with
    sys := { Sys.reset with
      railsGood := c.sys.railsGood, resetN := c.sys.resetN, perstN := c.sys.perstN,
      tapTest := c.sys.tapTest, tapIr := c.sys.tapIr, tapBsr := c.sys.tapBsr, straps := c.sys.straps, fieldBook := c.sys.fieldBook,
      qspi := c.sys.qspi, faultN := c.sys.faultN }
    pwr := c.pwr
    clk := c.clk
    pair := { Pair.reset with ownIn := c.pair.ownIn }
    mem := c.mem
    nfree := c.nfree
    regs := c.keptRegs }

/-- The level-4 reaction: a chip reset with the cause recorded (R507). -/
def Chip.level4 (c : Chip) (cls : Nat) : Chip :=
  let c1 := c.modReg Reg.PWR_RESET_CAUSE (fun x => putFld (putBit x 31 true) 4 0 cls)
  c1.chipReset.faultN

/-- Requests the level-3 reset of a unit; BLOCK_RESET makes it at its time (R506). -/
def Chip.askReset (c : Chip) (u : Unit3) : Chip :=
  if u ∈ c.flt.resets then c else { c with flt := { c.flt with resets := c.flt.resets ++ [u] } }

/-- Sets a class's bit in FLT_RAISED. A reporter without a vector of its own makes it a condition of vector 8, which lasts
until the bit is cleared and signals as it becomes set (R45, R502, R519). -/
def Chip.markRaised (c : Chip) (k : Nat) (own : Bool) : Chip :=
  let was := c.regBit Reg.FLT_RAISED k && (c.raisedBits Reg.FLT_RAISED).toNat.testBit k
  let c1 := c.setBit Reg.FLT_RAISED k true
  let c2 := { c1 with raised := Map.put (fun _ => 0) c1.raised Reg.FLT_RAISED (putBit (c1.raisedBits Reg.FLT_RAISED) k (was || own)) }
  if own && !was then c2.signal 8 else c2

/-- Applies effective level `e` of a class (R501, R502, R506, R507). `last` is the reporting block's LAST
register. -/
def Chip.react (c : Chip) (cls : FaultClass) (e blk : Nat) (last : Word) : Chip :=
  if e = 0 then c
  else
    let lw : Word := putFld (putFld (putFld (putFld 0 31 16 c.tickN) 15 12 blk) 10 8 e) 4 0 cls.num
    let c2 := (c.setReg Reg.FLT_LAST lw).markRaised cls.num (blk = blkDDR ∨ blk = blkBMX ∨ blk = blkFLT ∨ blk = blkWARDEN)
    if e = 1 then c2
    else
      let c3 := c2.trap { cls := cls.num, level := e, block := blk, tick := c.eng.tick, last := last }
      if e = 2 then c3
      else
        let c4 := match resetUnit cls blk with
          | some u => c3.askReset u
          | none => c3
        if e = 3 then c4 else c4.level4 cls.num

/-- An event of a fault class, as its block reports it (R503, R504): the first event of the tick while the
class is unacknowledged raises E by one; later events of the tick are counted by their blocks only. -/
def Chip.raise (c : Chip) (cls : FaultClass) (blk : Nat) (last : Word) : Chip :=
  let k := cls.num
  let lvl := c.level k
  if lvl = 0 then c
  else if !c.regBit Reg.FLT_UNACK k then
    let c1 := (c.setBit Reg.FLT_UNACK k true).setEff k lvl
    let c2 := { c1 with flt := { c1.flt with step := c1.flt.step ||| 2 ^ k } }
    (c2.react cls lvl blk last).faultN
  else if c.flt.step.testBit k then c
  else
    let e := if c.eff k < 4 then c.eff k + 1 else 4
    let c1 := (c.setEff k e).event Reg.FLT_EVENT 1 8 true
    let c2 := { c1 with flt := { c1.flt with step := c1.flt.step ||| 2 ^ k } }
    (c2.react cls e blk last).faultN

/-- Acknowledges the classes of a mask (R504): the bit falls, E returns to LEVEL and the step ends. -/
def Chip.ackFaults (c : Chip) (mask : Nat) : Chip :=
  let c1 := (List.range 28).foldl (fun c k =>
    if mask.testBit k && c.regBit Reg.FLT_UNACK k then
      let c1 := (c.setBit Reg.FLT_UNACK k false).setEff k (c.level k)
      { c1 with flt := { c1.flt with step := c1.flt.step &&& (2 ^ 28 - 1 - 2 ^ k) } }
    else c) c
  c1.faultN

end Sys2Proof.Machine
end

