-- ==== Sys2Proof/Machine/Ticks.lean ====
section
/-! DEFINITION. Rates and the layout of a tick (R2, R46 to R51). -/
namespace Sys2Proof.Machine
open Sys2Proof

/-- The rate code of GCTL_STATUS.RATE. -/
def Rate.code : Rate → Nat
  | .r44 => 1 | .r48 => 2 | .r88 => 3 | .r96 => 4 | .r176 => 5 | .r192 => 6

/-- The rate of a code, none for a reserved one. -/
def Rate.ofCode (n : Nat) : Option Rate :=
  match n with
  | 1 => some .r44 | 2 => some .r48 | 3 => some .r88 | 4 => some .r96 | 5 => some .r176 | 6 => some .r192
  | _ => none

/-- Samples per second. -/
def Rate.hz : Rate → Nat
  | .r44 => 44100 | .r48 => 48000 | .r88 => 88200 | .r96 => 96000 | .r176 => 176400 | .r192 => 192000

/-- The 48 kHz family. -/
def Rate.fam48 : Rate → Bool
  | .r48 | .r96 | .r192 => true
  | _ => false

/-- 1, 2 or 4: the multiple of the family's lowest rate. -/
def Rate.mult : Rate → Nat
  | .r44 | .r48 => 1
  | .r88 | .r96 => 2
  | .r176 | .r192 => 4

/-- The CELL frequency in force: 1,200 MHz, or 1,000 MHz (R48). -/
def cellHz (slow : Bool) : Nat := if slow then 1000000000 else 1200000000

/-- Cycles per tick (R46). -/
def cyclesPerTick (r : Rate) (slow : Bool) : Nat := cellHz slow / r.hz

/-- The step margin (R46): 2 % of the cycles per tick, rounded up. -/
def stepMargin (r : Rate) (slow : Bool) : Nat := (2 * cyclesPerTick r slow + 99) / 100

/-- The traverse budget (R46). -/
def budget (r : Rate) (slow : Bool) : Nat := cyclesPerTick r slow - 256 - stepMargin r slow

/-- The length of leg k (R47). -/
def legLen (r : Rate) (slow : Bool) (k : Nat) : Nat :=
  budget r slow / 4 + (if k < budget r slow % 4 then 1 else 0)

/-- The channel limit of a rate each way (R34, Capacity per rate). -/
def channelLimit (r : Rate) : Nat := 4096 / r.mult

/-- The code of an engine state in GCTL_STATUS.ENGINE. -/
def EngineState.code : EngineState → Nat
  | .boot => 0 | .staked => 1 | .running => 2 | .suspended => 3 | .held => 4

/-- The DATUM frequency of a rate family in Hz. -/
def datumHz (fam48 : Bool) : Nat := if fam48 then 98304000 else 90316800

end Sys2Proof.Machine
end

