-- ==== Sys2Proof/Machine/CellOps.lean ====
section
/-! DEFINITION. The operations of a cell that its instructions share: registers and slots, the pipeline
(R109 to R116), the ports (R104 to R107), operand addressing (R117 to R120), the fetch buffer (R131 to
R134), contexts (R135 to R140, R571) and failures (R70, R71, R103). -/
namespace Sys2Proof.Machine
open Sys2Proof

/-! ## Registers -/

def smp0 : Nat → Sample := fun _ => Sample.zero
def acc0 : Nat → AccReg := fun _ => AccReg.zero
def ptr0 : Nat → PtrReg := fun _ => PtrReg.zero
def len0 : Nat → LenReg := fun _ => LenReg.zero
def step0 : Nat → StepReg := fun _ => StepReg.zero
def cell0 : Nat → Cell := fun _ => Cell.reset
def pub0 : Nat → PubSlot := fun _ => PubSlot.zero
def sub0 : Nat → SubSlot := fun _ => SubSlot.zero
def gain0 : Nat → GainSlot := fun _ => GainSlot.init
def wrote0 : Nat → Option Word := fun _ => none

/-- D[i] as visible at issue. -/
def Cell.rd (x : Cell) (i : Nat) : Sample := Map.get smp0 x.d i
def Cell.setD (x : Cell) (i : Nat) (v : Sample) : Cell := { x with d := Map.put smp0 x.d i v }

/-- A[i] as visible at issue. -/
def Cell.ra (x : Cell) (i : Nat) : AccReg := Map.get acc0 x.acc i
def Cell.setA (x : Cell) (i : Nat) (v : AccReg) : Cell := { x with acc := Map.put acc0 x.acc i v }

def Cell.p (x : Cell) (i : Nat) : PtrReg := Map.get ptr0 x.ptr i
def Cell.setP (x : Cell) (i : Nat) (v : PtrReg) : Cell := { x with ptr := Map.put ptr0 x.ptr i v }
def Cell.b (x : Cell) (i : Nat) : PtrReg := Map.get ptr0 x.base i
def Cell.setB (x : Cell) (i : Nat) (v : PtrReg) : Cell := { x with base := Map.put ptr0 x.base i v }
def Cell.l (x : Cell) (i : Nat) : LenReg := Map.get len0 x.len i
def Cell.setL (x : Cell) (i : Nat) (v : LenReg) : Cell := { x with len := Map.put len0 x.len i v }
def Cell.m (x : Cell) (i : Nat) : StepReg := Map.get step0 x.step i
def Cell.setM (x : Cell) (i : Nat) (v : StepReg) : Cell := { x with step := Map.put step0 x.step i v }

def Cell.lcN (x : Cell) (n : Nat) : BitVec 16 := Map.get (fun _ => 0) x.lc n
def Cell.setLc (x : Cell) (n : Nat) (v : BitVec 16) : Cell := { x with lc := Map.put (fun _ => 0) x.lc n v }
def Cell.lsN (x : Cell) (n : Nat) : BitVec 12 := Map.get (fun _ => 0) x.ls n
def Cell.setLs (x : Cell) (n : Nat) (v : BitVec 12) : Cell := { x with ls := Map.put (fun _ => 0) x.ls n v }
def Cell.leN (x : Cell) (n : Nat) : BitVec 12 := Map.get (fun _ => 0) x.le n
def Cell.setLe (x : Cell) (n : Nat) (v : BitVec 12) : Cell := { x with le := Map.put (fun _ => 0) x.le n v }

/-- A word of the slot space: slot × 64 + word. -/
def Cell.word (x : Cell) (w : Nat) : Sample := Map.get smp0 x.slots w
def Cell.setWord (x : Cell) (w : Nat) (v : Sample) : Cell := { x with slots := Map.put smp0 x.slots w v }

def Cell.pub (x : Cell) (i : Nat) : PubSlot := Map.get pub0 x.pubs i
def Cell.setPub (x : Cell) (i : Nat) (v : PubSlot) : Cell := { x with pubs := Map.put pub0 x.pubs i v }
def Cell.sub (x : Cell) (i : Nat) : SubSlot := Map.get sub0 x.subs i
def Cell.setSub (x : Cell) (i : Nat) (v : SubSlot) : Cell := { x with subs := Map.put sub0 x.subs i v }
def Cell.gain (x : Cell) (i : Nat) : GainSlot := Map.get gain0 x.gains i
def Cell.setGain (x : Cell) (i : Nat) (v : GainSlot) : Cell := { x with gains := Map.put gain0 x.gains i v }

/-- A physical cell of the chip. -/
def Chip.cell (c : Chip) (i : Nat) : Cell := Map.get cell0 c.cells i
def Chip.setCell (c : Chip) (i : Nat) (x : Cell) : Chip := { c with cells := Map.put cell0 c.cells i x }
def Chip.modCell (c : Chip) (i : Nat) (f : Cell → Cell) : Chip := c.setCell i (f (c.cell i))

/-- SR as MFS reads it: LEG, CTX, LA1 and LA0 from where they live, CP, TB, SV and AV as stored (R89). -/
def Cell.srRead (x : Cell) : Word :=
  BitVec.ofNat 32 (fld x.sr 3 0 + 16 * ofFlag (x.lcN 0 != 0) + 32 * ofFlag (x.lcN 1 != 0)
    + 64 * ofFlag (x.ctx == .background) + 128 * (x.leg % 4))

/-- SR.CP, SR.SV, SR.AV, SR.TB by bit number. -/
def srAV : Nat := 0
def srSV : Nat := 1
def srTB : Nat := 2
def srCP : Nat := 3

/-- MR.SAT and MR.DSAT. -/
def Cell.sat (x : Cell) : Bool := x.mr.getLsbD 0
def Cell.dsat (x : Cell) : Bool := x.mr.getLsbD 1

/-- An L value is legal (R91, R119): at most 2,048, and a power of two from 2 with BREV. -/
def lenLegal (len : Nat) (brev : Bool) : Bool :=
  decide (len ≤ 2048) &&
    (!brev || (List.range 12).any (fun k => decide (1 ≤ k) && decide (len = 2 ^ k)))

/-- Writes special register `n` (numbers of the SYS table, 0 to 39) with the value and poison of an MTS
or SET (R91, R141). -/
def Cell.writeSpec (x : Cell) (n : Nat) (v : Word) (p : Bool) : Cell :=
  if n = 0 then { x with sr := putFld x.sr 2 0 (fld v 2 0) }
  else if n = 1 then { x with mr := BitVec.ofNat 32 (fld v 1 0) }
  else if n = 2 then x.setLc 0 (v.setWidth 16)
  else if n = 3 then x.setLs 0 (v.setWidth 12)
  else if n = 4 then x.setLe 0 (v.setWidth 12)
  else if n = 5 then x.setLc 1 (v.setWidth 16)
  else if n = 6 then x.setLs 1 (v.setWidth 12)
  else if n = 7 then x.setLe 1 (v.setWidth 12)
  else if n < 16 then x.setP (n - 8) { v := v.setWidth 11, p := p }
  else if n < 24 then x.setB (n - 16) { v := v.setWidth 11, p := p }
  else if n < 32 then x.setL (n - 24) { len := v.setWidth 12, brev := v.getLsbD 15, p := p }
  else if n < 40 then x.setM (n - 32) { v := v.setWidth 12, p := p }
  else x

/-- Reads special register `n` (0 to 41) for MFS, with its poison (R91, R141). DESIGN CHOICE (log entry 46): BPC and BSR,
which the table of R141 does not list, read without poison. -/
def Cell.readSpec (x : Cell) (n : Nat) : Sample :=
  if n = 0 then { v := x.srRead, p := false }
  else if n = 1 then { v := x.mr, p := false }
  else if n = 2 then { v := (x.lcN 0).setWidth 32, p := false }
  else if n = 3 then { v := (x.lsN 0).setWidth 32, p := false }
  else if n = 4 then { v := (x.leN 0).setWidth 32, p := false }
  else if n = 5 then { v := (x.lcN 1).setWidth 32, p := false }
  else if n = 6 then { v := (x.lsN 1).setWidth 32, p := false }
  else if n = 7 then { v := (x.leN 1).setWidth 32, p := false }
  else if n < 16 then { v := (x.p (n - 8)).v.setWidth 32, p := (x.p (n - 8)).p }
  else if n < 24 then { v := (x.b (n - 16)).v.setWidth 32, p := (x.b (n - 16)).p }
  else if n < 32 then
    let l := x.l (n - 24)
    { v := putBit (l.len.setWidth 32) 15 l.brev, p := l.p }
  else if n < 40 then { v := (x.m (n - 32)).v.signExtend 32, p := (x.m (n - 32)).p }
  else if n = 40 then { v := x.bpc.setWidth 32, p := false }
  else { v := x.bsr, p := false }

/-! ## The pipeline -/

/-- Writes one result (R110). -/
def Cell.land (x : Cell) (r : Pend) : Cell :=
  match r.dst with
  | .d i => x.setD i { v := r.val.setWidth 32, p := r.p }
  | .acc i => x.setA i { v := r.val, p := r.p }
  | .spec n => x.writeSpec n (r.val.setWidth 32) r.p

/-- Writes the results of a list in issue order. -/
def Cell.landAll (x : Cell) : List Pend → Cell
  | [] => x
  | r :: rs => (x.land r).landAll rs

/-- One instruction has issued: every pending result comes one nearer, and those that are due are
written in issue order (R110, R113). -/
def Cell.age (x : Cell) : Cell :=
  let due := x.pend.filter (fun r => decide (r.left ≤ 1))
  let rest := (x.pend.filter (fun r => decide (1 < r.left))).map (fun r => { r with left := r.left - 1 })
  { x with pend := rest }.landAll due

/-- A change of context writes every result still within its delay slots (R571). -/
def Cell.flush (x : Cell) : Cell := ({ x with pend := [] }).landAll x.pend

/-- An accumulator as a MAC accumulates into it: the result of the immediately preceding MAC or ACC
instruction without delay (R112), and 0 with CLR (R99). -/
def Cell.macIn (x : Cell) (clr : Bool) (i : Nat) : AccReg :=
  if clr then AccReg.zero
  else
    match (x.pend.filter (fun r => decide (r.dst = .acc i) && decide (r.left = 1))).getLast? with
    | some r => { v := r.val, p := r.p }
    | none => x.ra i

/-! ## What an instruction does -/

/-- The effect of one issued instruction, computed from the values visible at issue: results with their
delay slots (0 for a result the next instruction sees), SR bits set, slot words written, pointers
post-modified, a branch, a loop level started, and the index a LOOP of count 0 continues at. -/
structure Eff where
  res : List Pend
  flags : Nat
  words : List (Nat × Sample)
  ptrs : List (Nat × PtrReg)
  turn : Option Turn
  loop : Option (Nat × BitVec 12 × BitVec 12 × BitVec 16)
  skip : Option (BitVec 12)
deriving DecidableEq, Repr

def Eff.none : Eff :=
  { res := [], flags := 0, words := [], ptrs := [], turn := .none, loop := .none, skip := .none }

/-- A result for a D register after `n` delay slots. -/
def toD (n i : Nat) (s : Sample) : Pend := { left := n, dst := .d i, val := s.v.setWidth 80, p := s.p }

/-- A result for an accumulator: one delay slot. -/
def toA (i : Nat) (a : AccReg) : Pend := { left := 1, dst := .acc i, val := a.v, p := a.p }

/-- A result for a special register: one delay slot. -/
def toSpec (n : Nat) (v : Word) (p : Bool) : Pend := { left := 1, dst := .spec n, val := v.setWidth 80, p := p }

/-- Two effects of one instruction together. -/
def Eff.and (a b : Eff) : Eff :=
  { res := a.res ++ b.res, flags := a.flags ||| b.flags, words := a.words ++ b.words,
    ptrs := a.ptrs ++ b.ptrs, turn := a.turn.or b.turn, loop := a.loop.or b.loop,
    skip := a.skip.or b.skip }

/-! ## Operand addressing -/

/-- The signed step of M[n]. -/
def Cell.stepInt (x : Cell) (n : Nat) : Int := (x.m n).v.toInt

/-- ⌊log₂⌋ of an L that is a power of two up to 2,048. -/
def log2Len (l : Nat) : Nat := ((List.range 12).filter (fun k => decide (2 ^ k ≤ l))).length - 1

/-- The post-modified value of pointer n from value `p` (R117 to R119). -/
def Cell.postMod (x : Cell) (n : Nat) (p : BitVec 11) : BitVec 11 :=
  let l := (x.l n).len.toNat
  let b : Int := (x.b n).v.toNat
  let m := x.stepInt n
  let q : Int := p.toNat
  if l = 0 then BitVec.ofInt 11 (q + m)
  else if (x.l n).brev then
    let k := log2Len l
    let o := (q - b).emod (2 ^ k)
    let s := m.emod (2 ^ k)
    BitVec.ofInt 11 (b + revBits k ((revBits k o.toNat + revBits k s.toNat) % 2 ^ k))
  else BitVec.ofInt 11 (b + (q - b + m).emod l)

/-- An access or post-modify through pointer n is poisoned (R120). -/
def Cell.ptrPoison (x : Cell) (n : Nat) : Bool := (x.p n).p || (x.b n).p || (x.l n).p || (x.m n).p

/-! ## Slots -/

/-- A slot is busy: a move or a streamer refill that names it has not completed (R124, R128). -/
def Cell.busy (x : Cell) (s : Nat) : Bool :=
  x.moves.any (fun m => m.slot == s) ||
    match x.streamer with
    | some t => t.refills.any (fun r => r.1 == s)
    | none => false

/-- A slot is owned by the streamer (R128, R129). -/
def Cell.owned (x : Cell) (s : Nat) : Bool :=
  match x.streamer with
  | some t => s == t.cfg.slot || s == t.cfg.slot + 1
  | none => false

/-! ## Memory ports -/

/-- The word index of a port access: address bits 1:0 ignored, or 2:0 for 64 bits (R105). -/
def portWord (a : BitVec 11) (wide : Bool) : Nat :=
  if wide then a.toNat / 8 * 2 else a.toNat / 4

/-- The effect of a read port (R104, R105, R110, R120, R124, R141): 0 with poison and SR.TB from a busy slot. -/
def Cell.readPort (x : Cell) (q : MemPort) : Eff :=
  let a := (x.p q.ptr.toNat).v
  let w := portWord a q.wide
  let bz := x.busy (w / 64)
  let pp := x.ptrPoison q.ptr.toNat
  let get (k : Nat) : Sample :=
    if bz then { v := 0, p := true } else { v := (x.word (w + k)).v, p := (x.word (w + k)).p || pp }
  let r := q.reg.toNat
  { Eff.none with
    res := if q.wide then [toD 2 r (get 0), toD 2 (r + 1) (get 1)] else [toD 2 r (get 0)],
    flags := if bz then 2 ^ srTB else 0 }

/-- The effect of the write port (R106, R124, R129, R141, R142): nothing is written to a busy or
streamer-owned slot, and SR.TB is set. -/
def Cell.writePort (x : Cell) (q : MemPort) : Eff :=
  let a := (x.p q.ptr.toNat).v
  let w := portWord a q.wide
  if x.busy (w / 64) || x.owned (w / 64) then { Eff.none with flags := 2 ^ srTB }
  else
    let pp := x.ptrPoison q.ptr.toNat || (x.ctx == .background && x.sr.getLsbD srCP)
    let put (k : Nat) : Nat × Sample :=
      let s := x.rd (q.reg.toNat + k)
      (w + k, { v := s.v, p := s.p || pp })
    { Eff.none with words := if q.wide then [put 0, put 1] else [put 0] }

/-- The pointer after the updates of the ports that name it, one for each, in the order X, Y, W (R107). -/
def Cell.updPtrs (x : Cell) : List MemPort → List (Nat × PtrReg)
  | [] => []
  | q :: qs =>
    if q.upd then
      let n := q.ptr.toNat
      let v : PtrReg := { v := x.postMod n (x.p n).v, p := x.ptrPoison n }
      (n, v) :: (x.setP n v).updPtrs qs
    else x.updPtrs qs

/-- The effect of the three ports (R104 to R107); of two reads to one register, port Y prevails (R113). -/
def Cell.ports (x : Cell) (m : MemPorts) : Eff :=
  let o (f : MemPort → Eff) (q : Option MemPort) : Eff := match q with
    | some q => f q
    | none => Eff.none
  let e := ((o x.readPort m.x).and (o x.readPort m.y)).and (o x.writePort m.w)
  { e with ptrs := x.updPtrs (m.x.toList ++ m.y.toList ++ m.w.toList) }

/-- The ports are legal: a 64-bit port names an even register (R104). -/
def portsLegal (m : MemPorts) : Bool :=
  (m.x.toList ++ m.y.toList ++ m.w.toList).all (fun q => !q.wide || q.reg.toNat % 2 == 0)

/-! ## Fetch -/

/-- Program indices of a tile: 32 instructions (Instruction fetch). -/
def tileOf (pc : BitVec 12) : Nat := pc.toNat / 32

/-- Asks for a tile that is not held: its fetch starts, or the context asks for the one in progress too (R131, R134). -/
def Cell.want (x : Cell) (t : Nat) : Cell :=
  let tr := x.ctx == .traverse
  let bk := x.ctx == .background
  if x.fetched.contains t then x
  else if x.fetches.any (fun f => f.tile == t) then
    { x with fetches := x.fetches.map (fun f => if f.tile = t then { f with trav := f.trav || tr, back := f.back || bk } else f) }
  else { x with fetches := x.fetches ++ [{ tile := t, second := false, trav := tr, back := bk, lead := false }] }

/-- Execution enters the tile of its index: a held entry counts as entered, an absent tile is fetched on demand, and the next
tile is fetched if it is absent (R131, R132). -/
def Cell.enter (x : Cell) : Cell :=
  let t := tileOf x.pc
  let y := if x.fetched.contains t then { x with fetched := t :: x.fetched.filter (fun u => u != t) } else x.want t
  y.want ((t + 1) % 128)

/-- The traverse no longer asks for what is being fetched: its share of the leg is over (R134). -/
def Cell.unask (x : Cell) : Cell := { x with fetches := x.fetches.map (fun f => { f with trav := false }) }

/-- Execution goes on at its index from index `p`: it enters a tile only where it leaves another (R131). -/
def Cell.move (x : Cell) (p : BitVec 12) : Cell := if tileOf x.pc = tileOf p then x else x.enter

/-- Puts a fetched tile into the buffer: it replaces the entry least recently entered, other than the
one holding the current tile, when four are held (R131). -/
def Cell.hold (x : Cell) (t : Nat) : Cell :=
  let cur := tileOf x.pc
  let old := x.fetched.filter (fun u => u != t)
  let keep :=
    if old.length < 4 then old
    else
      match (old.reverse.filter (fun u => u != cur)).head? with
      | some v => old.filter (fun u => u != v)
      | none => old
  { x with fetched := t :: keep }

/-! ## Contexts -/

/-- ENG_CELL_STAT bits 5:2 take the CP, TB, SV and AV of an SR (R150). -/
def Cell.stick (x : Cell) (sr : Word) : Cell :=
  { x with sticky := x.sticky ||| BitVec.ofNat 32 (fld sr 3 0 * 4) }

/-- The background work in progress is abandoned (R71, R571): its words that still hold what it wrote are
poisoned. A background that waits has no work in progress. -/
def Cell.abandon (x : Cell) : Cell :=
  let running := x.ctx == .background
  if running || x.bg == .ready then
    let x1 := if running then (x.flush).stick x.sr else x.stick x.bsr
    let x2 := x1.bgWrote.foldl (fun y e =>
      match e.2 with
      | some v => if (y.word e.1).v = v then y.setWord e.1 { v := v, p := true } else y
      | none => y) x1
    { x2 with bg := .abandoned, bgWrote := [], bgSaved := false, bbranch := none,
              ctx := if running then .idle else x2.ctx, branch := if running then none else x2.branch }
  else x

/-- A forced leg entry (R52, R55, R56, R137, R571): a running background is saved, a traverse still
running loses its branch, SR is set to 0 but LEG, LA0 and LA1. An MTS to SR within its delay slot counts in the SR that is
saved and accumulated (log entry 46). -/
def Cell.force (x : Cell) (k entry : Nat) : Cell :=
  let x1 := x.flush.unask
  let x2 :=
    match x1.ctx with
    | .background =>
      { (x1.stick x1.sr) with bpc := x1.pc, bsr := x1.srRead, bbranch := x1.branch, bgSaved := true, bg := .ready }
    | .traverse => x1.stick x1.sr
    | .idle => x1
  let y : Cell := { x2 with
    ctx := .traverse, second := false, legDone := false, leg := k, sr := 0, branch := none, pc := BitVec.ofNat 12 entry }
  if x.fetchFailed then y else y.enter

/-- The traverse has finished its share of the leg (R54, R138, R150): the background resumes if it is
saved and runnable, else the cell idles. DESIGN CHOICE (log entry 46): SR shows the current leg from then on, whatever leg
BSR holds, and an MTS to SR still within its delay slot is written but not accumulated. -/
def Cell.share (x : Cell) : Cell :=
  let x1 := (x.flush.unask).stick x.sr
  if x1.bgSaved && x1.bg == .ready then
    ({ x1 with ctx := .background, legDone := true, pc := x1.bpc, sr := x1.bsr &&& 15, branch := x1.bbranch,
               bbranch := none }).enter
  else { x1 with ctx := .idle, legDone := true, branch := none }

/-- Within a fade, the RETB of the old program enters the new program of an affected cell (R215). -/
def Cell.toSecond (x : Cell) (entry : Nat) : Cell :=
  let x1 := (x.flush.unask).stick x.sr
  ({ x1 with second := true, sr := 0, branch := none, pc := BitVec.ofNat 12 entry }).enter

/-- The tick entry ends a wait under BWAIT; an abandoned background restarts at its restart entry (R139,
R140). -/
def Cell.tickEntry (x : Cell) (restart : Nat) : Cell :=
  match x.bg with
  | .waiting => { x with bg := .ready, bgSaved := true, bgWrote := [] }
  | .abandoned =>
    { x with bg := .ready, bgSaved := true, bpc := BitVec.ofNat 12 restart, bsr := 64, bbranch := none,
             bgWrote := [] }
  | _ => x

/-- A cell as it first runs a newly committed or patched program, or after becoming ON (R92, R134, R140):
registers and slots 0, the fetch buffer empty, the background waiting at the restart entry. DESIGN CHOICE (log entry 46): a
tile move in flight stays in flight and completes later. -/
def Cell.freshRun (x : Cell) (restart : Nat) : Cell :=
  { Cell.reset with
    power := x.power, fresh := x.fresh, dead := x.dead, writes := x.writes, pubs := x.pubs, subs := x.subs, gains := x.gains,
    sticky := x.sticky, moves := x.moves, bg := .waiting, bpc := BitVec.ofNat 12 restart, bsr := 64,
    bgSaved := false }

/-! ## Issue -/

/-- Loop levels at the issue of index `x.pc` (R116): level 1 first; level 0 only if level 1 did not loop
back. -/
def Cell.loopBack (x : Cell) : Cell × Option (BitVec 12) :=
  let lvl (x : Cell) (n : Nat) : Cell × Option (BitVec 12) :=
    if x.leN n = x.pc ∧ x.lcN n ≠ 0 then
      let c := x.lcN n - 1
      (x.setLc n c, if c ≠ 0 then some (x.lsN n) else none)
    else (x, none)
  match lvl x 1 with
  | (x1, some t) => (x1, some t)
  | (x1, none) => lvl x1 0

/-- Slot words written through port W by the background are recorded for R71. -/
def Cell.writeWords (x : Cell) : List (Nat × Sample) → Cell
  | [] => x
  | (w, s) :: r =>
    let x1 := x.setWord w s
    let x2 := if x.ctx == .background then { x1 with bgWrote := Map.put wrote0 x1.bgWrote w (some s.v) } else x1
    x2.writeWords r

/-- Writes post-modified pointers in order. -/
def Cell.writePtrs (x : Cell) : List (Nat × PtrReg) → Cell
  | [] => x
  | (n, v) :: r => (x.setP n v).writePtrs r

/-- Starts a loop level (R115). -/
def Cell.startLoop (x : Cell) : Option (Nat × BitVec 12 × BitVec 12 × BitVec 16) → Cell
  | none => x
  | some (n, s, e, k) => ((x.setLs n s).setLe n e).setLc n k

/-- The end of an issued instruction: due results of earlier instructions, then its own, then loops and
the program counter (R109 to R116). The flag says that a RETB falls due. DESIGN CHOICE (log entry 46): where a result of an
earlier SET or MTS falls due on a pointer or loop count that this instruction post-modifies or decrements, this
instruction's write prevails; and where a LOOP stands at the end index of an active loop, the loop-back prevails over the
LOOP's own continuation. -/
def Cell.retire (x : Cell) (e : Eff) : Cell × Bool :=
  let lb := x.loopBack
  let now := e.res.filter (fun r => decide (r.left = 0))
  let later := e.res.filter (fun r => decide (0 < r.left))
  let x1 := (x.age).landAll now
  let x2 := (if lb.1.lcN 1 = x.lcN 1 then x1 else x1.setLc 1 (lb.1.lcN 1))
  let x3 := (if lb.1.lcN 0 = x.lcN 0 then x2 else x2.setLc 0 (lb.1.lcN 0))
  let x4 := ((x3.startLoop e.loop).writePtrs e.ptrs).writeWords e.words
  let x5 := { x4 with sr := x4.sr ||| BitVec.ofNat 32 e.flags, pend := x4.pend ++ later }
  let seq := match lb.2, e.skip with
    | some t, _ => t
    | none, some t => t
    | none, none => x.pc + 1
  match e.turn with
  | some t => (({ x5 with pc := seq, branch := some { left := 2, turn := t } }).move x.pc, false)
  | none =>
    match x.branch with
    | some { left := n, turn := t } =>
      if 1 < n then (({ x5 with pc := seq, branch := some { left := n - 1, turn := t } }).move x.pc, false)
      else
        match t with
        | .target p => (({ x5 with pc := p, branch := none }).move x.pc, false)
        | .fall => (({ x5 with pc := seq, branch := none }).move x.pc, false)
        | .retb => ({ x5 with pc := seq, branch := none }, true)
    | none => (({ x5 with pc := seq }).move x.pc, false)

/-- The instruction word at index `pc` of a cell's program memory (R101). -/
def Chip.fetchWord (c : Chip) (i : Nat) (pc : BitVec 12) : DWord :=
  BitVec.ofNat 64 (leNat (memRead c.mem.prog (32768 * i + 8 * pc.toNat) 8))

/-- The traverse runs in this tick (R74, R76). -/
def Chip.traversed (c : Chip) : Bool := c.eng.engine == .running && !c.eng.suspended

/-- The phase lets the context execute (R52, R70, R136): a traverse in its leg, or overrunning leg 3 in the
margin; a background in a leg or the margin. -/
def Chip.phaseRuns (c : Chip) (x : Cell) : Bool :=
  match c.eng.phase with
  | .leg _ => x.ctx != .idle
  | .margin => x.ctx != .idle
  | _ => false

/-- Shed stage 1 suspends the background contexts (R514). -/
def Chip.ctxAllowed (c : Chip) (x : Cell) : Bool := x.ctx != .background || c.pwr.stage == 0

/-- Cell `i` issues word `w` now: the cell is ON and runs, the phase and the shed stage let its context
execute, and the fetch buffer holds the tile of its index with that word (R131). -/
def Chip.issues (c : Chip) (i : Nat) (w : DWord) : Bool :=
  let x := c.cell i
  decide (i < 512) && x.power == .on && !x.fresh && c.traversed && c.phaseRuns x && c.ctxAllowed x
    && !x.dead && x.fetched.contains (tileOf x.pc) && decide (c.fetchWord i x.pc = w)

end Sys2Proof.Machine
end

