-- ==== Sys2Proof/Machine/GraphOps.lean ====
section
/-! DEFINITION. Reading the graph banks and the cluster translation table: which program a physical cell
runs (R52, R195, R215, R222, R224), which leg a publish slot belongs to (R163, R207), and what a closure
failure, a late publish and a tile failure do (R70, R121, R164, R177). -/
namespace Sys2Proof.Machine
open Sys2Proof

/-- The identity mapping of R20. -/
def ctt0 : Nat → Nat := fun k => k % 16

/-- Physical position of logical cell n of a cluster (R195). -/
def Chip.ctt (c : Chip) (cluster n : Nat) : Nat := Map.get ctt0 c.chain.ctt (16 * cluster + n)

/-- The physical cell of a logical one; a logical cell is region × 128 + cluster × 16 + cell (R18, R195). -/
def Chip.physOf (c : Chip) (laddr : Nat) : Nat := 16 * (laddr / 16) + c.ctt (laddr / 16) (laddr % 16)

/-- The logical position of a physical cell (R195). -/
def Chip.logOf (c : Chip) (pcell : Nat) : Nat :=
  let cl := pcell / 16
  match (List.range 16).find? (fun n => c.ctt cl n == pcell % 16) with
  | some n => 16 * cl + n
  | none => pcell

/-- The directory entry of a logical cell in a graph. -/
def Graph.entry (g : Graph) (laddr : Nat) : Option CellEntry := g.cells.find? (fun e => e.laddr == laddr)

/-- The entry under which a logical cell runs a graph: the spare shadows a retiring cell (R196, R224). -/
def Chip.entryIn (c : Chip) (g : Graph) (laddr : Nat) : Option CellEntry :=
  match c.graph.retire with
  | some r =>
    if r.shadow && laddr == 16 * (r.laddr / 16) + 15 then g.entry r.laddr else g.entry laddr
  | none => g.entry laddr

/-- The class of the entry runs at the stage in force (R222, R514). -/
def Chip.classRuns (c : Chip) (e : CellEntry) : Bool := decide (e.cls < c.graph.dropFrom) && decide (c.pwr.stage < 4)

/-- The programs a physical cell runs, the old graph's of a fade first (R215). -/
def Chip.progs (c : Chip) (pcell : Nat) : List CellEntry :=
  let l := c.logOf pcell
  let get (g : Option Graph) : List CellEntry :=
    match g with
    | some g => ((c.entryIn g l).toList).filter c.classRuns
    | none => []
  (match c.graph.fade with
    | some f => get f.old
    | none => []) ++ get c.graph.live

/-- The restart entry of a cell's background: that of the newest program (R140, R216). -/
def Chip.restartOf (c : Chip) (pcell : Nat) : Nat :=
  match (c.progs pcell).getLast? with
  | some e => e.restart
  | none => 0

/-- The leg entry address of an entry (R207). -/
def CellEntry.leg (e : CellEntry) (k : Nat) : Nat := e.legEntry.getD k 0

/-- The leg a budget entry assigns a publish slot to (R207). -/
def CellEntry.pubLegOf (e : CellEntry) (s : Nat) : Option Nat :=
  if e.pubUsed.getLsbD s then some (bits e.pubLeg.toNat (2 * s + 1) (2 * s)) else none

/-- The leg the programs of a cell assign a publish slot to. -/
def Chip.slotLeg (c : Chip) (pcell s : Nat) : Option Nat :=
  ((c.progs pcell).findSome? (fun e => e.pubLegOf s))

/-- The chain address of a publish or subscription slot of a physical cell (Chain addresses). -/
def Chip.slotAddr (c : Chip) (pcell s : Nat) : Nat := 64 * c.logOf pcell + s

/-- A CHAIN_LATE event (R164, R167, R169, R170, R194, R252): level 1 cluster, 2 region, 3 chip. -/
def Chip.late (c : Chip) (lvl kind addr : Nat) : Chip :=
  let w : Word := putFld (putFld (putFld (putFld 0 31 30 lvl) 29 28 kind) 27 16 c.tickN) 15 0 addr
  let c1 := ((c.bump Reg.ENG_LATE_CNT).setReg Reg.ENG_LATE_LAST w).event Reg.ENG_CHAIN_EVENT 0 17
    (decide (1 ≤ c.level 2))
  c1.raise .chainLate blkENG w

/-- A TILE_CHECK failure at cell or region level (R22, R177). `mover` is the code of ENG_TCHK_LAST. -/
def Chip.tileCheck (c : Chip) (mover pcell region tile : Nat) : Chip :=
  let w : Word := putFld (putFld (putFld (putFld 0 31 28 mover) 24 16 pcell) 15 14 region) 13 0 tile
  let c1 := ((c.bump Reg.ENG_TCHK_CNT).setReg Reg.ENG_TCHK_LAST w).event Reg.ENG_CHAIN_EVENT 2 17
    (decide (1 ≤ c.level 0))
  c1.raise .tileCheck blkENG w

/-- Poisons every publish slot that the budget table assigns to leg k (R70). -/
def Cell.poisonLeg (x : Cell) (es : List CellEntry) (k : Nat) : Cell :=
  (List.range 64).foldl (fun y s =>
    if es.any (fun e => e.pubLegOf s == some k) then
      let q := y.pub s
      y.setPub s { q with s := { q.s with p := true }, failed := true }
    else y) x

/-- A closure failure of leg k in a cell (R70, R71): the leg's publish slots are poisoned, the failure is
counted and recorded, the background is abandoned, and CLOSURE is raised. Of several cells that fail in one
leg of one tick the lowest index is recorded. -/
def Chip.closureFail (c : Chip) (i k : Nat) : Chip :=
  let es := c.progs i
  let c0 := c.modCell i (fun x => (x.poisonLeg es k).abandon)
  let old := c0.reg Reg.ENG_CLOSURE_LAST
  let same := decide (c0.regFld Reg.ENG_CLOSURE_OVR 15 0 ≠ 0) && c0.eng.failed == some (c0.tickN, k)
  let idx := if same && decide (fld old 8 0 < i) then fld old 8 0 else i
  let w : Word := putFld (putFld (putFld 0 31 16 c0.tickN) 13 12 k) 8 0 idx
  let c1 := ((c0.bump Reg.ENG_CLOSURE_OVR).setReg Reg.ENG_CLOSURE_LAST w).event Reg.ENG_EVENT 4 17
    (decide (1 ≤ c0.level 1))
  ({ c1 with eng := { c1.eng with failed := some (c0.tickN, k) } }).raise .closure blkENG w

/-- The traverse of the leg is given up before its end (R103, R134). -/
def Chip.failTraverse (c : Chip) (i : Nat) : Chip :=
  let k := (c.cell i).leg
  (c.modCell i (fun x => { ((x.flush).stick x.sr) with ctx := .idle, legDone := true, branch := none })).closureFail i k

/-- An illegal instruction (R103): a closure failure of the leg in the traverse, an abandonment in the
background; counted in ENG_ILL_CNT. -/
def Chip.illegal (c : Chip) (i : Nat) : Chip :=
  let x := c.cell i
  let c1 := c.modCell i (fun x => { x with sticky := putBit x.sticky 6 true })
  let c2 := (c1.bump Reg.ENG_ILL_CNT).setFld Reg.ENG_ILL_CNT 31 23 i
  if x.ctx == .traverse then c2.failTraverse i
  else c2.modCell i Cell.abandon

/-- A tile could not be fetched (R134): the leg in progress fails if its traverse asked for it, the background is abandoned
if it did, and the coming leg is marked to fail at its start if the tile holds its entry (R133). DESIGN CHOICE (log entry 47):
a tile that only a traverse whose share is over asked for sets FETCH_FAIL and nothing else. -/
def Chip.fetchFail (c : Chip) (i : Nat) (f : Fetch) : Chip :=
  let c1 := c.modCell i (fun x => { x with sticky := putBit x.sticky 7 true, fetchFailed := x.fetchFailed || f.lead })
  let c2 := if f.back then c1.modCell i Cell.abandon else c1
  if f.trav && (c.cell i).ctx == .traverse then c2.failTraverse i else c2

/-! ## Instruction fetch (R131 to R134) -/

/-- The tile of the leg-k entry address of the program that a cell runs first. -/
def Chip.leadTile (c : Chip) (i k : Nat) : Option Nat := (c.progs i).head?.map (fun e => e.leg k % 4096 / 32)

/-- The tile of the entry address of the coming leg, which is fetched in tick entry and in the gaps (R133). -/
def Chip.comingTile (c : Chip) (i : Nat) : Option Nat :=
  if !c.traversed || (c.cell i).power != .on || (c.cell i).fetchFailed then none
  else
    match c.eng.phase with
    | .entry => c.leadTile i 0
    | .gap k => if k < 3 then c.leadTile i (k + 1) else none
    | _ => none

/-- The fetch of tile `t` of a cell for its coming leg: the one in progress, or a new one. -/
def Cell.leadFetch (x : Cell) (t : Nat) : Fetch :=
  match x.fetches.find? (fun f => f.tile == t) with
  | some f => { f with lead := true }
  | none => { tile := t, second := false, trav := false, back := false, lead := true }

/-- The fetch of tile `t` that is in progress in cell `i`. -/
def Chip.fetchOf (c : Chip) (i t : Nat) : Option Fetch :=
  let x := c.cell i
  if c.comingTile i == some t && !x.fetched.contains t then some (x.leadFetch t)
  else x.fetches.find? (fun f => f.tile == t)

/-- A fetch attempt ends: the tile is held, or fetched once more, or cannot be fetched. A marked tile is never delivered and
counts no TILE_CHECK (R134). -/
def Chip.fetchEnd (c : Chip) (i : Nat) (f : Fetch) (bad : Bool) : Chip :=
  let t := f.tile
  let mk := marked (c.mem.entry .prog (128 * i + t))
  let fails := !mk && (bad || c.mem.fails .prog (128 * i + t))
  let c1 := if fails then c.tileCheck 0 i (i / 128) t else c
  let drop (c : Chip) : Chip := c.modCell i (fun x => { x with fetches := x.fetches.filter (fun g => g.tile != t) })
  if !mk && !fails then (drop c1).modCell i (fun x => x.hold t)
  else if !f.second then (drop c1).modCell i (fun x => { x with fetches := x.fetches ++ [{ f with second := true }] })
  else (drop c1).fetchFail i f

/-- A fetch completes. -/
def Chip.fetchDone (c : Chip) (i t : Nat) (bad : Bool) : Chip :=
  match c.fetchOf i t with
  | none => c
  | some f => c.fetchEnd i f bad

/-- The entry tile of leg k is fetched before the leg starts, so that the forced entry never misses (R133): one attempt where
it is absent and has not failed. -/
def Chip.fetchLead (c : Chip) (i k : Nat) : Chip :=
  match c.leadTile i k with
  | some t =>
    if (c.cell i).fetched.contains t || (c.cell i).fetchFailed then c else c.fetchEnd i ((c.cell i).leadFetch t) false
  | none => c

/-! ## The end of an instruction -/

/-- The end of an issued instruction on the chip: a RETB that falls due ends the share of the leg, or, in a
fade, enters the new program of an affected cell (R54, R215). -/
def Chip.finish (c : Chip) (i : Nat) (e : Eff) : Chip :=
  let r := (c.cell i).retire e
  let c1 := c.setCell i r.1
  if r.2 then
    match c.progs i with
    | [_, new] =>
      if r.1.second then c1.modCell i Cell.share
      else c1.modCell i (fun x => x.toSecond (new.leg x.leg))
    | _ => c1.modCell i Cell.share
  else c1

/-- Cell `i` issues the instruction word `w` if it is the one it fetched and nothing stalls it: an illegal
instruction is handled under R103, any other first does `pre` to the chip and then has its effect `e`. The
answer is the chip unchanged when the cell does not issue `w` now. -/
def Chip.issueWith (c : Chip) (i : Nat) (w : DWord) (stall legal : Bool) (pre : Chip → Chip) (e : Eff) : Chip :=
  if c.issues i w then
    if legal then (if stall then c else (pre c).finish i e)
    else c.illegal i
  else c

/-- As `issueWith` for an instruction whose whole effect lies in the cell's registers and slots. -/
def Chip.issue (c : Chip) (i : Nat) (w : DWord) (legal : Bool) (e : Eff) : Chip :=
  c.issueWith i w false legal (fun c => c) e

end Sys2Proof.Machine
end

