-- ==== Sys2Proof/Machine/ChainOps.lean ====
section
/-! DEFINITION. The chain: schedules and windows (R157 to R168), input and output endpoint channels (R152 to
R156, R169, R170), the commit with hold, ramps, mute and dither (R57, R58, R183 to R187, R214, R223, R255 to
R257), and the lines, taps and tail streams that are live (R188, R216, R249). -/
namespace Sys2Proof.Machine
open Sys2Proof

def in0 : Nat → InCh := fun _ => InCh.reset
def out0 : Nat → OutCh := fun _ => OutCh.reset
def line0 : Nat → LineState := fun _ => LineState.reset
def tap0 : Nat → TapState := fun _ => TapState.reset
def tail0 : Nat → Option Tail := fun _ => none

def Chip.inCh (c : Chip) (ep : Nat) : InCh := Map.get in0 c.chain.ins ep
def Chip.setIn (c : Chip) (ep : Nat) (v : InCh) : Chip := { c with chain := { c.chain with ins := Map.put in0 c.chain.ins ep v } }
def Chip.outCh (c : Chip) (ep : Nat) : OutCh := Map.get out0 c.chain.outs ep
def Chip.setOut (c : Chip) (ep : Nat) (v : OutCh) : Chip := { c with chain := { c.chain with outs := Map.put out0 c.chain.outs ep v } }
def Chip.modOut (c : Chip) (ep : Nat) (f : OutCh → OutCh) : Chip := c.setOut ep (f (c.outCh ep))
def Chip.staging (c : Chip) (k : Nat) : Sample := Map.get smp0 c.chain.staging k
def Chip.setStaging (c : Chip) (k : Nat) (v : Sample) : Chip := { c with chain := { c.chain with staging := Map.put smp0 c.chain.staging k v } }
def Chip.inbound (c : Chip) (k : Nat) : Sample := Map.get smp0 c.chain.inbound k
def Chip.setInbound (c : Chip) (k : Nat) (v : Sample) : Chip := { c with chain := { c.chain with inbound := Map.put smp0 c.chain.inbound k v } }
def Chip.lineSt (c : Chip) (k : Nat) : LineState := Map.get line0 c.chain.lines k
def Chip.setLine (c : Chip) (k : Nat) (v : LineState) : Chip := { c with chain := { c.chain with lines := Map.put line0 c.chain.lines k v } }
def Chip.tapSt (c : Chip) (k : Nat) : TapState := Map.get tap0 c.chain.taps k
def Chip.setTap (c : Chip) (k : Nat) (v : TapState) : Chip := { c with chain := { c.chain with taps := Map.put tap0 c.chain.taps k v } }
def Chip.tail (c : Chip) (k : Nat) : Option Tail := Map.get tail0 c.chain.tails k
def Chip.setTail (c : Chip) (k : Nat) (v : Option Tail) : Chip := { c with chain := { c.chain with tails := Map.put tail0 c.chain.tails k v } }

/-! ## Endpoint numbers -/

/-- An assigned input endpoint (R153). -/
def inAssigned (ep : Nat) : Bool :=
  decide (ep < 0x200) || (decide (0x200 ≤ ep) && decide (ep < 0x210)) || (decide (0x300 ≤ ep) && decide (ep < 0x400))
    || (decide (0x1000 ≤ ep) && decide (ep < 0x3000)) || decide (ep = 0x3FFF)

/-- An assigned output endpoint (R153). -/
def outAssigned (ep : Nat) : Bool :=
  (decide (0x4000 ≤ ep) && decide (ep < 0x4200)) || (decide (0x4200 ≤ ep) && decide (ep < 0x4210))
    || (decide (0x4300 ≤ ep) && decide (ep < 0x4440)) || (decide (0x5000 ≤ ep) && decide (ep < 0x6000))
    || (decide (0x6000 ≤ ep) && decide (ep < 0x6800))

/-- The stake index of an output endpoint (R225); none for a delay-engine write port. -/
def stakeIdx (ep : Nat) : Option Nat :=
  if 0x4000 ≤ ep ∧ ep < 0x4200 then some (ep - 0x4000)
  else if 0x4200 ≤ ep ∧ ep < 0x4210 then some (512 + (ep - 0x4200))
  else if 0x4300 ≤ ep ∧ ep < 0x4400 then some (528 + (ep - 0x4300))
  else if 0x4400 ≤ ep ∧ ep < 0x4440 then some (784 + (ep - 0x4400))
  else if 0x5000 ≤ ep ∧ ep < 0x6000 then some (848 + (ep - 0x5000))
  else none

/-- The chain address of an endpoint (Chain addresses). -/
def epAddr (ep : Nat) : Nat := 0x8000 + ep

/-! ## Schedules -/

/-- The schedule of an exchange in a graph: 0 chip, 1 + region, 5 + cluster (R208). -/
def Graph.sched1 (g : Graph) (exch : Nat) : List SchedEntry :=
  match g.sched.find? (fun b => b.exch == exch) with
  | some b => b.entries
  | none => []

/-- The entries of an exchange with their indices: the live graph's, then, in a fade, the old graph's (R214). -/
def Chip.schedOf (c : Chip) (exch : Nat) : List (Nat × SchedEntry) :=
  let live := match c.graph.live with
    | some g => g.sched1 exch
    | none => []
  let old := match c.graph.fade with
    | some f => (match f.old with
      | some g => g.sched1 exch
      | none => [])
    | none => []
  (live ++ old).zipIdx.map (fun e => (e.2, e.1))

/-- Tile `t` of the schedule store of an exchange. -/
def schedTile (exch t : Nat) : Nat := 1048576 * exch + t

/-- The number of entries of the live graph's schedule of an exchange. -/
def Chip.schedLive (c : Chip) (exch : Nat) : Nat :=
  match c.graph.live with
  | some g => (g.sched1 exch).length
  | none => 0

/-- The entries of a window. -/
def Chip.windowOf (c : Chip) (exch win : Nat) : List (Nat × SchedEntry) :=
  (c.schedOf exch).filter (fun e => e.2.win == win)

/-- What keeps an entry from being issued in its window (R167, R168). -/
def Chip.skipOf (c : Chip) (exch win idx : Nat) : Option Skip :=
  c.chain.skips.find? (fun k => k.exch == exch && k.win == win && k.idx == idx)

/-- An entry that is not issued in its window (R167, R168). -/
def Chip.skipped (c : Chip) (exch win idx : Nat) : Bool := (c.skipOf exch win idx).isSome

/-- The value taken from a publish slot named by a chain address (R163). -/
def Chip.pubTaken (c : Chip) (addr : Nat) : Sample :=
  ((c.cell (c.physOf (addr / 64))).pub (addr % 64)).taken

/-- The set bits of a mask, lowest first. -/
def maskBits (m n : Nat) : List Nat := (List.range n).filter (fun i => m.testBit i)

/-- A sample with its poison set (R167). -/
def Sample.poison (s : Sample) : Sample := { s with p := true }

/-- A collision on a subscription slot (R166). -/
def Chip.collide (c : Chip) (addr : Nat) : Chip :=
  let w : Word := putFld (putFld 0 31 16 c.tickN) 15 0 addr
  let c1 := ((c.bump Reg.ENG_COLL_CNT).setReg Reg.ENG_COLL_LAST w).event Reg.ENG_CHAIN_EVENT 1 17
    (decide (1 ≤ c.level 3))
  c1.raise .chainCollide blkENG w

/-- One delivery to a subscription slot: the second of a tick takes poison (R165, R166). -/
def Chip.deliver (c : Chip) (pcell s : Nat) (v : Sample) : Chip :=
  let q := (c.cell pcell).sub s
  c.modCell pcell (fun x => x.setSub s { s := if q.got = 0 then v else v.poison, got := q.got + 1 })

/-- Events with the clock they fall in and their chain address, counted clock by clock; of those of one clock the lowest
address comes last, so that a LAST register records it (R199). -/
def Chip.inOrder (c : Chip) (l : List (Nat × Nat)) (f : Chip → Nat → Chip) : Chip :=
  (sortBy (fun e => 65536 * e.1 + (65535 - e.2 % 65536)) l).foldl (fun c e => f c e.2) c

/-- Sets the poison of a subscription slot that missed its delivery (R167). -/
def Chip.missSub (c : Chip) (pcell s : Nat) : Chip :=
  c.modCell pcell (fun x => let q := x.sub s; x.setSub s { q with s := q.s.poison })

/-- Where a cluster delivery goes: the cell of the slot, and its spare in the shadow period (R196). -/
def Chip.subTargets (c : Chip) (addr : Nat) : List Nat :=
  let l := addr / 64
  c.physOf l ::
    match c.graph.retire with
    | some r => if r.shadow && r.laddr == l then [c.physOf (16 * (l / 16) + 15)] else []
    | none => []

/-- The cluster exchange runs a window: WIN 0 from staging, WIN k + 1 from publish slots of leg k (R159, R162). The list
takes the collisions, of which up to 64 deliveries of a cycle may be (R158, R166). -/
def Chip.runCluster (c : Chip) (hits : List (Nat × Nat)) (cl win : Nat) : Chip × List (Nat × Nat) :=
  (c.windowOf (5 + cl) win).zipIdx.foldl (fun x e =>
    let en := e.1.2
    let v := if win = 0 then x.1.staging (1024 * cl + en.src % 1024) else x.1.pubTaken en.src
    (x.1.subTargets en.dst).foldl (fun x p =>
      if x.1.skipped (5 + cl) win e.1.1 then (x.1.missSub p (en.dst % 64), x.2)
      else
        (x.1.deliver p (en.dst % 64) v,
          if ((x.1.cell p).sub (en.dst % 64)).got = 0 then x.2 else x.2 ++ [(e.2 / 64, x.1.slotAddr p (en.dst % 64))])) x) (c, hits)

/-- The region exchange runs a window into cluster staging (R159, R162). -/
def Chip.runRegion (c : Chip) (r win : Nat) : Chip :=
  (c.windowOf (1 + r) win).foldl (fun c e =>
    let en := e.2
    let v := if en.fwd then c.inbound (4096 * r + en.src % 4096) else c.pubTaken en.src
    (maskBits en.mask 8).foldl (fun c b =>
      let k := 1024 * (8 * r + b) + en.dst % 1024
      if c.skipped (1 + r) win e.1 then c.setStaging k (c.staging k).poison else c.setStaging k v) c) c

/-- The transfers that an output endpoint channel has received in this tick from one of the graphs of a fade. -/
def OutCh.gotFrom (o : OutCh) (old : Bool) : Nat := if old then o.gotOld else o.got

/-- A transfer reaches an output endpoint channel: a second one from the same graph is discarded (R170, R214); a line or tap
number that both graphs name takes the new graph's transfer (R216). -/
def OutCh.transfer (o : OutCh) (v : Sample) (old : Bool) : OutCh :=
  if old then (if o.gotOld = 0 then { o with pendingOld := v, gotOld := 1 } else { o with gotOld := o.gotOld + 1 })
  else (if o.got = 0 then { o with pending := v, got := 1 } else { o with got := o.got + 1 })

/-- Marks an output channel whose transfer is missing for a reason already counted (R168, R170). -/
def Chip.missOut (c : Chip) (ep : Nat) (old : Bool) : Chip :=
  c.modOut ep (fun o =>
    if old then { o with pendingOld := o.pendingOld.poison, gotOld := 1 }
    else { o with pending := o.pending.poison, got := 1 })

/-- A graph names the delay line of a write port. -/
def Graph.writes (g : Graph) (ep : Nat) : Bool := g.lines.any (fun l => 0x6000 + 512 * l.region + l.line == ep)

/-- A line that both graphs of a fade name takes the new graph's transfer alone (R216). -/
def Chip.newLineOnly (c : Chip) (ep : Nat) : Bool :=
  decide (0x6000 ≤ ep) && c.graph.live.any (fun g => g.writes ep) &&
    c.graph.fade.any (fun f => f.old.any (fun g => g.writes ep))

/-- The chip exchange runs a window: inputs to inbound in WIN 0, publish slots to inbound or, in WIN 4, to output endpoints
that are carried (R155, R159, R162). A second transfer to an endpoint is counted (R170), in the order of the cycles, of
which each takes 128 transfers (R158). An output transfer that is missing without a count is left to the commit (R170). -/
def Chip.runChip (c : Chip) (win : Nat) (carried : Nat → Bool) : Chip :=
  let x := (c.windowOf 0 win).zipIdx.foldl (fun (x : Chip × List (Nat × Nat)) e =>
    let en := e.1.2
    let skip := x.1.skipOf 0 win e.1.1
    let v := if win = 0 then (if carried (en.src % 32768) then (x.1.inCh (en.src % 32768)).presented else Sample.zero) else x.1.pubTaken en.src
    if en.dst.testBit 15 then
      let ep := en.dst % 32768
      let old := decide (c.schedLive 0 ≤ e.1.1)
      if !carried ep || (old && c.newLineOnly ep) then x
      else
        match skip with
        | some k => (if k.counted then x.1.missOut ep old else x.1, x.2)
        | none =>
          (x.1.modOut ep (fun o => o.transfer v old),
            if (x.1.outCh ep).gotFrom old = 0 then x.2 else x.2 ++ [(e.2 / 128, epAddr ep)])
    else
      ((maskBits en.mask 4).foldl (fun c r =>
        let k := 4096 * r + en.dst % 4096
        if skip.isSome then c.setInbound k (c.inbound k).poison else c.setInbound k v) x.1, x.2)) (c, [])
  x.1.inOrder x.2 (fun c a => c.late 3 3 a)

/-- Runs the windows that carry leg-k publishes out of their clusters, or the tick-entry window XI (win 0):
chip, then regions. -/
def Chip.runOuter (c : Chip) (win : Nat) (carried : Nat → Bool) : Chip :=
  (List.range 4).foldl (fun c r => c.runRegion r win) (c.runChip win carried)

/-- Runs a window of every cluster exchange, and counts the collisions (R166, R199). -/
def Chip.runClusters (c : Chip) (win : Nat) : Chip :=
  let x := (List.range 32).foldl (fun (x : Chip × List (Nat × Nat)) cl => x.1.runCluster x.2 cl win) (c, [])
  x.1.inOrder x.2 Chip.collide

/-- Forgets the skips of a window once it has run. -/
def Chip.dropSkips (c : Chip) (cluster : Bool) (win : Nat) : Chip :=
  { c with chain := { c.chain with skips := c.chain.skips.filter (fun k => !(k.win == win && (decide (5 ≤ k.exch) == cluster))) } }

/-! ## The commit -/

/-- One step of a dither state (R255). -/
def ditherStep (x : DWord) : DWord :=
  let a := x ^^^ (x <<< 13)
  let b := a ^^^ (a >>> 7)
  b ^^^ (b <<< 17)

/-- The start of a dither state (R255). -/
def ditherStart (seed : DWord) (ep : Nat) : DWord :=
  let x := seed ^^^ (BitVec.ofNat 64 ep * 0x9E3779B97F4A7C15)
  if x = 0 then 1 else x

/-- A value rounded to WORDLEN bits with the dither of state x (R255, R256). -/
def ditherVal (x : DWord) (wordlen : Nat) (v : Word) : Word :=
  let k := 32 - wordlen
  let u1 := fld x 63 32
  let u2 := fld x 31 0
  let d : Int := (u1 / 2 ^ (32 - k) : Nat) - (u2 / 2 ^ (32 - k) : Nat)
  let q := roundEven (v.toInt + d) (2 ^ k) * 2 ^ k
  BitVec.ofInt 32 (clampInt minS32 (2 ^ 31 - 2 ^ k) q)

/-- ⟨v × n / 64⟩ (R183, R184). -/
def ramp64 (v : Word) (n : Nat) : Word := BitVec.ofInt 32 (roundEven (v.toInt * n) 64)

/-- What the commit of one channel yields: the channel, the committed value before dither, whether dither
applies, and whether the sample was replaced, a ramp-out started, or a ramp-in completed. -/
structure CommitOut where
  ch : OutCh
  v : Word
  dithers : Bool
  heldUsed : Bool
  started : Bool
  unmuted : Bool
deriving DecidableEq, Repr

/-- One ramp-out step j of 64 (R183): the held value in a poisoned tick, else the tick's own sample. DESIGN CHOICE (log
entry 48): what is held is the last clean tick's own sample, without its ramp. -/
def OutCh.rampOut (o : OutCh) (s : Sample) (j : Nat) (start : Bool) : CommitOut :=
  let v := if s.p then o.held.getD 0 else s.v
  let o1 := if s.p then o else { o with held := some s.v, h := 0 }
  { ch := { o1 with mute := if 64 ≤ j then .muted else .out j, c := 0 }, v := ramp64 v (64 - j),
    dithers := decide (j < 64), heldUsed := s.p, started := start, unmuted := false }

/-- The commit of one channel with sample `s` (R58, R183, R184, R223). DESIGN CHOICE (log entry 48): the tick that reverses a
ramp-in after j of its steps commits step 65 − j of the ramp-out, v × (j − 1)/64. -/
def OutCh.commit (o : OutCh) (s : Sample) : CommitOut :=
  match o.mute with
  | .drop j v =>
    let j1 := if j < 64 then j + 1 else 64
    { ch := { o with mute := .drop j1 v, h := 0, c := 0 }, v := ramp64 v (64 - j1), dithers := decide (j1 < 64),
      heldUsed := false, started := false, unmuted := false }
  | .clear =>
    if s.p then
      { ch := { o with h := o.h + 1, mute := if o.h + 1 = 8 then .out 0 else .clear }, v := o.held.getD 0,
        dithers := false, heldUsed := true, started := false, unmuted := false }
    else
      { ch := { o with h := 0, held := some s.v }, v := s.v, dithers := true, heldUsed := false, started := false,
        unmuted := false }
  | .out j => o.rampOut s (j + 1) (decide (j = 0))
  | .muted =>
    let c1 := if s.p then 0 else o.c + 1
    { ch := { o with c := c1, mute := if c1 = 1024 then .ramIn 0 else .muted,
                     held := if s.p then o.held else some s.v, h := if s.p then o.h else 0 },
      v := 0, dithers := false, heldUsed := s.p, started := false, unmuted := false }
  | .ramIn j =>
    if s.p then o.rampOut s (65 - j) false
    else
      { ch := { o with held := some s.v, h := 0, c := 0, mute := if j + 1 = 64 then .clear else .ramIn (j + 1) },
        v := ramp64 s.v (j + 1), dithers := true, heldUsed := false, started := false,
        unmuted := decide (j + 1 = 64) }

/-- Whether a graph binds an output endpoint (R57, R208). -/
def Graph.binds (g : Graph) (ep : Nat) : Bool := g.endpoints.contains ep

/-- The output endpoints a graph binds. -/
def Graph.outs (g : Graph) : List Nat := g.endpoints.filter (fun e => decide (0x4000 ≤ e))

/-- The dither entry of a channel in the live image (R255, R257). -/
def Chip.ditherOf (c : Chip) (ep : Nat) : Option DitherEntry :=
  match c.graph.live with
  | some g => g.dither.find? (fun d => d.ep == ep)
  | none => none

/-- The sample a channel commits: the graph's, or the weighted sum of a fade (R214, R216). -/
def Chip.outSample (c : Chip) (ep : Nat) : Sample :=
  let o := c.outCh ep
  match c.graph.fade with
  | none => o.pending
  | some f =>
    if c.newLineOnly ep then o.pending
    else
      let bo := match f.old with
        | some g => g.binds ep
        | none => false
      let bn := match c.graph.live with
        | some g => g.binds ep
        | none => false
      let wo := f.f - 1 - f.j
      let wn := f.j + 1
      let vo : Int := if bo then o.pendingOld.v.toInt else 0
      let vn : Int := if bn then o.pending.v.toInt else 0
      { v := BitVec.ofInt 32 (roundEven (vo * wo + vn * wn) f.f),
        p := (bo && decide (0 < wo) && o.pendingOld.p) || (bn && decide (0 < wn) && o.pending.p) }

/-- Counts the output underruns of a channel before its commit (R170). -/
def Chip.underrun (c : Chip) (ep : Nat) : Chip :=
  let need (b : Option Graph) : Bool := match b with
    | some g => g.binds ep
    | none => false
  let c1 :=
    if need c.graph.live && (c.outCh ep).got == 0 then
      (c.modOut ep (fun o => { o with pending := o.pending.poison })).late 3 2 (epAddr ep)
    else c
  match c1.graph.fade with
  | some f =>
    if need f.old && !c1.newLineOnly ep && (c1.outCh ep).gotOld == 0 then
      (c1.modOut ep (fun o => { o with pendingOld := o.pendingOld.poison })).late 3 2 (epAddr ep)
    else c1
  | none => c1

/-- Starts a ramp-out: counted, recorded and reported under TILE_CHECK without a counter (R186). -/
def Chip.muteStart (c : Chip) (ep : Nat) : Chip :=
  let w : Word := putFld (putFld 0 31 16 c.tickN) 15 0 (epAddr ep)
  let c1 := ((c.bump Reg.ENG_MUTE_CNT).setReg Reg.ENG_MUTE_LAST w).event Reg.ENG_CHAIN_EVENT 3 17 true
  c1.raise .tileCheck blkENG w

/-- The effect ticks of the SET_RATEs that are accepted and have not taken effect. -/
def Chip.rateTicks (c : Chip) : List Nat := (c.cmd.sched.filter (fun s => s.op == 0x0112)).map (fun s => s.tick)

/-- The first tick of the fade of R82 that boundary `t` lies in: that of the SET_RATE in progress, or of one due by then. -/
def Chip.fadeFrom (c : Chip) (t : Nat) : Option Nat :=
  (match c.eng.change with
    | some k => some k.t
    | none => c.rateTicks.min?).filter (fun b => decide (b ≤ t))

/-- This boundary is T+64 of a SET_RATE: what is due from it on is discarded and has no effect (R67). -/
def Chip.atFadeEnd (c : Chip) : Bool := c.eng.change.any (fun k => !k.stopped && c.tickN == k.t + 64)

/-- The ramp of R82 at boundary `t`. -/
def Chip.rateRamp (c : Chip) (t : Nat) (v : Word) : Word :=
  match c.fadeFrom t with
  | some b => BitVec.ofInt 32 (roundEven (v.toInt * (63 - min (t - b) 63 : Nat)) 64)
  | none => v

/-- A graph's cell that drives an output endpoint, by its XL3 transfer. -/
def Graph.driver (g : Graph) (ep : Nat) : Option CellEntry :=
  match (g.sched1 0).find? (fun e => e.win == 4 && e.dst == 32768 + ep) with
  | some e => g.entry (e.src / 64)
  | none => none

/-- A channel that is to ramp in and whose cell has not run since it woke: its ramp starts on the cell's own samples
(R223, R515). -/
def Chip.awaitsCell (c : Chip) (ep : Nat) : Bool :=
  (c.outCh ep).mute == .ramIn 0 &&
    match c.graph.live.bind (fun g => g.driver ep) with
    | some e => (c.cell (c.physOf e.laddr)).power != .on || (c.cell (c.physOf e.laddr)).fresh
    | none => false

/-- The output endpoints that the running graphs bind, without repeats. -/
def Chip.boundOuts (c : Chip) : List Nat :=
  let live := match c.graph.live with
    | some g => g.outs
    | none => []
  let old := match c.graph.fade with
    | some f => (match f.old with
      | some g => g.outs
      | none => [])
    | none => []
  live ++ old.filter (fun e => !live.contains e)

/-- The number shown in MUTED: channels ramping out, muted or ramping in. -/
def Chip.mutedCount (c : Chip) : Nat :=
  (c.chain.outs.filter (fun e => match e.2.mute with
    | .out j => decide (0 < j)
    | .muted => true
    | .ramIn _ => true
    | _ => false)).length

/-! ## The delay engines -/

/-- The live lines and taps: in a fade the new image governs a number that both name (R216). -/
def Chip.linesLive (c : Chip) : List Line :=
  let live := match c.graph.live with
    | some g => g.lines
    | none => []
  let old := match c.graph.fade with
    | some f => (match f.old with
      | some g => g.lines
      | none => [])
    | none => []
  live ++ old.filter (fun o => !live.any (fun n => n.region == o.region && n.line == o.line))

def Chip.tapsLive (c : Chip) : List Tap :=
  let live := match c.graph.live with
    | some g => g.taps
    | none => []
  let old := match c.graph.fade with
    | some f => (match f.old with
      | some g => g.taps
      | none => [])
    | none => []
  live ++ old.filter (fun o => !live.any (fun n => n.region == o.region && n.tap == o.tap))

/-- The word at byte address `a` of a memory. -/
def memWord (m : Map Byte) (a : Nat) : Word := BitVec.ofNat 32 (leNat (memRead m a 4))

/-! ## Tail streams -/

/-- The DRAM tile of stream tile j (R249). -/
def Tail.dramTile (t : Tail) (j : Nat) : Nat :=
  let o := if t.group = 0 then j else j + t.skip * (j / t.group)
  t.dramBase + o % t.dramTiles

/-- The ring tile of stream tile j (R249). -/
def Tail.ringTile (t : Tail) (j : Nat) : Nat := t.ringBase + j % (3 * t.tiles)

end Sys2Proof.Machine
end

