-- ==== Sys2Proof/Machine/CmdOps.lean ====
section
/-! DEFINITION. Command channels: packets (R273 to R276), the header checks (R279), reason codes (R303), the
effect tick (R63 to R66), and the operations that answer, refuse and schedule a command. -/
namespace Sys2Proof.Machine
open Sys2Proof

/-! ## Reason codes (R303) -/

def rOK : Nat := 0x0000
def rUnknownOpcode : Nat := 0x0002
def rBadLength : Nat := 0x0003
def rBadParam : Nat := 0x0004
def rNotSecure : Nat := 0x0005
def rBadState : Nat := 0x0006
def rNoResource : Nat := 0x0007
def rLate : Nat := 0x0008
def rCheckFail : Nat := 0x0009
def rTimeout : Nat := 0x000A
def rPairRefused : Nat := 0x000B
def rBudget : Nat := 0x0101
def rChainSlots : Nat := 0x0102
def rTileSpace : Nat := 0x0103
def rRateMismatch : Nat := 0x0104
def rFadeBudget : Nat := 0x0105
def rHandleUnknown : Nat := 0x0106
def rImageVersion : Nat := 0x0107
def rDivider : Nat := 0x0201
def rSlotWidth : Nat := 0x0202
def rStartArmed : Nat := 0x0203
def rFrameLimit : Nat := 0x0301
def rStreamRate : Nat := 0x0302
def rPtime : Nat := 0x0304
def rRefRate : Nat := 0x0401
def rLimits : Nat := 0x0402
def rBandConflict : Nat := 0x0501
def rSenseAbsent : Nat := 0x0502
def rOverlap : Nat := 0x0601
def rWidth : Nat := 0x0602
def rAlign : Nat := 0x0603
def rNotSettled : Nat := 0x0701
def rPartnerAbsent : Nat := 0x0702
def rSignature : Nat := 0x0801
def rSlotActive : Nat := 0x0802
def rShedActive : Nat := 0x0901

/-- The first reason of a list of checks that fails, each a condition that holds with its reason; OK when
all hold. -/
def firstFail : List (Bool × Nat) → Nat
  | [] => rOK
  | (ok, r) :: t => if ok then firstFail t else r

/-! ## The opcode index (R301) -/

/-- One line of the opcode index: secure channels only, mirrored, and whether it takes effect at a tick. -/
structure OpRow where
  op : Nat
  secure : Bool
  mirrored : Bool
  ticks : Bool
deriving DecidableEq, Repr

/-- The opcodes of a range that share their properties. -/
def opRange (ops : List Nat) (secure mirrored ticks : Bool) : List OpRow :=
  ops.map (fun o => { op := o, secure := secure, mirrored := mirrored, ticks := ticks })

/-- The opcode index (R301). -/
def opTable : List OpRow :=
  opRange [0x0101] false false true ++ opRange [0x0102, 0x0103, 0x0104, 0x0105] false false false ++
  opRange [0x0110, 0x0111, 0x0112] false true true ++ opRange [0x0201, 0x0203] false true false ++
  opRange [0x0202] false true true ++ opRange [0x0204] false false false ++ opRange [0x0205] false false true ++
  opRange [0x0301, 0x0303, 0x0304, 0x0306, 0x0307] false true true ++ opRange [0x0302, 0x0305] false false false ++
  opRange [0x0401, 0x0404] false true true ++ opRange [0x0402] false false false ++ opRange [0x0403] true true false ++
  opRange [0x0501, 0x0502, 0x0503, 0x0504, 0x0505, 0x0506, 0x0508, 0x0509] false true true ++
  opRange [0x0507] false false false ++
  opRange [0x0601, 0x0602, 0x0603, 0x0604, 0x0605, 0x0606, 0x0607, 0x060A] false false true ++ opRange [0x0608, 0x0609] false false false ++
  opRange [0x0701, 0x0702, 0x0703, 0x0704, 0x0705] false true true ++ opRange [0x0706] false false false ++
  opRange [0x0707] true false false ++
  opRange [0x0801, 0x0802, 0x0803, 0x0804, 0x0806] false true true ++ opRange [0x0805] false false false ++
  opRange [0x0901, 0x0903] false false false ++ opRange [0x0902] false false true ++
  opRange [0x0A01, 0x0A02, 0x0A03, 0x0A04, 0x0A05] false false false ++
  opRange [0x0B01, 0x0B02, 0x0B03, 0x0B10, 0x0B11] true false false ++ opRange [0x0B12] true false true ++
  opRange [0x0B13, 0x0B20, 0x0B21] true false false ++ opRange [0x0C01, 0x0C02] false false false

/-- The index line of an opcode. -/
def opRow (op : Nat) : Option OpRow := opTable.find? (fun r => r.op == op)

/-- The opcode is mirrored (R301). -/
def opMirrored (op : Nat) : Bool := (opRow op).any (fun r => r.mirrored)

/-- The opcode takes effect at a tick (R64, R278). -/
def opTicks (op : Nat) : Bool := (opRow op).any (fun r => r.ticks)

/-- The reason codes that a response may carry (R303). -/
def reasonCodes : List Nat :=
  [rOK, rUnknownOpcode, rBadLength, rBadParam, rNotSecure, rBadState, rNoResource, rLate, rCheckFail, rTimeout, rPairRefused, rBudget,
   rChainSlots, rTileSpace, rRateMismatch, rFadeBudget, rHandleUnknown, rImageVersion, rDivider, rSlotWidth, rStartArmed, rFrameLimit,
   rStreamRate, rPtime, rRefRate, rLimits, rBandConflict, rSenseAbsent, rOverlap, rWidth, rAlign, rNotSettled, rPartnerAbsent,
   rSignature, rSlotActive, rShedActive]

/-! ## Requests (R273) -/

/-- The fields of a request packet. -/
structure Req where
  op : Nat
  len : Nat
  seq : Nat
  flags : Nat
  atTick : Nat
  handle : Nat
  par : List Byte
deriving DecidableEq, Repr

/-- Reads a request packet (R273). -/
def parseReq (b : List Byte) : Req :=
  { op := leField b 0 2, len := leField b 2 2, seq := leField b 4 2, flags := leField b 6 2,
    atTick := leField b 8 8, handle := leField b 16 4, par := (b.drop 32).take (leField b 2 2) }

/-- AT_TICK, CRC and NO_MIRROR of FLAGS (R273). -/
def Req.hasTick (r : Req) : Bool := r.flags.testBit 0
def Req.hasCrc (r : Req) : Bool := r.flags.testBit 1
def Req.noMirror (r : Req) : Bool := r.flags.testBit 2

/-- Parameter bytes `off` to `off + n − 1` as a number. -/
def Req.p (r : Req) (off n : Nat) : Nat := leField r.par off n

/-- Parameter bytes that must be 0. -/
def Req.z (r : Req) (off n : Nat) : Bool := zeroBytes r.par off n

/-- A packet with bytes 24 to 27 as 0 (R273, R274). -/
def noCrcField (b : List Byte) : List Byte := b.take 24 ++ [0, 0, 0, 0] ++ b.drop 28

/-- The executive is live: with it stopped no command is taken, checked or accepted (R27). -/
def Chip.execLive (c : Chip) : Bool := c.sys.execReady && c.sys.execAlive

/-! ## Channels -/

def chan0 : Nat → Chan := fun _ => Chan.reset
def Chip.chan (c : Chip) (ch : Nat) : Chan := Map.get chan0 c.cmd.chans ch
def Chip.setChan (c : Chip) (ch : Nat) (v : Chan) : Chip := { c with cmd := { c.cmd with chans := Map.put chan0 c.cmd.chans ch v } }
def Chip.modChan (c : Chip) (ch : Nat) (f : Chan → Chan) : Chip := c.setChan ch (f (c.chan ch))

/-- A channel is busy (R263, R270). -/
def Chip.chanBusy (c : Chip) (ch : Nat) : Bool := (c.chan ch).st != .idle || c.cmd.held

/-- PF1 carries channels 4 to 7 (R261); a command of the partner's counts as its channel does. -/
def chPf1 (ch : Nat) : Bool := decide (4 ≤ ch % 8)

/-- Sets a CMD_EVENT bit; an enabled bit raises the channel's vector (R272). -/
def Chip.cmdEvent (c : Chip) (ch i : Nat) : Chip :=
  c.event (Reg.CMD_EVENT ch) i ch (c.regBit (Reg.CMD_INT_EN ch) i)

/-- Writes words into a buffer register array from word 0. -/
def Chip.putWords (c : Chip) (addr : Nat → Nat) (i : Nat) : List Word → Chip
  | [] => c
  | w :: r => (c.setReg (addr i) w).putWords addr (i + 1) r

/-- The little-endian words of a byte list. -/
def toWords : List Byte → List Word
  | a :: b :: c :: d :: r => BitVec.ofNat 32 (leNat [a, b, c, d]) :: toWords r
  | [] => []
  | r => [BitVec.ofNat 32 (leNat r)]

/-- Clears CMD_REQ (R265, R268). -/
def Chip.clearReq (c : Chip) (ch : Nat) : Chip :=
  c.putWords (Reg.CMD_REQ ch) 0 (List.replicate 256 0)

/-- The first `n` bytes of CMD_REQ. -/
def Chip.reqBytes (c : Chip) (ch n : Nat) : List Byte :=
  ((List.range ((n + 3) / 4)).flatMap (fun w => leBytes 4 (c.reg (Reg.CMD_REQ ch w)).toNat)).take n

/-- The four bytes of a register. -/
def Chip.reg4 (c : Chip) (a : Nat) : List Byte := leBytes 4 (c.reg a).toNat

/-- The applied tick of a refused command (R274). -/
def noTick : DWord := 0xFFFFFFFFFFFFFFFF

/-- The response packet of a request (R274). -/
def respPacket (r : Req) (x : Resp) : List Byte :=
  let h (crc : Nat) : List Byte :=
    leBytes 2 r.op ++ leBytes 2 x.reason ++ leBytes 2 r.seq ++ [0, 0] ++ leBytes 8 x.applied.toNat ++
    leBytes 2 x.payload.length ++ List.replicate 6 0 ++ leBytes 4 crc ++ [0, 0, 0, 0] ++ x.payload
  if r.hasCrc then h (crc32c (h 0)).toNat else h 0

/-- Writes a response into CMD_RSP: the channel returns to IDLE and DONE is set (R263, R274). -/
def Chip.writeRsp (c : Chip) (ch : Nat) (r : Req) (x : Resp) : Chip :=
  let ws := toWords (respPacket r x)
  let c1 := c.putWords (Reg.CMD_RSP ch) 0 (ws ++ List.replicate (256 - ws.length) 0)
  let c2 := c1.modChan ch (fun k => { Chan.reset with lastSeq := r.seq, limit := k.limit })
  c2.cmdEvent ch 1

/-- The session or its channel state ends with a response that is not written (R269, R506). -/
def Chip.freeChan (c : Chip) (ch : Nat) : Chip :=
  c.modChan ch (fun k => { Chan.reset with lastSeq := k.lastSeq })

/-- The request a TAKEN channel holds. -/
def Chip.reqOf (c : Chip) (ch : Nat) : Req := parseReq (c.chan ch).req

/-- A command is neither accepted nor refused any longer: it no longer holds others back (R278). -/
def Chip.unqueue (c : Chip) (ch : Nat) : Chip :=
  { c with cmd := { c.cmd with takes := c.cmd.takes.filter (fun k => k != ch) } }

/-- Makes a response ready on a channel. -/
def Chip.answer (c : Chip) (ch reason : Nat) (applied : DWord) (payload : List Byte) : Chip :=
  (c.modChan ch (fun k => { k with work := .answered, rsp := some { reason := reason, applied := applied, payload := payload } })).unqueue ch

/-- Refuses a command with a reason (R275). -/
def Chip.refuse (c : Chip) (ch reason : Nat) : Chip := c.answer ch reason noTick []

/-- Answers OK at the current tick. -/
def Chip.done (c : Chip) (ch : Nat) (payload : List Byte) : Chip := c.answer ch rOK c.eng.tick payload

/-! ## The effect tick -/

/-- The first boundary after acceptance (R63, R64). -/
def Chip.firstBoundary (c : Chip) : Nat := if c.eng.phase = .commit then c.tickN + 2 else c.tickN + 1

/-- PAIR_STAT.STATE: 0 SOLO, 1 SEARCH, 2 LINKED, 3 SYNCED, 4 LINK_LOST, 5 INCOMPATIBLE. -/
def Chip.pairState (c : Chip) : Nat := c.regFld Reg.PAIR_STAT 31 28
def Chip.synced (c : Chip) : Bool := c.pairState == 3

/-- What becomes of a mirrored command: it acts on this chip alone, it is sent to the partner first, it is forwarded to
the owner, or it is refused with PAIR_REFUSED. -/
inductive Route where
  | alone | mirror | forward | refused
deriving DecidableEq, Repr

/-- The route of a command (R281). A command that the partner forwarded is handled as one of the owner's own. -/
def Chip.route (c : Chip) (r : Req) : Route :=
  if !opMirrored r.op || !c.pairEn || r.noMirror then .alone
  else if c.pair.owner then (if c.synced then .mirror else .alone)
  else if c.synced then .forward
  else .refused

/-- The effect tick the owner fixes for a mirrored command without a tick of its own (R452): the first boundary whose preceding
commit window opens at least 1 ms after the copy leaves. Where the instant within the tick decides, it is a free value. -/
def Chip.mirrorTick (c : Chip) : Nat :=
  match c.eng.rate with
  | some x =>
    let w := cellHz c.eng.cell1000 / 1000 + 96
    c.tickN + ceilDiv w (cyclesPerTick x c.eng.cell1000) + (Config.freeValue c.nfree).toNat % 2
  | none => c.firstBoundary

/-- The effect tick a command would have (R64, R65): one that this chip mirrors to its partner takes effect at the tick of R452. -/
def Chip.effTick (c : Chip) (r : Req) : Nat :=
  if r.hasTick && r.atTick != 0 then r.atTick
  else match c.route r with
    | .mirror => c.mirrorTick
    | _ => c.firstBoundary

/-- at_tick lies too far ahead (R65). -/
def Chip.tooFar (c : Chip) (r : Req) : Bool := r.hasTick && decide (c.tickN + 2 ^ 31 < r.atTick)

/-- The effect boundary does not lie after acceptance (R65). -/
def Chip.isLate (c : Chip) (r : Req) : Bool := r.hasTick && r.atTick != 0 && decide (r.atTick < c.firstBoundary)

/-- BAD_STATE of R67: from the acceptance of a SET_RATE to the first tick at the new rate, a command whose
effect tick would be T+64 or later. -/
def Chip.rateBlocks (c : Chip) (r : Req) : Bool :=
  c.eng.change.any (fun k => k.stopped || decide (k.t + 64 ≤ c.effTick r)) || c.rateTicks.any (fun t => decide (t + 64 ≤ c.effTick r))

/-- A PAIR_RESYNC in progress refuses mirrored commands (R466). -/
def Chip.resyncBars (c : Chip) (r : Req) : Bool := opMirrored r.op && c.pair.resync.isSome

/-- From the acceptance of an EXEC_SWAP to its response these opcodes are refused with BAD_STATE (R539). -/
def Chip.swapBars (c : Chip) (r : Req) : Bool :=
  c.sys.swap.isSome && ([0x0201, 0x0403, 0x0707, 0x0205, 0x0903, 0x0609, 0x0112].contains r.op || r.op / 256 == 0x0B)

/-- The checks of the effect tick that end every scheduled command's list: too far, LATE, and the capacity
of R66 (R570). -/
def Chip.tickChecks (c : Chip) (r : Req) : List (Bool × Nat) :=
  [(!c.tooFar r, rBadParam), (!c.isLate r, rLate), (decide (c.cmd.sched.length < 256), rNoResource)]

/-- Schedule entries by tick, then by acceptance (R280). -/
def sortSched (l : List Sched) : List Sched := sortBy (fun x => x.tick) l

/-- The opcodes that a commit of the same tick has resolved again against its own table (R234). -/
def paramOp (op : Nat) : Bool := op == 0x0301 || op == 0x0303 || op == 0x0304

/-- The order in which the entries due act: by tick, the parameters of a tick behind its commits (R234), then by
acceptance (R280). -/
def sortDue (l : List Sched) : List Sched :=
  sortBy (fun x => 2 * x.tick + (if paramOp x.op then 1 else 0)) l

/-- The chip whose fade, if it ends by tick `t`, has ended (R214): the tick at which it ends stands beside the chip. -/
def endedBy (t : Nat) (x : Chip × Option Nat) : Chip × Option Nat :=
  if x.2.any (fun e => decide (e ≤ t)) then ({ x.1 with graph := { x.1.graph with fade := none } }, none) else x

/-- The chip as it will stand at tick `t` as far as the opcodes `ops` go, whose effects are `eff`, and the end of a fade (R297). -/
def Chip.ahead (c : Chip) (t : Nat) (ops : List Nat) (eff : Nat → Chip → Nat → Req → Chip) : Chip :=
  let end0 := c.graph.fade.map (fun f => c.tickN + (f.f - f.j))
  (endedBy t (((sortSched c.cmd.sched).filter (fun s => decide (s.tick ≤ t) && ops.contains s.op)).foldl
    (fun x s =>
      let y := endedBy s.tick x
      let d := eff s.op y.1 s.ch (parseReq s.req)
      (d, if s.op = 0x0202 then d.graph.fade.map (fun f => s.tick + f.f) else y.2)) (c, end0))).1

/-! ## Force-gated units (R351 to R353) -/

/-- The force bit of a unit: 0 SAP, 1 CUE, 2 NET, 3 DRV, 4 DMA. -/
def Chip.forced (c : Chip) (u : Nat) : Bool := c.regBit Reg.CLK_GATE_FORCE u

/-- An access to a force-gated unit is refused and counted (R353). -/
def Chip.forceHit (c : Chip) (u : Nat) : Chip :=
  (((c.bump Reg.CLK_FORCE_HIT).setFld Reg.CLK_FORCE_HIT 31 29 u)).setBit Reg.CLK_EVENT 4 true

/-- The forcible unit whose hardware an opcode's executive accesses: PORT, NET, DRIVE and CUE opcodes. -/
def opUnit (op : Nat) : Option Nat :=
  if op = 0x060A then none
  else if op / 256 = 5 then some 0 else if op / 256 = 6 then some 2 else if op / 256 = 8 then some 3 else if op / 256 = 0x0C then some 1
  else none

/-- The force-gated unit that a command would access. -/
def Chip.opForced (c : Chip) (op : Nat) : Option Nat := (opUnit op).filter c.forced

/-- Enabling commands, which R352 refuses without an access. -/
def opEnables (op : Nat) : Bool := [0x0502, 0x0505, 0x0602, 0x0606, 0x0803].contains op

/-- The access of a command to a force-gated unit is not performed and counts (R353). -/
def Chip.opHit (c : Chip) (op : Nat) : Chip :=
  match c.opForced op with
  | some u => if opEnables op then c else c.forceHit u
  | none => c

/-- The checks of an opcode that takes effect at a tick, in the order of R570: its length, what the packet alone
shows, its state with R67, its handle, the reasons of its own area, and the effect tick. -/
def Chip.tickReason (c : Chip) (r : Req) (len packet state handle : Bool) (own : List (Bool × Nat)) : Nat :=
  firstFail ([(len, rBadLength), (packet, rBadParam),
    (state && !c.rateBlocks r && !c.resyncBars r && !c.swapBars r && (c.opForced r.op).isNone, rBadState), (handle, rHandleUnknown)] ++ own ++ c.tickChecks r)

/-- An enabling effect that the hardware check refuses at its boundary (R294, R297). -/
def Chip.effectFail (c : Chip) (ch op vec : Nat) : Chip :=
  ((c.bump (Reg.CMD_EFFECT_FAIL (chPf1 ch))).setFld (Reg.CMD_EFFECT_FAIL (chPf1 ch)) 31 16 op).signal vec

/-- Channel `ch` holds a TAKEN command with opcode `op` whose own checks are still to be made. -/
def Chip.isFresh (c : Chip) (ch op : Nat) : Bool :=
  (c.chan ch).st == .taken && (c.chan ch).work == .fresh && (c.reqOf ch).op == op && c.sys.execReady && c.sys.execAlive

/-- An opcode that acts at its acceptance: refused with the first reason that applies, or with BAD_STATE where its access meets a
force-gated unit (R353), or carried out. -/
def Chip.runNow (c : Chip) (ch op : Nat) (reason : Nat) (f : Chip → Chip) : Chip :=
  if c.isFresh ch op then
    (if reason ≠ rOK then c.refuse ch reason
     else if (c.opForced op).isSome then (c.opHit op).refuse ch rBadState
     else f c)
  else c

/-- An opcode that takes effect at a tick: refused with the first reason that applies, or ready to be
accepted. -/
def Chip.runTick (c : Chip) (ch op : Nat) (reason : Nat) : Chip :=
  if c.isFresh ch op then
    (if reason = rOK then c.modChan ch (fun k => { k with work := .checked })
     else if reason = rBadState then (c.opHit op).refuse ch reason
     else c.refuse ch reason)
  else c

/-- The length of the parameters is `n`. -/
def Req.lenIs (r : Req) (n : Nat) : Bool × Nat := (decide (r.len = n), rBadLength)

/-- AT_TICK is clear (R299). -/
def Req.noTick (r : Req) : Bool := !r.hasTick

/-- The HANDLE field is 0 (R276). -/
def Req.noHandle (r : Req) : Bool := r.handle == 0

end Sys2Proof.Machine
end

