-- ==== Sys2Proof/Machine/Endpoints.lean ====
section
/-! DEFINITION. Ports, streams and drive modules as endpoints: what is enabled, which endpoint channels are carried
(R155), and the channel limits of R34. -/
namespace Sys2Proof.Machine
open Sys2Proof

/-! ## Ports -/

/-- The CFG register of a port: KIND 0 TDM, 1 AES3 receiver, 2 AES3 transmitter, 3 MADI receiver, 4 MADI
transmitter. -/
def portCfg (kind i : Nat) : Nat :=
  if kind = 0 then Reg.SAP_TDM_CFG i
  else if kind = 1 then Reg.SAP_AESRX_CFG i
  else if kind = 2 then Reg.SAP_AESTX_CFG i
  else if kind = 3 then Reg.SAP_MADIRX_CFG i
  else Reg.SAP_MADITX_CFG i

/-- The number of ports of a kind. -/
def portCount (kind : Nat) : Nat := if kind = 0 then 16 else if kind ≤ 2 then 8 else if kind ≤ 4 then 4 else 0

/-- Every port, in the fixed order of R384. -/
def allPorts : List (Nat × Nat) := (List.range 5).flatMap (fun k => (List.range (portCount k)).map (fun i => (k, i)))

def Chip.portEn (c : Chip) (kind i : Nat) : Bool := c.regBit (portCfg kind i) 31
def Chip.portArmed (c : Chip) (kind i : Nat) : Bool := kind != 1 && kind != 3 && c.regBit (portCfg kind i) 30

/-- The slots a TDM port carries each way (R361). -/
def tdmSlots (cfg : Word) : Nat := if fld cfg 29 28 < 2 then 2 else fld cfg 19 14

/-- The multiple of the family's lowest rate that governs: that of the new rate in a SET_RATE. -/
def Chip.rateNow (c : Chip) : Option Rate :=
  match c.eng.rate with
  | some r => some r
  | none => c.eng.change.map (fun k => k.rate)

/-- MADI in S/MUX mode: MODE 0 at a double rate (R380). -/
def Chip.smux (c : Chip) (cfg : Word) : Bool :=
  !cfg.getLsbD 29 && (match c.rateNow with
    | some r => r.mult == 2
    | none => false)

/-- The audio channels of a MADI port's mode (R380); 0 where the rate does not allow it. -/
def Chip.madiChans (c : Chip) (cfg : Word) : Nat :=
  let ch := if cfg.getLsbD 28 then 56 else 64
  match c.rateNow with
  | some r =>
    if r.mult = 1 then (if cfg.getLsbD 29 then 0 else ch)
    else if r.mult = 2 then ch / 2
    else 0
  | none => 0

/-- The channels a port carries each way when it is enabled: inputs and outputs. -/
def Chip.portChans (c : Chip) (kind i : Nat) : Nat × Nat :=
  let cfg := c.reg (portCfg kind i)
  if kind = 0 then (tdmSlots cfg, tdmSlots cfg)
  else if kind = 1 then (2, 0)
  else if kind = 2 then (0, 2)
  else if kind = 3 then (c.madiChans cfg, 0)
  else (0, c.madiChans cfg)

/-! ## Streams and modules -/

def stream0 : Nat → Stream := fun _ => Stream.reset
def Chip.stream (c : Chip) (k : Nat) : Stream := Map.get stream0 c.net.streams k
def Chip.setStream (c : Chip) (k : Nat) (v : Stream) : Chip := { c with net := { c.net with streams := Map.put stream0 c.net.streams k v } }

/-- CH and FIRST of a stream's configuration. -/
def Stream.ch (s : Stream) : Nat := leField s.cfg 3 1
def Stream.first (s : Stream) : Nat := leField s.cfg 4 2

/-- The enabled streams of a direction: receive 0, transmit 1. -/
def Chip.enStreams (c : Chip) (dir : Nat) : List (Nat × Stream) :=
  c.net.streams.filter (fun e => decide (e.1 / 512 = dir) && e.2.en)

def Chip.modEn (c : Chip) (m : Nat) : Bool := c.regBit (Reg.DRV_MOD_CTRL m) 31

/-! ## Carried channels (R155) -/

/-- The image of the live graph has a delay line or tap. -/
def Chip.hasLine (c : Chip) (r l : Nat) : Bool := c.linesLive.any (fun x => x.region == r && x.line == l)
def Chip.hasTap (c : Chip) (r t : Nat) : Bool := c.tapsLive.any (fun x => x.region == r && x.tap == t)

/-- The endpoint channel's port, stream, module, line or tap is enabled and carries it. `armed` counts an armed
port as enabled, as R34 does. -/
def Chip.carriedIf (c : Chip) (armed : Bool) (ep : Nat) : Bool :=
  let on (k i : Nat) : Bool := c.portEn k i || (armed && c.portArmed k i)
  if ep < 0x200 then on 0 (ep / 32) && decide (ep % 32 < (c.portChans 0 (ep / 32)).1)
  else if ep < 0x210 then on 1 ((ep - 0x200) / 2)
  else if 0x300 ≤ ep ∧ ep < 0x400 then on 3 ((ep - 0x300) / 64) && decide (ep % 64 < (c.portChans 3 ((ep - 0x300) / 64)).1)
  else if 0x1000 ≤ ep ∧ ep < 0x2000 then
    (c.enStreams 0).any (fun e => decide (e.2.first ≤ ep - 0x1000) && decide (ep - 0x1000 < e.2.first + e.2.ch))
  else if 0x2000 ≤ ep ∧ ep < 0x3000 then c.hasTap ((ep - 0x2000) / 1024) (ep % 1024)
  else if ep = 0x3FFF then true
  else if 0x4000 ≤ ep ∧ ep < 0x4200 then on 0 ((ep - 0x4000) / 32) && decide (ep % 32 < (c.portChans 0 ((ep - 0x4000) / 32)).2)
  else if 0x4200 ≤ ep ∧ ep < 0x4210 then on 2 ((ep - 0x4200) / 2)
  else if 0x4300 ≤ ep ∧ ep < 0x4400 then on 4 ((ep - 0x4300) / 64) && decide (ep % 64 < (c.portChans 4 ((ep - 0x4300) / 64)).2)
  else if 0x4400 ≤ ep ∧ ep < 0x4440 then c.modEn ((ep - 0x4400) / 8)
  else if 0x5000 ≤ ep ∧ ep < 0x6000 then
    (c.enStreams 1).any (fun e => decide (e.2.first ≤ ep - 0x5000) && decide (ep - 0x5000 < e.2.first + e.2.ch))
  else if 0x6000 ≤ ep ∧ ep < 0x6800 then c.hasLine ((ep - 0x6000) / 512) (ep % 512)
  else false

/-- An endpoint channel that is carried (R155). -/
def Chip.carried (c : Chip) (ep : Nat) : Bool := c.carriedIf false ep

/-! ## Channel limits (R34) -/

/-- An external endpoint channel that R34 counts. -/
def external (ep : Nat) : Bool :=
  !((decide (0x2000 ≤ ep) && decide (ep < 0x3000)) || ep == 0x3FFF || decide (0x6000 ≤ ep))

/-- The enabled channels of a direction: output when `out`. -/
def Chip.enabledChans (c : Chip) (out : Bool) : Nat :=
  let ports := allPorts.foldl (fun n p =>
    if c.portEn p.1 p.2 || c.portArmed p.1 p.2 then
      let k := c.portChans p.1 p.2
      n + (if out then k.2 else k.1)
    else n) 0
  let streams := (c.enStreams (ofFlag out)).foldl (fun n e => n + e.2.ch) 0
  let mods := if out then 8 * ((List.range 8).filter (fun m => c.modEn m)).length else 0
  ports + streams + mods

/-- The channels of R34 in a direction with graphs `gs` live. -/
def Chip.chanSum (c : Chip) (out : Bool) (gs : List Graph) : Nat :=
  let eps := (gs.flatMap (fun g => g.endpoints)).eraseDups
  c.enabledChans out +
    (eps.filter (fun ep => external ep && (decide (0x4000 ≤ ep) == out) && !c.carriedIf true ep)).length

/-- The graphs that run. -/
def Chip.liveGraphs (c : Chip) : List Graph :=
  c.graph.live.toList ++ (match c.graph.fade with
    | some f => f.old.toList
    | none => [])

/-- The channel limits of R34 hold at a rate with graphs `gs`. -/
def Chip.withinLimits (c : Chip) (r : Option Rate) (gs : List Graph) : Bool :=
  match r with
  | some r => decide (c.chanSum false gs ≤ channelLimit r) && decide (c.chanSum true gs ≤ channelLimit r)
  | none => true

/-- The limits hold now. -/
def Chip.limitsHold (c : Chip) : Bool := c.withinLimits c.rateNow c.liveGraphs

end Sys2Proof.Machine
end

