-- ==== Sys2Proof/Machine/MemOps.lean ====
section
/-! DEFINITION. The DRAM controller's reads and writes (R178, R179, R471 to R479), the bus matrix (R480 to R487) and
the bursts of the DMA engine (R488 to R497). -/
namespace Sys2Proof.Machine
open Sys2Proof

/-! ## DRAM -/

/-- The LPDDR5 channel of a tile: address bits 9:8 XOR bits 17:16 (R471). -/
def dramCh (t : Nat) : Nat := (t % 4) ^^^ (t / 256 % 4)

/-- One more event in a counter of the DDR block (DDR_XFER_CNT and its like). -/
def Chip.ddrCount (c : Chip) (a t : Nat) : Chip := (c.bump a).setFld a 17 16 (dramCh t)

/-- DDR_XFER (R478). -/
def Chip.ddrXfer (c : Chip) (t : Nat) : Chip :=
  let a : Word := BitVec.ofNat 32 (t % 2 ^ 27)
  let c1 := ((c.ddrCount Reg.DDR_XFER_CNT t).setReg Reg.DDR_XFER_ADDR a).setBit Reg.DDR_EVENT 0 true
  c1.raise .ddrXfer blkDDR a

/-- TILE_CHECK of a DRAM tile: counted at chip level (R178, R479). -/
def Chip.dramFail (c : Chip) (t : Nat) : Chip :=
  let a : Word := BitVec.ofNat 32 (t % 2 ^ 27)
  let c1 := ((c.ddrCount Reg.DDR_TCHK_CNT t).setReg Reg.DDR_TCHK_ADDR a).setBit Reg.DDR_EVENT 1 true
  c1.raise .tileCheck blkDDR a

/-- A DRAM tile as it is delivered: a failed check is counted, and the flag says that the tile carries the mark
(R177, R178, R479). -/
def Chip.dramCheck (c : Chip) (t : Nat) : Chip × Bool :=
  if c.mem.fails .dram t then (c.dramFail t, true) else (c, marked (c.mem.entry .dram t))

/-- A DRAM tile read with a disturbance (`bad`) that its check finds; a stored mark comes before any check (R176). -/
def Chip.dramCheckBad (c : Chip) (t : Nat) (bad : Bool) : Chip × Bool :=
  if bad && !marked (c.mem.entry .dram t) then (c.dramFail t, true) else c.dramCheck t

/-- Reads tiles one after another; the flag says that one of them carries the mark. -/
def Chip.dramChecks (c : Chip) : List Nat → Chip × Bool
  | [] => (c, false)
  | t :: r =>
    let x := c.dramCheck t
    let y := x.1.dramChecks r
    (y.1, x.2 || y.2)

/-- The tiles of a byte range. -/
def tilesOf (a n : Nat) : List Nat :=
  if n = 0 then [] else (List.range ((a + n - 1) / 256 - a / 256 + 1)).map (fun i => a / 256 + i)

/-- Reads `n` bytes of DRAM from address `a`; the flag says that a tile carries the mark. -/
def Chip.dramRead (c : Chip) (a n : Nat) : Chip × List Byte × Bool :=
  let x := c.dramChecks (tilesOf a n)
  (x.1, memRead x.1.mem.dram a n, x.2)

/-- Writes part of one tile of DRAM or region memory, or all of it, with the mark when `mark` (R177, R179). -/
def Chip.tileWrite (c : Chip) (sp : Space) (a : Nat) (b : List Byte) (mark : Bool) : Chip :=
  let t := a / 256
  if a % 256 = 0 ∧ 256 ≤ b.length then { c with mem := c.mem.putTile sp t (b.take 256) mark }
  else
    let bad := c.mem.fails sp t
    let c1 := if sp = .dram then (c.dramCheck t).1
      else if bad then c.tileCheck 4 0 (t / 16384) (t % 16384) else c
    { c1 with mem := c1.mem.merge sp a b mark }

/-- The bytes of a list cut at tile boundaries, each piece with its address. `k` is at least the length. -/
def tilePieces (a : Nat) (b : List Byte) : Nat → List (Nat × List Byte)
  | 0 => []
  | k + 1 =>
    if b.isEmpty then []
    else
      let n := 256 - a % 256
      (a, b.take n) :: tilePieces (a + n) (b.drop n) k

/-- Writes bytes to DRAM from address `a`. -/
def Chip.dramWrite (c : Chip) (a : Nat) (b : List Byte) : Chip :=
  (tilePieces a b b.length).foldl (fun c p => c.tileWrite .dram p.1 p.2 false) c

/-! ## The region memory port into cells (R149, R177, R179) -/

/-- Bytes for one tile of a cell's backing memory or of region memory (R179, R235, R236). A merge into a tile that fails its
check or carries the mark leaves the mark and is counted. -/
def Chip.mergeTile (c : Chip) (sp : Space) (region a : Nat) (b : List Byte) : Chip :=
  let t := a / 256
  let whole := decide (b.length = 256)
  let bad := !whole && c.mem.fails sp t
  let mk := !whole && (bad || marked (c.mem.entry sp t))
  let c1 := if bad then c.tileCheck 4 0 region (t % (if sp = .back then 512 else 16384)) else c
  let c2 := { c1 with mem := if whole then c1.mem.putTile sp t b false else c1.mem.merge sp a b bad }
  if mk then (c2.bump Reg.ENG_PARAM_MARK).event Reg.ENG_PARAM_EVENT 1 17 true else c2

/-- A write into the memories of an ON cell. -/
def Chip.portPut (c : Chip) (i : Nat) (w : PortWrite) : Chip :=
  let sp : Space := if w.back then .back else .prog
  let a := (if w.back then 131072 else 32768) * i + w.addr
  match w.whole with
  | some mark => { c with mem := c.mem.putTile sp (a / 256) w.bytes mark }
  | none => c.mergeTile sp (i / 128) a w.bytes

/-- A write into the memories of a cell: into those of an OFF cell it first issues a wake event, and it proceeds once the cell
is ON (R149). -/
def Chip.portWrite (c : Chip) (i : Nat) (w : PortWrite) : Chip :=
  if (c.cell i).power == .on then c.portPut i w
  else c.modCell i (fun x =>
    { x with writes := x.writes ++ [w], power := if x.power == .off then .waking else x.power })

/-- The writes that have waited for a cell proceed (R149). -/
def Chip.portDrain (c : Chip) (i : Nat) : Chip :=
  (c.cell i).writes.foldl (fun c w => c.portPut i w) (c.modCell i (fun x => { x with writes := [] }))

/-- Consecutive whole tiles for a cell's memory from tile `t`. -/
def Chip.portTiles (c : Chip) (i : Nat) (back : Bool) (t : Nat) (b : List Byte) : Nat → Chip
  | 0 => c
  | n + 1 => (c.portWrite i { back := back, addr := 256 * t, bytes := b.take 256, whole := some false }).portTiles i back (t + 1) (b.drop 256) n

/-! ## Windows without DRAM service -/

/-- A window in which DRAM is not served, of `len` tenths of a microsecond (R477). -/
def Chip.ddrAbsent (c : Chip) (len : Nat) : Chip :=
  let m := max len (c.regFld Reg.DDR_ABSENT 31 16)
  c.setReg Reg.DDR_ABSENT (putFld (putFld 0 31 16 m) 15 0 len)

/-- A window may begin: none in the last 32 ticks, and none within 32 ticks of a frequency change (R475). -/
def Chip.windowAllowed (c : Chip) : Bool :=
  (match c.ddr.lastWindow with
    | some t => decide (t + 32 ≤ c.tickN)
    | none => true) &&
  (match c.ddr.lastFreq with
    | some t => decide (t + 32 < c.tickN)
    | none => true)

/-! ## The bus matrix -/

/-- The targets of the bus matrix with the place an address names in each (R480). -/
inductive Target where
  | dram (a : Nat)
  | region (a : Nat)
  | regs (a : Nat)
  | exec (a : Nat)
  | fieldBook (a : Nat)
  | qspi (a : Nat)
deriving DecidableEq, Repr

/-- The range a matrix address lies in (R480). -/
def Chip.busRange (c : Chip) (a : Nat) : Option Target :=
  if a < c.dramUsable then some (.dram a)
  else if 0x1000000000 ≤ a ∧ a < 0x10000F0000 then some (.regs (a - 0x1000000000))
  else if 0x1001000000 ≤ a ∧ a < 0x1002000000 then some (.region (a - 0x1001000000))
  else if 0x1008000000 ≤ a ∧ a < 0x1008200000 then some (.exec (a - 0x1008000000))
  else if 0x1010000000 ≤ a ∧ a < 0x1010040000 then some (.fieldBook (a - 0x1010000000))
  else if 0x1020000000 ≤ a ∧ a < 0x1030000000 then some (.qspi (a - 0x1020000000))
  else none

/-- A path exists from an initiator to a target (R481): 0 the host, 1 the executive, 2 DMA, 3 to 6 the delay
engines, 7 the stream engine, 8 the Povin link. -/
def pathOpen (init : Nat) (t : Target) : Bool :=
  match t with
  | .dram _ => decide (init ≤ 8)
  | .region _ => decide (init ≤ 2)
  | .regs a => decide (init ≤ 1) ||
      (init == 2 && !(decide (0x10000 ≤ a) && decide (a < 0x20000)) && !(decide (0x90000 ≤ a) && decide (a < 0xA0000)))
  | .exec _ => init == 1
  | .fieldBook _ => decide (init ≤ 1)
  | .qspi _ => init == 1

/-- The target an initiator's address reaches; none is the default target (R480, R481). -/
def Chip.busTarget (c : Chip) (init a : Nat) : Option Target := (c.busRange a).filter (pathOpen init)

/-- An event in BMX_DEC_CNT or BMX_ERR_CNT with its address registers. -/
def Chip.bmxCount (c : Chip) (cnt lo hi kind init a : Nat) (write : Bool) : Chip :=
  let c1 := (c.bump cnt).modReg cnt (fun w => putFld (putFld (putFld w 31 30 kind) 29 29 (ofFlag write)) 19 16 init)
  (c1.setReg lo (BitVec.ofNat 32 a)).setReg hi (BitVec.ofNat 32 (a / 2 ^ 32 % 256))

/-- BUS_DECODE (R485). -/
def Chip.busDecode (c : Chip) (init a : Nat) (write : Bool) : Chip :=
  let c1 := (c.bmxCount Reg.BMX_DEC_CNT Reg.BMX_DEC_ADDR_LO Reg.BMX_DEC_ADDR_HI 0 init a write).setBit Reg.BMX_EVENT 0 true
  c1.raise .busDecode blkBMX (c1.reg Reg.BMX_DEC_CNT)

/-- BUS_ERR of a kind: 0 a silent target, 1 a target's error (R486). -/
def Chip.busErr (c : Chip) (kind init a : Nat) (write : Bool) : Chip :=
  let c1 := (c.bmxCount Reg.BMX_ERR_CNT Reg.BMX_ERR_ADDR_LO Reg.BMX_ERR_ADDR_HI kind init a write).setBit Reg.BMX_EVENT 1 true
  c1.raise .busErr blkBMX (c1.reg Reg.BMX_ERR_CNT)

/-! ## Gates and accesses (R350, R353) -/

/-- Completer Abort of an access to a space at an offset (R41). -/
def Chip.hostAbort (c : Chip) (space off : Nat) : Chip :=
  let c1 := (c.bump Reg.GCTL_ABORT_CNT).setReg Reg.GCTL_ABORT_LAST (putFld (putFld 0 31 30 space) 29 0 off)
  { c1 with host := { c1.host with rsp := { status := 2, data := 0 } } }

/-- The bit of a gate unit in CLK_SAP_GATE or CLK_GATE_STAT. -/
def Chip.setGate (c : Chip) (u : Nat) (b : Bool) : Chip :=
  if u < 16 then c.setBit Reg.CLK_SAP_GATE u b
  else if u = 16 then c.setBit Reg.CLK_GATE_STAT 18 b
  else if u < 21 then c.setBit Reg.CLK_GATE_STAT (u - 3) b
  else if u < 23 then c.setBit Reg.CLK_GATE_STAT (u - 2) b
  else c

/-- The forcible unit that a register offset belongs to: 0 SAP, 1 CUE, 2 NET, 3 DRV. No access addresses the transfer logic that
the force of DMA closes (R499). -/
def blockUnit (off : Nat) : Option Nat :=
  let b := off / 0x10000
  if b = 5 then some 0 else if b = 13 then some 1 else if b = 6 then some 2 else if b = 7 then some 3 else none

/-- The gate units that an access at an offset reaches: the TDM port or the MAC whose registers stand there, or the unit of the
block. -/
def gateUnits (off : Nat) : List Nat :=
  match blockUnit off with
  | some 0 => if off < 0x50200 then [off % 0x10000 / 0x20] else []
  | some 1 => [16]
  | some 2 => if off < 0x64000 then [17 + off / 0x1000 % 4] else [17, 18, 19, 20]
  | some _ => [21]
  | none => []

/-- An access opens the gates of its units (R350); they close at a GATE_CLOSE, when it has been answered. -/
def Chip.openGates (c : Chip) (off : Nat) : Chip := (gateUnits off).foldl (fun c u => c.setGate u true) c

/-- The force-gated unit that an access at an offset meets (R353). -/
def Chip.gatedAt (c : Chip) (off : Nat) : Option Nat := (blockUnit off).filter c.forced

/-- A host access to registers of PF0 at an offset: not performed where it meets a force-gated unit, else carried out with the
gates open (R350, R353). -/
def Chip.hostAt (c : Chip) (off : Nat) (f : Chip → Chip) : Chip :=
  match c.gatedAt off with
  | some u => (c.forceHit u).hostAbort 0 off
  | none => f (c.openGates off)

/-! ## DMA -/

def act0 : Nat → Option DmaAct := fun _ => none
def Chip.dmaAct (c : Chip) (n : Nat) : Option DmaAct := Map.get act0 c.dma.acts n
def Chip.setAct (c : Chip) (n : Nat) (v : Option DmaAct) : Chip :=
  { c with dma := { c.dma with acts := Map.put act0 c.dma.acts n v } }

/-- SRC and DST of a channel's programming set. -/
def Chip.dmaSrc (c : Chip) (n : Nat) : Nat := (c.reg (Reg.DMA_CH_SRC_LO n)).toNat + 2 ^ 32 * c.regFld (Reg.DMA_CH_SRC_HI n) 7 0
def Chip.dmaDst (c : Chip) (n : Nat) : Nat := (c.reg (Reg.DMA_CH_DST_LO n)).toNat + 2 ^ 32 * c.regFld (Reg.DMA_CH_DST_HI n) 7 0

/-- Bytes of a width code. -/
def widthBytes (k : Nat) : Nat := 2 ^ k

/-- A width suits the target of an address (R483, R488). -/
def Chip.widthFits (c : Chip) (a k : Nat) : Bool :=
  match c.busRange a with
  | some (.region _) => decide (k ≤ 4)
  | some (.regs _) => k == 2 || k == 3
  | some (.exec _) => decide (k ≤ 4)
  | some (.fieldBook _) => decide (k ≤ 2)
  | some (.qspi _) => decide (k ≤ 2)
  | _ => true

/-- The start check of a channel (R488). -/
def Chip.dmaCheck (c : Chip) (n : Nat) : Nat :=
  let cfg := c.reg (Reg.DMA_CH_CFG n)
  let sw := fld cfg 14 12
  let dw := fld cfg 18 16
  let s := c.dmaSrc n
  let d := c.dmaDst n
  let k := (c.reg (Reg.DMA_CH_COUNT n)).toNat
  let m := widthBytes (max sw dw)
  let lap := if cfg.getLsbD 31 then decide (d < s) && decide (s < d + k) else decide (s < d) && decide (d < s + k)
  firstFail [(decide (sw < 6) && decide (dw < 6) && c.widthFits s sw && c.widthFits d dw, rWidth),
    (decide (s % m = 0) && decide (d % m = 0) && decide (k % m = 0), rAlign), (!lap, rOverlap)]

/-- DMA_STAT shows the queue and the running channel. -/
def Chip.dmaStat (c : Chip) : Chip :=
  let q := c.dma.queue.foldl (fun m n => m + 2 ^ n) 0
  let run := c.dma.queue.head?.filter (fun n => c.regFld (Reg.DMA_CH_STAT n) 31 29 == 2)
  c.setReg Reg.DMA_STAT (putFld (putFld (putFld 0 31 31 (ofFlag run.isSome)) 19 16 (run.getD 0)) 15 0 q)

/-- The residue of a channel: what is not confirmed written (R494). -/
def Chip.dmaResidue (c : Chip) (n : Nat) (a : DmaAct) : Chip :=
  let ra := if a.cfg.getLsbD 31 then a.dst + a.left else a.dst + (a.count - a.left)
  ((c.setReg (Reg.DMA_CH_RES_ADDR_LO n) (BitVec.ofNat 32 ra)).setReg (Reg.DMA_CH_RES_ADDR_HI n) (BitVec.ofNat 32 (ra / 2 ^ 32 % 256))).setReg
    (Reg.DMA_CH_RES_CNT n) (BitVec.ofNat 32 a.left)

/-- A channel ends in a state: 3 DONE, 4 HALTED, 5 ABORTED. -/
def Chip.dmaEnd (c : Chip) (n st : Nat) : Chip :=
  let c1 := (c.setFld (Reg.DMA_CH_STAT n) 31 29 st).setBit (Reg.DMA_CH_CTRL n) 0 false
  ({ c1 with dma := { c1.dma with queue := c1.dma.queue.filter (fun k => k != n) } }.setAct n none).dmaStat

/-- A channel ends as DONE. -/
def Chip.dmaDone (c : Chip) (n : Nat) (int : Bool) : Chip :=
  ((c.setReg (Reg.DMA_CH_RES_CNT n) 0).dmaEnd n 3).event Reg.DMA_EVENT n 14 int

/-- A channel whose abort has waited for the step in progress ends as ABORTED (R497). -/
def Chip.dmaStopped (c : Chip) (n : Nat) (a : DmaAct) : Chip := (c.dmaResidue n a).dmaEnd n 5

/-- A channel halts: ERR is 1 for a bus error and 2 for a decode error (R494, R496). -/
def Chip.dmaHalt (c : Chip) (n err : Nat) (a : DmaAct) : Chip :=
  if a.stop then c.dmaStopped n a else
  let last := a.writing && (c.reg (Reg.DMA_CH_LEFT n) == 0)
  let c1 := ((c.modReg (Reg.DMA_CH_STAT n) (fun w => putFld (putFld w 28 27 err) 22 22 (ofFlag last))).dmaResidue n a).dmaEnd n 4
  let c2 := ((c1.bump Reg.DMA_ERR_CNT).setFld Reg.DMA_ERR_CNT 19 16 n).event Reg.DMA_EVENT (16 + n) 14 (decide (1 ≤ c1.level 7))
  c2.raise .dmaErr blkDMA (c2.reg Reg.DMA_ERR_CNT)

/-- EN of a channel is written to 1 (R295, R488 to R490, R499). -/
def Chip.dmaStart (c : Chip) (n : Nat) : Chip :=
  if c.forced 4 || c.regBit (Reg.DMA_CH_CTRL n) 0 then c
  else
    let k := c.dmaCheck n
    let c1 := c.setReg Reg.DMA_REASON (putFld (putFld 0 19 16 n) 15 0 k)
    if k ≠ rOK then c1
    else
      let cnt := (c1.reg (Reg.DMA_CH_COUNT n)).toNat
      let a : DmaAct :=
        { src := c1.dmaSrc n, dst := c1.dmaDst n, count := cnt, cfg := c1.reg (Reg.DMA_CH_CFG n), left := cnt,
          hold := [], mark := false, writing := false, stop := false }
      let c2 := ((c1.setBit (Reg.DMA_CH_CTRL n) 0 true).setReg (Reg.DMA_CH_STAT n) (putFld 0 31 29 1)).setReg (Reg.DMA_CH_LEFT n) (BitVec.ofNat 32 cnt)
      let c3 := ({ c2 with dma := { c2.dma with queue := c2.dma.queue ++ [n] } }.setAct n (some a)).setBit Reg.CLK_GATE_STAT 20 true
      if cnt = 0 then c3.dmaDone n (a.cfg.getLsbD 0) else c3.dmaStat

/-- EN of a channel is written to 0: a queued channel leaves the queue, a running one completes the step in progress first (R497). -/
def Chip.dmaAbort (c : Chip) (n : Nat) : Chip :=
  match c.dmaAct n with
  | some a =>
    if !c.regBit (Reg.DMA_CH_CTRL n) 0 then c
    else if c.regFld (Reg.DMA_CH_STAT n) 31 29 = 2 then c.setAct n (some { a with stop := true })
    else c.dmaStopped n a
  | none => c

/-- The burst that comes next: its source, its destination and its length (R491). -/
def DmaAct.burst (a : DmaAct) : Nat × Nat × Nat :=
  if a.cfg.getLsbD 31 then
    let s := a.src + a.left
    let d := a.dst + a.left
    let n := min (min ((s - 1) % 256 + 1) ((d - 1) % 256 + 1)) a.left
    (s - n, d - n, n)
  else
    let s := a.src + (a.count - a.left)
    let d := a.dst + (a.count - a.left)
    let n := min (min (256 - s % 256) (256 - d % 256)) a.left
    (s, d, n)

/-- The running channel with its active set. -/
def Chip.dmaRunning (c : Chip) : Option (Nat × DmaAct) :=
  match c.dma.queue with
  | n :: _ => if c.regFld (Reg.DMA_CH_STAT n) 31 29 = 2 && !c.forced 4 then (c.dmaAct n).map (fun a => (n, a)) else none
  | [] => none

/-- The address of the step of the burst in progress: its source while it is read, its destination while it is written. -/
def DmaAct.addr (a : DmaAct) : Nat := if a.writing then a.burst.2.1 else a.burst.1

/-- The gate units that the access of DMA in progress holds open. -/
def Chip.dmaUnits (c : Chip) : List Nat :=
  match c.dmaRunning with
  | some (_, a) => (match c.busTarget 2 a.addr with
    | some (.regs off) => gateUnits off
    | _ => [])
  | none => []

/-- An error response that may be repeated: one more retry, or the channel halts (R493, R494). -/
def Chip.dmaRetry (c : Chip) (n : Nat) (a : DmaAct) : Chip :=
  let k := c.regFld (Reg.DMA_CH_STAT n) 25 23
  if !a.stop && decide (k < fld a.cfg 22 20) then c.setFld (Reg.DMA_CH_STAT n) 25 23 (k + 1) else c.dmaHalt n 1 a

end Sys2Proof.Machine
end

