-- ==== Sys2Proof/Machine/FieldBook.lean ====
section
/-! DEFINITION. The field book (R528 to R530): atomic record writes with read-back. -/
namespace Sys2Proof.Machine
open Sys2Proof

/-- `n` bytes of the field book. -/
def Chip.fb (c : Chip) (off n : Nat) : List Byte := memRead c.sys.fieldBook off n

/-- A structure of `n` bytes whose last four hold the CRC of R204 over the rest with the CRC as 0 (R530). -/
def withCrc (b : List Byte) (n : Nat) : List Byte :=
  let body := bytesFrom b 0 (n - 4)
  body ++ leBytes 4 (crc32c (body ++ [0, 0, 0, 0])).toNat

/-- The CRC at the end of a structure is correct (R530). -/
def crcGood (b : List Byte) : Bool :=
  let n := b.length - 4
  decide (leField b n 4 = (crc32c (b.take n ++ [0, 0, 0, 0])).toNat)

/-- A structure of `n` bytes whose last four hold the CRC of R204 over the bytes before them (R327, R385). -/
def withCrcHead (b : List Byte) (n : Nat) : List Byte :=
  let body := bytesFrom b 0 (n - 4)
  body ++ leBytes 4 (crc32c body).toNat

/-- The CRC at the end of a structure is that of the bytes before it (R327, R385). -/
def crcHeadGood (b : List Byte) : Bool :=
  let n := b.length - 4
  decide (leField b n 4 = (crc32c (b.take n)).toNat)

/-- A free value of the machine, and the chip that has used it. -/
def Chip.free (c : Chip) : Word × Chip := (Config.freeValue c.nfree, { c with nfree := c.nfree + 1 })

/-- 256 bytes that the spec does not state: 64 free words. -/
def Chip.freeTile (c : Chip) : List Byte × Chip :=
  (List.range 64).foldl (fun (a : List Byte × Chip) _ =>
    let f := a.2.free
    (a.1 ++ leBytes 4 f.1.toNat, f.2)) ([], c)

/-- FIELDBOOK_WRITE: a record failed its second read-back (R529). -/
def Chip.fbError (c : Chip) : Chip :=
  let c1 := c.bump Reg.FLT_FB_CNT
  c1.raise .fieldbookWrite blkFLT (c1.reg Reg.FLT_FB_CNT)

/-- Writes consecutive records from byte `off`. Record `k` of them, if given, fails its read-back twice: the
records before it are written, it holds its old or its new content, and those after it are not written (R529).
The answer says whether all went well. -/
def Chip.fbWrite (c : Chip) (off : Nat) (b : List Byte) (bad : Option Nat) : Chip × Bool :=
  match bad with
  | none => ({ c with sys := { c.sys with fieldBook := memWrite c.sys.fieldBook off b } }, true)
  | some k =>
    if 64 * k < b.length then
      let f := c.free
      let n := 64 * (if f.1.getLsbD 0 then k + 1 else k)
      let c1 := f.2
      ({ c1 with sys := { c1.sys with fieldBook := memWrite c1.sys.fieldBook off (b.take n) } }.fbError, false)
    else ({ c with sys := { c.sys with fieldBook := memWrite c.sys.fieldBook off b } }, true)

end Sys2Proof.Machine
end

