-- ==== Sys2Proof/Machine/DatumOps.lean ====
section
/-! DEFINITION. The datum: references and their monitors (R308 to R315), the benchmark (R316 to R319), the datum
states (R320, R321), holdover (R322 to R327), steps (R331, R332) and the time counter (R333 to R338). -/
namespace Sys2Proof.Machine
open Sys2Proof

/-! ## Registers and monitors of a reference -/

def refCFG (r : Nat) : Nat := 0x40000000 + 32 * r
def refWIN (r : Nat) : Nat := 0x40000004 + 32 * r
def refSTAT (r : Nat) : Nat := 0x40000008 + 32 * r
def refFREQ (r : Nat) : Nat := 0x4000000C + 32 * r
def refCNT (r : Nat) : Nat := 0x40000010 + 32 * r

def mon0 : Nat → RefMon := fun _ => RefMon.reset
def Chip.mon (c : Chip) (r : Nat) : RefMon := Map.get mon0 c.dtm.refs r
def Chip.setMon (c : Chip) (r : Nat) (m : RefMon) : Chip := { c with dtm := { c.dtm with refs := Map.put mon0 c.dtm.refs r m } }

def Chip.refEn (c : Chip) (r : Nat) : Bool := c.regBit (refCFG r) 31
def Chip.refRank (c : Chip) (r : Nat) : Nat := c.regFld (refCFG r) 30 28
def Chip.refQual (c : Chip) (r : Nat) : Bool := c.regBit (refSTAT r) 31

/-- DTM_STATE.STATE: 0 FREE_RUN, 1 ACQUIRING, 2 LOCKED, 3 HOLDOVER, 4 LOST. -/
def Chip.dState (c : Chip) : Nat := c.regFld Reg.DTM_STATE 2 0

/-- The benchmark; 31 for none. -/
def Chip.bench (c : Chip) : Nat := c.regFld Reg.DTM_STATE 12 8

/-- An event of DTM: bits 0 to 7 always signal vector 9, bits 8 and 9 by the level of their class (R340). -/
def Chip.dtmEvent (c : Chip) (i : Nat) : Chip :=
  c.event Reg.DTM_EVENT i 9 (decide (i < 8) || (decide (i = 8) && decide (1 ≤ c.level 9)) || (decide (i = 9) && decide (1 ≤ c.level 10)))

/-- A DATUM_UNLOCK (R321, R325). -/
def Chip.datumUnlock (c : Chip) : Chip :=
  let c1 := (c.bump Reg.DTM_UNLOCK_CNT).dtmEvent 9
  c1.raise .datumUnlock blkDTM (c1.reg Reg.DTM_UNLOCK_CNT)

/-! ## The correction -/

/-- ±200 ppm in ppt (R305). -/
def corrLimit : Int := 200000000

/-- 10 s in TIME clocks. -/
def tenSec : Nat := 5000000000

/-- A value joins a history at clock `now`; of the values that began 10 s before or earlier one is kept. -/
def histPush (now : Nat) (v : Int) (l : List (Nat × Int)) : List (Nat × Int) :=
  let l := l.dropWhile (fun e => e.1 == now)
  let recent := l.takeWhile (fun e => decide (now < e.1 + tenSec))
  (now, v) :: recent ++ (l.drop recent.length).take 1

/-- The sum of value times clocks from clock `lo` to clock `hi`, and the clocks it covers. -/
def histSum (lo : Nat) : Nat → List (Nat × Int) → Int × Nat
  | _, [] => (0, 0)
  | hi, (t, v) :: r =>
    let from_ := max lo t
    let x := histSum lo (min hi from_) r
    (v * ((hi - from_ : Nat) : Int) + x.1, hi - from_ + x.2)

/-- The mean of a history over the 10 s before clock `now`. -/
def histMean (now : Nat) (l : List (Nat × Int)) : Int :=
  let x := histSum (now - tenSec) now l
  if x.2 = 0 then (l.head?.map (fun e => e.2)).getD 0 else roundEven x.1 x.2

/-- A new INC, ignored outside 2 ns ± 500 ppm (R333, R334). -/
def Chip.setInc (c : Chip) (inc : Nat) : Chip :=
  let nom : Int := 0x20000000000
  let ok := decide (((inc : Int) - nom).natAbs * 1000000 ≤ nom.natAbs * 500)
  let v := if ok then inc else c.dtm.inc
  (({ c with dtm := { c.dtm with inc := v } }).setReg Reg.DTM_TIME_INC_LO (BitVec.ofNat 32 v)).setReg Reg.DTM_TIME_INC_HI
    (BitVec.ofNat 32 (v / 2 ^ 32))

/-- Without a PTP master and with PPS10M not qualified, the executive sets INC to follow c, so that the counter counts a nominal
tick in every tick (R335). -/
def Chip.followInc (c : Chip) : Chip :=
  if c.execLive && c.net.ptp.master.isNone && !c.refQual 4 then
    c.setInc (roundEven (0x20000000000 * (10 ^ 14 + c.dtm.corr)) (10 ^ 14)).toNat
  else c

/-- Sets the correction c, in 0.01 ppt and held at ±200 ppm; DTM_FREQ shows it in ppt (R305). -/
def Chip.setCorr (c : Chip) (v : Int) : Chip :=
  let w := clampInt (-100 * corrLimit) (100 * corrLimit) v
  ((({ c with dtm := { c.dtm with corr := w, corrs := histPush c.dtm.clocks w c.dtm.corrs } }).setReg Reg.DTM_FREQ
    (BitVec.ofInt 32 (roundEven w 100))).setBit Reg.DTM_STATE 15 (decide (w ≠ v))).followInc

/-- The temperature used and its source: 0 the XO sensor, 1 the die sensor, in 1/256 °C (R324). -/
def Chip.tempUsed (c : Chip) : Int × Nat :=
  if !c.regBit Reg.DTM_CTRL 11 && c.regFld Reg.DTM_CTRL 23 17 != 0 && c.dtm.xoRead then
    (((c.reg Reg.DTM_TEMP).setWidth 16).toInt, 0)
  else ((((c.reg Reg.DTM_TEMP) >>> 16).setWidth 16).toInt, 1)

/-- y(T, t) of the model in 0.01 ppt, rounded to the nearest (R322, R324). -/
def Chip.predict (c : Chip) : Int :=
  let m := c.dtm.model
  let t := c.tempUsed
  let dt := t.1 - m.t0.toInt
  let sec : Int := (c.dtm.time.sec.toNat : Int) - m.epoch.toNat
  let c1 := if t.2 = m.tsrc then m.c1.toInt else 0
  let c2 := if t.2 = m.tsrc then m.c2.toInt else 0
  roundEven ((m.f0.toInt * 65536 * 100 + c1 * dt * 256 * 100 + c2 * dt * dt) * 86400 + m.age.toInt * sec * 65536 * 100)
    (65536 * 86400)

/-- DTM_STATE.TEMP_MISMATCH, and the history of the temperature used (R323, R324). -/
def Chip.tempFlag (c : Chip) : Chip :=
  ({ c with dtm := { c.dtm with temps := histPush c.dtm.clocks c.tempUsed.1 c.dtm.temps } }).setBit Reg.DTM_STATE 7
    (c.dtm.model.valid && c.tempUsed.2 != c.dtm.model.tsrc)

/-- Evaluates the correction of FREE_RUN and HOLDOVER (R320, R322, R325). -/
def Chip.evalCorr (c0 : Chip) : Chip :=
  let c := c0.tempFlag
  let a := 100 * c.dtm.freqAdj
  if c.dState = 0 then c.setCorr ((if c.dtm.model.valid then -c.predict else 0) + a)
  else if c.dState = 3 then c.setCorr ((if c.dtm.holdMean then c.dtm.mean else -c.predict) + a)
  else c

/-- The correction that the loop drives to after a phase sample: the spec gives the loop's type and bandwidth
only, so it is a free value (R307, log entry 4). -/
def Chip.loopCorr (c : Chip) : Chip :=
  let f := c.free
  let g := f.2.free
  g.2.setCorr (100 * f.1.toInt + (g.1.toNat % 100 : Nat))

/-! ## The fit of the holdover model (R323) -/

/-- b to the power n of a fraction in 2⁻⁶⁴. -/
def powFix : Nat → Nat → Nat → Nat → Nat
  | 0, _, _, a => a
  | k + 1, n, b, a => powFix k (n / 2) (b * b / 2 ^ 64) (if n % 2 = 1 then a * b / 2 ^ 64 else a)

/-- The weight of a record that is `dt` seconds old, in 2⁻⁶⁴: e to the −dt over 7 days. -/
def forget (dt : Nat) : Nat := powFix 32 dt 18446713573165862076 (2 ^ 64)

/-- The determinant of an n by n matrix. -/
def det : Nat → List (List Int) → Int
  | 0, _ => 1
  | _ + 1, [] => 0
  | n + 1, row :: rest =>
    (List.range (n + 1)).foldl (fun s j =>
      s + (if j % 2 = 0 then 1 else -1) * row.getD j 0 * det n (rest.map (fun r => r.eraseIdx j))) 0

/-- The weighted least squares fit of y to n regressors: numerators of the coefficients, and their positive common denominator;
none where the regressors do not determine them. A point is its weight, its regressors and y. -/
def leastSquares (n : Nat) (pts : List (Nat × List Int × Int)) : Option (List Int × Int) :=
  let sum (f : List Int × Int → Int) : Int := pts.foldl (fun s p => s + p.1 * f p.2) 0
  let x (p : List Int × Int) (i : Nat) : Int := p.1.getD i 0
  let a := (List.range n).map (fun i => (List.range n).map (fun j => sum (fun p => x p i * x p j)))
  let v := (List.range n).map (fun i => sum (fun p => x p i * p.2))
  let d := det n a
  if d = 0 then none
  else
    let s := if d < 0 then -1 else 1
    some ((List.range n).map (fun k => s * det n (a.zipIdx.map (fun r => r.1.set k (v.getD r.2 0)))), s * d)

/-- F0, C1, C2 and AGE fitted to the records at `now` seconds, with a forgetting time of 7 days (R323): all four where the
temperatures span 2 °C, else F0 and AGE, or F0 alone, with the others kept. -/
def Model.refit (m : Model) (now : Nat) : Model :=
  let wide := m.recs.any (fun a => m.recs.any (fun b => decide (512 ≤ a.temp - b.temp)))
  let pts (f : Int → Int → Int → List Int × Int) : List (Nat × List Int × Int) := m.recs.map (fun r =>
    (forget (now - r.time), f (r.temp - m.t0.toInt) ((r.time : Int) - m.epoch.toNat) (-r.corr)))
  let bv (n d : Int) : Word := BitVec.ofInt 32 (roundEven n d)
  let rest (d y : Int) : Int := 65536 * y - 100 * 256 * m.c1.toInt * d - m.c2.toInt * d * d
  let all := if wide then leastSquares 4 (pts (fun d t y => ([1, d, d * d, t], y))) else none
  match all with
  | some (k, q) => { m with f0 := bv (k.getD 0 0) (100 * q), c1 := bv (256 * k.getD 1 0) (100 * q), c2 := bv (65536 * k.getD 2 0) q,
                            age := bv (86400 * k.getD 3 0) (100 * q) }
  | none =>
    match leastSquares 2 (pts (fun d t y => ([1, t], rest d y))) with
    | some (k, q) => { m with f0 := bv (k.getD 0 0) (6553600 * q), age := bv (86400 * k.getD 1 0) (6553600 * q) }
    | none =>
      match leastSquares 1 (pts (fun d t y => ([1], 86400 * rest d y - 6553600 * m.age.toInt * t))) with
      | some (k, q) => { m with f0 := bv (k.getD 0 0) (86400 * 6553600 * q) }
      | none => m

/-- A record joins the model. DESIGN CHOICE (log entry 53): the first record gives T0 and the reference instant, and records of
another temperature source are forgotten. -/
def Model.learn (m : Model) (r : ModelRec) (src : Nat) : Model :=
  let first := m.records == 0
  let m1 := { m with
    t0 := if first then BitVec.ofInt 16 r.temp else m.t0, epoch := if first then BitVec.ofNat 64 r.time else m.epoch
    recs := r :: (if src = m.tsrc then m.recs else []), tsrc := src, learned := m.learned + 10, records := m.records + 1
    valid := m.valid || decide (360 ≤ m.records + 1) }
  m1.refit r.time

/-! ## The holdover model in the field book -/

/-- The 64-byte record of the model (R326). -/
def Model.record (m : Model) : List Byte :=
  withCrcHead (leBytes 4 0x4C444F48 ++ leBytes 2 1 ++ [BitVec.ofNat 8 m.tsrc] ++ leBytes 1 (ofFlag m.valid) ++
    leBytes 4 m.f0.toNat ++ leBytes 4 m.c1.toNat ++ leBytes 4 m.c2.toNat ++ leBytes 4 m.age.toNat ++ leBytes 2 m.t0.toNat ++
    [0, 0] ++ leBytes 8 m.epoch.toNat ++ leBytes 4 m.learned.toNat) 64

/-- Reads a model record; none when it is invalid. -/
def Model.ofRecord (b : List Byte) : Option Model :=
  if decide (leField b 0 4 = 0x4C444F48) && decide (leField b 4 2 = 1) && crcHeadGood b then
    some { Model.reset with
      valid := (leField b 7 1).testBit 0, tsrc := leField b 6 1, f0 := BitVec.ofNat 32 (leField b 8 4),
      c1 := BitVec.ofNat 32 (leField b 12 4), c2 := BitVec.ofNat 32 (leField b 16 4), age := BitVec.ofNat 32 (leField b 20 4),
      t0 := BitVec.ofNat 16 (leField b 24 2), epoch := BitVec.ofNat 64 (leField b 28 8),
      learned := BitVec.ofNat 32 (leField b 36 4), records := if (leField b 7 1).testBit 0 then 360 else 0 }
  else none

/-- Where the model record and the reference block stand (R530). -/
def fbModel : Nat := 0x200
def fbRefs : Nat := 0x240

/-- Writes the model record. -/
def Chip.saveModel (c : Chip) (bad : Option Nat) : Chip × Bool := c.fbWrite fbModel c.dtm.model.record bad

/-- The references of the reference block, in order (R327). -/
def fbRefOrder : List Nat := [0, 1, 2, 3, 4, 6, 7, 8, 9, 10, 11, 12, 13, 14, 15, 16, 17]

/-- The sixteen parameter bytes of REF_CFG for a reference (R327). -/
def Chip.refParams (c : Chip) (r : Nat) : List Byte :=
  let cfg := c.reg (refCFG r)
  let win := c.reg (refWIN r)
  leBytes 1 r ++ leBytes 1 (fld cfg 27 26) ++ leBytes 1 (fld cfg 23 20) ++ leBytes 1 (if c.refEn r then fld cfg 30 28 else 0) ++
    leBytes 4 (10 * fld win 15 0) ++ leBytes 4 (10 * fld win 31 16) ++ leBytes 4 (100 * fld cfg 12 0)

/-- The reference block (R327). -/
def Chip.refBlock (c : Chip) : List Byte :=
  withCrcHead (fbRefOrder.flatMap c.refParams ++ leBytes 4 0x53464552 ++ leBytes 2 1) 320

/-! ## Datum states -/

/-- Enters a datum state (R320, R321, R325, R326, R328). `byBench`: a change of benchmark causes it. -/
def Chip.enterDatum (c : Chip) (s : Nat) (byBench : Bool) : Chip :=
  let old := c.dState
  if old = s then c
  else
    let c1 := (c.setFld Reg.DTM_STATE 2 0 s).dtmEvent 0
    let c2 := if old = 3 then (c1.setReg Reg.DTM_HOLD_SEC 0).setBit Reg.DTM_STATE 6 false else c1
    let c3 := if (old = 2 ∧ (s = 3 ∨ s = 1) ∧ !byBench) ∨ s = 4 then c2.datumUnlock else c2
    if s = 1 then { c3 with dtm := { c3.dtm with freqAdj := 0, lockTicks := 0 } }
    else if s = 3 then
      let c4 := { c3 with dtm := { c3.dtm with holdMean := !c3.dtm.model.valid, mean := histMean c3.dtm.clocks c3.dtm.corrs } }
      (c4.saveModel none).1.evalCorr
    else c3.evalCorr

/-! ## The phase target (R319) -/

/-- The remainder of the step. -/
def Chip.stepLeft (c : Chip) : Int := (c.reg Reg.DTM_STEP_LEFT).toInt

/-- Stores the remainder; STEPPING shows whether it is 0, and STEP_DONE is set where it reaches 0 (R331). -/
def Chip.setStep (c : Chip) (v : Int) : Chip :=
  let c1 := (c.setReg Reg.DTM_STEP_LEFT (BitVec.ofInt 32 v)).setBit Reg.DTM_STATE 13 (decide (v ≠ 0))
  if c.stepLeft ≠ 0 ∧ v = 0 then c1.dtmEvent 3 else c1

/-- The datum aligns its boundaries to a grid (R319). -/
def Chip.onGrid (c : Chip) : Bool := c.regBit Reg.DTM_CTRL 12 && (c.bench == 4 || c.bench == 5)

/-- Units of 2⁻⁴⁰ ns in a second. -/
def unitsPerSec : Nat := 1000000000 * 2 ^ 40

def Time.units (t : Time) : Nat := (t.sec.toNat * 1000000000 + t.ns.toNat) * 2 ^ 40 + t.frac.toNat

/-- How late the last boundary was against the grid, in 2⁻⁴⁰ ns and modulo a tick period: for PTP by the time counter, for PPS10M by the
last PPS_IN edge (R319). -/
def Chip.gridPhase (c : Chip) : Option Int :=
  if c.bench = 5 then some (c.dtm.bound.units : Int) else c.dtm.ppsPhase.map (fun p => -(p : Int))

/-- The alignment: what is left of the way to the nearest point of the grid, in whole nanoseconds, joins the remainder of the
step, and the grid is the target. Where no PPS_IN edge shows the grid yet, the alignment waits for one. -/
def Chip.alignGrid (c : Chip) : Chip :=
  match c.gridPhase, c.eng.rate with
  | some p, some r =>
    let x := Int.emod ((p + c.stepLeft * 2 ^ 40) * r.hz) unitsPerSec
    let y := if (unitsPerSec : Int) < 2 * x then x - unitsPerSec else x
    let c1 := c.setStep (c.stepLeft - roundEven y (r.hz * 2 ^ 40))
    { c1 with dtm := { c1.dtm with target := some 0, alignDue := false } }
  | _, _ => { c with dtm := { c.dtm with alignDue := true } }

/-- Boundaries of a new rate stand anew: an alignment that holds is made again. -/
def Chip.realign (c : Chip) : Chip := if c.onGrid && (c.dState == 1 || c.dState == 2) then c.alignGrid else c

/-- A standby in SYNCED takes the owner's boundaries as its phase target (R456). -/
def Chip.follows (c : Chip) : Bool := c.pairEn && c.synced && !c.pair.owner

/-- PHASE_ERR of a phase sample: the phase to the target, of which the remainder of a step is still to come. The first sample of
a benchmark measures its target; the target of a standby in SYNCED lies PAIR_PHASE after its own boundaries (R319, R329, R456). -/
def Chip.phaseSample (c : Chip) (phase : Int) : Chip :=
  let left := 4 * c.stepLeft
  let t := if c.follows then phase + left + (c.reg Reg.PAIR_PHASE).toInt else match c.dtm.target with
    | some t => t
    | none => phase + left
  ({ c with dtm := { c.dtm with target := some t } }).setReg Reg.DTM_PHASE_ERR (BitVec.ofInt 32 (phase + left - t))

/-- The errors of the lock lie within their limits: LOCK_NS, and 10 ppb of the benchmark's frequency (R320). -/
def Chip.lockNear (c : Chip) : Bool :=
  decide ((c.reg Reg.DTM_PHASE_ERR).toInt.natAbs ≤ 4 * c.regFld Reg.DTM_LOCK_CFG 15 0) &&
  decide ((c.dtm.corr - 100 * (c.reg (refFREQ c.bench)).toInt).natAbs ≤ 1000000)

/-- An error outside its limit starts LOCK_TIME anew. -/
def Chip.lockCheck (c : Chip) : Chip := if c.lockNear then c else { c with dtm := { c.dtm with lockTicks := 0 } }

/-- A tick of the lock passes. -/
def Chip.lockTick (c : Chip) : Chip :=
  { c with dtm := { c.dtm with lockTicks := if c.dState = 1 ∧ c.lockNear = true then c.dtm.lockTicks + 1 else 0 } }

/-- The errors have lain within their limits throughout LOCK_TIME, counted in ticks (R320). -/
def Chip.lockHeld (c : Chip) : Bool :=
  match c.eng.rate with
  | some r => decide (ceilDiv (c.regFld Reg.DTM_LOCK_CFG 25 16 * r.hz) 10 ≤ c.dtm.lockTicks)
  | none => false

/-- The benchmark becomes `b`, or none as 31 (R319, R320, R321). In FREE_RUN and HOLDOVER a benchmark chosen again is acquired
anew. -/
def Chip.setBench (c : Chip) (b : Nat) : Chip :=
  let s := c.dState
  if c.bench = b ∧ (b = 31 ∨ s = 1 ∨ s = 2) then c
  else
    let c0 := if c.bench = b then c else (c.setFld Reg.DTM_STATE 12 8 b).dtmEvent 1
    let c1 := ({ c0 with dtm := { c0.dtm with target := none, alignDue := false } }).setReg Reg.DTM_PHASE_ERR 0
    if b = 31 then (if s = 1 ∨ s = 2 then c1.enterDatum 3 false else c1)
    else
      let c2 := (c1.setCorr (100 * (c1.reg (refFREQ b)).toInt)).enterDatum 1 true
      let c3 := { c2 with dtm := { c2.dtm with lockTicks := 0 } }
      if c3.onGrid then c3.alignGrid else c3

/-! ## The selector -/

/-- The qualified references of the best rank (R316). -/
def Chip.bestRefs (c : Chip) : List Nat :=
  let q := (List.range 18).filter (fun r => c.refEn r && c.refQual r && decide (1 ≤ c.refRank r))
  let best := q.foldl (fun m r => min m (c.refRank r)) 8
  q.filter (fun r => c.refRank r == best)

/-- The offset of a reference in ppt. -/
def Chip.refOff (c : Chip) (r : Nat) : Int := (c.reg (refFREQ r)).toInt

/-- Two of the references differ by more than DISAGREE_PPB (R316, R318). -/
def Chip.disagree (c : Chip) (l : List Nat) : Bool :=
  l.any (fun a => l.any (fun b => decide ((c.regFld Reg.DTM_SEL_CFG 19 0 : Int) * 1000 < c.refOff a - c.refOff b)))

/-- The reference nearest to the model's prediction; the lowest number of several. -/
def Chip.nearest (c : Chip) (l : List Nat) : Option Nat :=
  let y := c.predict
  l.foldl (fun (b : Option Nat) r =>
    match b with
    | none => some r
    | some k => if (100 * c.refOff r - y).natAbs < (100 * c.refOff k - y).natAbs then some r else some k) none

/-- The benchmark the selector chooses; 31 for none (R316). -/
def Chip.choose (c : Chip) : Nat :=
  let l := c.bestRefs
  if l.contains c.bench then c.bench
  else if c.disagree l && c.dtm.model.valid then (c.nearest l).getD 31
  else (l.head?).getD 31

/-- The selector runs (R317); not while the datum is LOST, when the references are not monitored (R320). -/
def Chip.select (c : Chip) : Chip := if c.dState = 4 then c else c.setBench c.choose

/-- DISAGREE at the end of a gate (R318). -/
def Chip.markDisagree (c : Chip) : Chip :=
  let d := c.disagree c.bestRefs
  let c1 := c.setBit Reg.DTM_STATE 4 d
  if d && !c.regBit Reg.DTM_STATE 4 then c1.dtmEvent 2 else c1

/-! ## Qualification -/

/-- The qualification time starts anew. -/
def Chip.requal (c : Chip) (r : Nat) : Chip := c.setFld (refSTAT r) 12 0 (c.regFld (refCFG r) 12 0)

/-- A qualified reference is disqualified for a cause, without a run of the selector; by a monitor it counts REF_LOST (R314). -/
def Chip.unqualify (c : Chip) (r cause : Nat) (byMonitor : Bool) : Chip :=
  let c0 := c.requal r
  if c0.refQual r then
    let c1 := (c0.setBit (refSTAT r) 31 false).setFld (refSTAT r) 27 24 cause
    if byMonitor then
      let d := ((c1.bump Reg.DTM_LOST_CNT).setFld Reg.DTM_LOST_CNT 20 16 r).dtmEvent 8
      d.raise .refLost blkDTM (d.reg Reg.DTM_LOST_CNT)
    else c1
  else c0

/-- The selector runs when the benchmark is no longer qualified (R317). -/
def Chip.reselect (c : Chip) (r : Nat) : Chip := if c.bench = r && !c.refQual r then c.select else c

/-- A reference is disqualified, and the selector runs if it was the benchmark (R314, R317). -/
def Chip.disqualify (c : Chip) (r cause : Nat) (byMonitor : Bool) : Chip := (c.unqualify r cause byMonitor).reselect r

/-- The activity monitor of a reference trips (R312). -/
def Chip.tripRef (c : Chip) (r : Nat) : Chip :=
  ((c.setMon r { c.mon r with tripped := true }).setBit (refSTAT r) 30 false).disqualify r 1 true

/-- An accepted edge of reference `r`, or of its PPS_IN, ends a run of missing ones; the monitor is no longer tripped when neither
of its edges is missing (R312). -/
def Chip.edgeSeen (c : Chip) (r : Nat) (pps : Bool) : Chip :=
  let m := c.mon r
  let m1 := if pps then { m with runPps := 0 } else { m with run := 0 }
  let trip := decide (4 ≤ m1.run) || decide (4 ≤ m1.runPps)
  (c.setMon r { m1 with tripped := trip }).setBit (refSTAT r) 30 (!trip)

/-- A reference is disabled, without a run of the selector (R310, R314). -/
def Chip.refOff1 (c : Chip) (r cause : Nat) : Chip :=
  let c1 := (c.setBit (refCFG r) 31 false).unqualify r cause false
  (c1.setMon r RefMon.reset).modReg (refSTAT r) (fun x => putFld (putFld x 31 28 0) 27 24 cause)

/-- A reference is disabled (R314, R317). -/
def Chip.refDisable (c : Chip) (r cause : Nat) : Chip := (c.refOff1 r cause).reselect r

/-- A reference is enabled: its monitors and its qualification start. -/
def Chip.refStart (c : Chip) (r : Nat) : Chip :=
  (((c.setBit (refCFG r) 31 true).setMon r RefMon.reset).modReg (refSTAT r) (fun x => putFld (putFld x 31 28 0) 30 30 1)).requal r

/-- A RANK takes effect; 0 disables the reference (R314, DTM_REF_CFG). -/
def Chip.setRank (c : Chip) (r v : Nat) : Chip :=
  let c1 := c.setFld (refCFG r) 30 28 v
  if v = 0 && c1.refEn r then c1.refDisable r 5 else c1

/-- The 48 kHz family governs: that of the new rate while a SET_RATE is in progress (R309). -/
def Chip.family48 (c : Chip) : Bool :=
  match c.eng.change with
  | some k => k.rate.fam48
  | none => !c.regBit Reg.DTM_STATE 14

/-- The receiver that a reference of 6 to 17 needs is enabled (R309). -/
def Chip.refReceiver (c : Chip) (r : Nat) : Bool :=
  if 6 ≤ r ∧ r < 14 then c.regBit (Reg.SAP_AESRX_CFG (r - 6)) 31
  else if 14 ≤ r then c.regBit (Reg.SAP_MADIRX_CFG (r - 14)) 31
  else true

/-- The nominal rate code is one that the table of R308 accepts. -/
def rateAccepted (r code : Nat) : Bool :=
  if r = 4 ∨ r = 5 then code == 0
  else if 14 ≤ r then decide (1 ≤ code) && decide (code ≤ 4)
  else decide (1 ≤ code) && decide (code ≤ 6)

/-- The enable check of a reference (R309). -/
def Chip.refCheck (c : Chip) (r : Nat) : Nat :=
  let cfg := c.reg (refCFG r)
  let win := c.reg (refWIN r)
  let code := fld cfg 23 20
  let fam := if r = 4 ∨ r = 5 then true else
    match Rate.ofCode code with
    | some x => x.fam48 == c.family48
    | none => false
  firstFail [(rateAccepted r code, rRefRate), (fam, rRefRate), (c.refReceiver r, rRefRate), (decide (fld cfg 30 28 ≠ 0), rLimits),
    (decide (fld win 15 0 < fld win 31 16), rLimits),
    (decide (1 ≤ fld win 15 0) && decide (fld win 31 16 ≤ 20000) && decide (1 ≤ fld cfg 12 0) && decide (fld cfg 12 0 ≤ 6000), rLimits)]

/-- EN of a reference is written to 1 (R295, R296): the result of the check stands in DTM_REASON. -/
def Chip.refEnable (c : Chip) (r : Nat) : Chip :=
  if c.refEn r then c
  else
    let k := c.refCheck r
    let c1 := c.setReg Reg.DTM_REASON (putFld (putFld 0 20 16 r) 15 0 k)
    if k = rOK then c1.refStart r else c1

/-- Writes the parameters of REF_CFG into the registers of a reference. -/
def Chip.putRefParams (c : Chip) (q : Req) : Chip :=
  let r := q.p 0 1
  let c1 := c.modReg (refCFG r) (fun x => putFld (putFld (putFld x 27 26 (q.p 1 1)) 23 20 (q.p 2 1)) 12 0 (q.p 12 4 / 100))
  (c1.setReg (refWIN r) (putFld (putFld 0 31 16 (q.p 8 4 / 10)) 15 0 (q.p 4 4 / 10))).setRank r (q.p 3 1)

/-- At boundary T+64 of a SET_RATE into the other family, references of the old family become disabled (R310); the selector
runs after the relock. -/
def Chip.refFamily (c : Chip) (fam48 : Bool) : Chip :=
  (List.range 18).foldl (fun c r =>
    match Rate.ofCode (c.regFld (refCFG r) 23 20) with
    | some x =>
      if c.refEn r && x.fam48 != fam48 then
        ((c.refOff1 r 6).setReg Reg.DTM_REASON (putFld (putFld 0 20 16 r) 15 0 rRefRate)).dtmEvent 7
      else c
    | none => c) c

/-! ## The time counter -/

/-- A time from a number of units, modulo 2⁴⁸ seconds. -/
def Time.ofUnits (n : Int) : Time :=
  let u := (n.emod (2 ^ 48 * unitsPerSec : Nat)).toNat
  { sec := BitVec.ofNat 48 (u / unitsPerSec), ns := BitVec.ofNat 32 (u / 2 ^ 40 % 1000000000), frac := BitVec.ofNat 40 u }

/-- `n` TIME clocks pass (R333). -/
def Chip.timePass (c : Chip) (n : Nat) : Chip :=
  { c with dtm := { c.dtm with
      time := Time.ofUnits (c.dtm.time.units + n * c.dtm.inc : Nat)
      clocks := c.dtm.clocks + n
      sinceSwitch := c.dtm.sinceSwitch.map (fun s => s + 2 * n) } }

/-- Adds signed nanoseconds to the counter (R334). -/
def Chip.timeAdd (c : Chip) (ns : Int) : Chip :=
  { c with dtm := { c.dtm with time := Time.ofUnits (c.dtm.time.units + ns * 2 ^ 40) } }

/-- At a PPS_IN edge without a PTP master and with PPS10M qualified, the executive steers the nanoseconds to 0 (R335). DESIGN
CHOICE (log entry 52): with one adjustment to the nearest whole second. -/
def Chip.steerPps (c : Chip) : Chip :=
  if c.execLive && c.net.ptp.master.isNone && c.refQual 4 then
    let n := c.dtm.pps.at_.ns.toInt
    let v := if 500000000 ≤ n then 1000000000 - n else -n
    (c.setReg Reg.DTM_TIME_ADJ (BitVec.ofInt 32 v)).timeAdd v
  else c

/-- DTM_MEDIA_OFF as the executive sets it from the counter at the last boundary; a standby in SYNCED takes its owner's
(R338, R454). -/
def Chip.mediaFromTime (c : Chip) : Chip :=
  if c.follows then c
  else match c.eng.rate with
  | some r =>
    let m := roundEven (c.dtm.bound.units * r.hz : Nat) (unitsPerSec : Nat) - c.tickN
    { c with dtm := { c.dtm with mediaNext := some (BitVec.ofInt 64 m) } }
  | none => c

/-- A capture of the counter with quarter nanoseconds (R337). -/
def Chip.capture (c : Chip) (start : Bool) (eighth : Nat) : Chip :=
  let t := Time.ofUnits (c.dtm.time.units + eighth * 2 ^ 38 : Nat)
  let old := if start then c.dtm.start else c.dtm.pps
  let hi := if start then Reg.DTM_START_SEC_HI else Reg.DTM_PPS_SEC_HI
  let k : Capture := { at_ := t, unread := true }
  let c1 := { c with dtm := if start then { c.dtm with start := k } else { c.dtm with pps := k } }
  let c2 := (c1.setReg (if start then Reg.DTM_START_NS else Reg.DTM_PPS_NS) t.ns).setBit hi 30 true
  (if old.unread then c2.setBit hi 31 true else c2).dtmEvent (if start then 5 else 4)

/-! ## Steps -/

/-- The nominal tick period times 10⁹, and the limits of R331 in whole nanoseconds. -/
def shortMax (r : Rate) : Int := (19 * 1000000 / r.hz : Nat)
def longMax (r : Rate) : Int := (249 * 1000000 / r.hz : Nat)

/-- The share of a remainder that one tick takes, negative when the tick is shortened (R331). -/
def stepShare (r : Rate) (left : Int) : Int :=
  if left < 0 then max left (-(shortMax r)) else min left (longMax r)

/-- The tick that begins takes its share of the remainder; within 20 µs of a REFSEL switch none shortens (R332). -/
def Chip.planStep (c : Chip) : Chip :=
  let hold : Bool := match c.dtm.sinceSwitch with
    | some t => decide (t ≤ 20000)
    | none => false
  let share := match c.eng.rate with
    | some r => if c.stepLeft < 0 && hold then 0 else stepShare r c.stepLeft
    | none => 0
  { c with dtm := { c.dtm with planned := share } }

/-- A boundary: the ended tick's share is in force, and the new tick takes its share (R331, R332). -/
def Chip.stepTick (c : Chip) : Chip :=
  (if c.dtm.planned ≠ 0 then c.setStep (c.stepLeft - c.dtm.planned) else c).planStep

/-- A REFSEL switch withdraws the shortening planned for the tick in progress (R332). -/
def Chip.refselSwitch (c : Chip) : Chip :=
  { c with dtm := { c.dtm with sinceSwitch := some 0, planned := if c.dtm.planned < 0 then 0 else c.dtm.planned } }

/-- The number of ticks in which a remainder is spread (R331). -/
def stepTicks (r : Rate) (left : Int) : Nat :=
  if left < 0 then ceilDiv left.natAbs (shortMax r).natAbs else ceilDiv left.natAbs (longMax r).natAbs

/-- The limit of a remainder (R330). -/
def stepLimit : Int := 1000000000

/-- A remainder after `n` more ticks. -/
def stepAfter (r : Rate) (left : Int) (n : Nat) : Int :=
  if left < 0 then min 0 (left + n * shortMax r) else max 0 (left - n * longMax r)

/-- The remainders that steps leave at their effect ticks, from a remainder at tick `now` (R330, R331). -/
def stepRun (r : Rate) : Nat → Int → List (Nat × Int) → List (Nat × Int)
  | _, _, [] => []
  | now, left, (t, s) :: rest =>
    let l := stepAfter r left (t - now) + s
    (t, l) :: stepRun r t l rest

/-- The DATUM_STEPs accepted, by effect tick. -/
def Chip.stepsDue (c : Chip) : List (Nat × Int) :=
  ((sortSched c.cmd.sched).filter (fun s => s.op == 0x0705)).map (fun s => (s.tick, (BitVec.ofNat 32 ((parseReq s.req).p 0 4)).toInt))

/-- The remainders at a new step's tick and at those of every later step, were a step of `s` to take effect at tick `t`. -/
def Chip.stepsWith (c : Chip) (t : Nat) (s : Int) : List (Nat × Int) :=
  let l := insertBy (fun e => e.1) (t, s) c.stepsDue
  match c.eng.rate with
  | some r => (stepRun r c.tickN c.stepLeft l).drop (c.stepsDue.filter (fun e => decide (e.1 ≤ t))).length
  | none => [(t, c.stepLeft + s)]

end Sys2Proof.Machine
end

