-- ==== Sys2Proof/Machine/SapOps.lean ====
section
/-! DEFINITION. Serial ports: enable checks (R368, R379, R380), the common start (R369 to R373), receivers and slip
buffers (R374 to R378), transmitters (R379, R382) and the inputs of a tick (R169, R363). -/
namespace Sys2Proof.Machine
open Sys2Proof

def rx0 : Nat → Rx := fun _ => Rx.reset
def tx0 : Nat → TxPort := fun _ => TxPort.reset
def tdm0 : Nat → TdmPort := fun _ => TdmPort.reset
def Chip.rx (c : Chip) (k : Nat) : Rx := Map.get rx0 c.sap.rxs k
def Chip.setRx (c : Chip) (k : Nat) (v : Rx) : Chip := { c with sap := { c.sap with rxs := Map.put rx0 c.sap.rxs k v } }
def Chip.txPort (c : Chip) (k : Nat) : TxPort := Map.get tx0 c.sap.txs k
def Chip.setTxPort (c : Chip) (k : Nat) (v : TxPort) : Chip := { c with sap := { c.sap with txs := Map.put tx0 c.sap.txs k v } }
def Chip.tdm (c : Chip) (p : Nat) : TdmPort := Map.get tdm0 c.sap.tdm p
def Chip.setTdm (c : Chip) (p : Nat) (v : TdmPort) : Chip := { c with sap := { c.sap with tdm := Map.put tdm0 c.sap.tdm p v } }

/-- This chip drives the wired outputs (R29). -/
def Chip.owns (c : Chip) : Bool := c.pair.owner

/-- This chip follows the owner's release of a common start: its partner's heartbeats arrive with OWNER (R373). -/
def Chip.followsOwner (c : Chip) : Bool :=
  c.pairEn && !c.owns && c.pair.present && c.pair.beat.any (fun b => b.flags.testBit 0)

/-! ## Events -/

/-- An event of SAP (R391). -/
def Chip.sapEvent (c : Chip) (i : Nat) : Chip :=
  c.event Reg.SAP_EVENT i 10 (decide (2 ≤ i) || (i == 0 && decide (1 ≤ c.level 11)) || (i == 1 && decide (1 ≤ c.level 12)))

/-- One more in a counter of SAP with the port that it names. -/
def Chip.sapCount (c : Chip) (a kind i : Nat) : Chip := ((c.bump a).setFld a 31 28 kind).setFld a 27 24 i

/-- PORT_SLIP (R375, R383). -/
def Chip.slip (c : Chip) (kind i : Nat) : Chip :=
  let c1 := (c.sapCount Reg.SAP_SLIP_CNT kind i).sapEvent 0
  c1.raise .portSlip blkSAP (c1.reg Reg.SAP_SLIP_CNT)

/-- PORT_NONAUDIO (R377). -/
def Chip.nonAudio (c : Chip) (kind i : Nat) : Chip :=
  let c1 := (c.sapCount Reg.SAP_NA_CNT kind i).sapEvent 1
  c1.raise .portNonaudio blkSAP (c1.reg Reg.SAP_NA_CNT)

/-! ## Enable checks -/

/-- MCLK_MULT of its code. -/
def mclkMult (k : Nat) : Nat :=
  if k = 1 then 128 else if k = 2 then 256 else if k = 3 then 384 else if k = 4 then 512 else if k = 5 then 768
  else if k = 6 then 1024 else 0

/-- The code of an MCLK_MULT, 7 when there is none. -/
def mclkCode (n : Nat) : Nat :=
  if n = 0 then 0 else if n = 128 then 1 else if n = 256 then 2 else if n = 384 then 3 else if n = 512 then 4
  else if n = 768 then 5 else if n = 1024 then 6 else 7

/-- WIDTH and WORD of their codes. -/
def widthBits (k : Nat) : Nat := if k = 0 then 16 else if k = 1 then 24 else 32
def wordBits (k : Nat) : Nat := if k = 0 then 16 else if k = 1 then 20 else if k = 2 then 24 else 32

/-- DATUM cycles in a nominal tick (R304). -/
def dTick (r : Rate) : Nat := 2048 / r.mult

/-- C, the DATUM cycles of the tick in progress (R364). -/
def Chip.tickDatum (c : Chip) (r : Rate) : Nat :=
  (((dTick r : Nat) : Int) + roundEven (c.dtm.planned * datumHz r.fam48) 1000000000).toNat

/-- C of the tick in progress, 0 while no rate is in force. -/
def Chip.datumCycles (c : Chip) : Nat := match c.eng.rate with
  | some r => c.tickDatum r
  | none => 0

/-- Conditions 2 and 3 of R368. -/
def Chip.tdmCheck (c : Chip) (cfg : Word) : Nat :=
  let w := widthBits (fld cfg 23 22)
  let f := fld cfg 13 3
  let fits := if fld cfg 29 28 < 2 then f % 2 == 0 && decide (2 * w ≤ f) else decide (fld cfg 19 14 * w ≤ f)
  let d := match c.rateNow with
    | some r => dTick r
    | none => 2048
  firstFail [(decide (wordBits (fld cfg 21 20) ≤ w) && fits, rSlotWidth),
    (decide (2 * f ≤ d) && decide (2 * mclkMult (fld cfg 2 0) ≤ d), rDivider)]

/-- A MADI port's mode is allowed at the rate (R380). -/
def Chip.madiCheck (c : Chip) (cfg : Word) : Nat := if c.madiChans cfg = 0 ∧ c.rateNow.isSome then rSlotWidth else rOK

/-- The enable check of a port, without condition 1 of R368 (R368, R379, R380). -/
def Chip.portCheck (c : Chip) (kind i : Nat) : Nat :=
  let cfg := c.reg (portCfg kind i)
  let own := if kind = 0 then c.tdmCheck cfg else if 3 ≤ kind then c.madiCheck cfg else rOK
  firstFail [(own == rOK, own), ((c.setBit (portCfg kind i) 31 true).limitsHold, rNoResource)]

/-- SAP_REASON takes the result of a check. -/
def Chip.sapReason (c : Chip) (kind i reason : Nat) : Chip :=
  c.setReg Reg.SAP_REASON (putFld (putFld (putFld 0 31 28 kind) 27 24 i) 15 0 reason)

/-- SAP ports are force-gated (R352). -/
def Chip.sapForced (c : Chip) : Bool := c.regBit Reg.CLK_GATE_FORCE 0

/-! ## Channel status blocks -/

/-- One byte step of the CRCC of AES3: x⁸ + x⁴ + x³ + x² + 1, least significant bit first. -/
def crccBit (c : Nat) (b : Bool) : Nat :=
  let fb := (c % 2 == 1) != b
  (c / 2) ^^^ (if fb then 0xB8 else 0)

/-- The CRCC over the first 23 bytes of a block, initial value 0xFF (R379). -/
def crcc (cs : List Byte) : Nat :=
  (cs.take 23).foldl (fun c b => (List.range 8).foldl (fun c i => crccBit c (b.getLsbD i)) c) 0xFF

/-- The block sent: byte 23 is the CRCC when byte 0 bit 0 is 1 (R379). -/
def csSent (cs : List Byte) : List Byte :=
  if (leField cs 0 1).testBit 0 then bytesFrom cs 0 23 ++ leBytes 1 (crcc cs) else bytesFrom cs 0 24

/-- The block in a transmitter's registers; AES3 transmitters stand at 0 to 7, MADI ones at 8 to 11. -/
def Chip.csRegs (c : Chip) (k : Nat) : List Byte :=
  (List.range 6).flatMap (fun w => leBytes 4 (c.reg (if k < 8 then Reg.SAP_AESTX_CS k w else Reg.SAP_MADITX_CS (k - 8) w)).toNat)

/-- Writes a block into a transmitter's registers. -/
def Chip.putCs (c : Chip) (k : Nat) (b : List Byte) : Chip :=
  c.putWords (fun w => if k < 8 then Reg.SAP_AESTX_CS k w else Reg.SAP_MADITX_CS (k - 8) w) 0 (toWords (bytesFrom b 0 24))

/-! ## Start and stop of ports -/

/-- A port starts: its first frame begins at this boundary, with the masks of now and its block at the first frame
of 192 (R365, R366, R379); a MADI frame begins with MADI_FRAME_START. A receiver starts unlocked. -/
def Chip.portStart (c : Chip) (kind i : Nat) : Chip :=
  if kind = 0 then
    let s := c.setTdm i { rxMask := c.reg (Reg.SAP_TDM_RXMASK i), txMask := c.reg (Reg.SAP_TDM_TXMASK i), heard := false, early := none }
    let s1 := s.modReg Reg.CLK_SAP_GATE (fun x => putBit x i true)
    (List.range 32).foldl (fun c k => c.setIn (32 * i + k) InCh.reset) s1
  else if kind = 1 then (c.setRx i Rx.reset).setReg (Reg.SAP_AESRX_STAT i) 0
  else if kind = 3 then (c.setRx (8 + i) Rx.reset).setReg (Reg.SAP_MADIRX_STAT i) 0
  else
    let k := if kind = 2 then i else 8 + i
    c.setTxPort k { TxPort.reset with cs := csSent (c.csRegs k), frames := if kind = 2 then 1 else 0 }

/-- A port is disabled: its endpoints deliver 0 (R155), a receiver loses its lock and its buffer. -/
def Chip.portStop (c : Chip) (kind i : Nat) : Chip :=
  let c1 := c.setBit (portCfg kind i) 31 false
  if kind = 1 then (c1.setRx i Rx.reset).setReg (Reg.SAP_AESRX_STAT i) 0
  else if kind = 3 then (c1.setRx (8 + i) Rx.reset).setReg (Reg.SAP_MADIRX_STAT i) 0
  else c1

/-- EN of a port is written to 1 (R295, R296): the result of the check stands in SAP_REASON. -/
def Chip.portEnable (c : Chip) (kind i : Nat) : Chip :=
  if c.portEn kind i then c
  else
    let k := if c.sapForced then rBadState else if c.portArmed kind i then rStartArmed else c.portCheck kind i
    let c1 := c.sapReason kind i k
    if k = rOK then (c1.setBit (portCfg kind i) 31 true).portStart kind i else c1

/-! ## The common start -/

/-- The transmitters and ports of a START_ARM's masks, in order. -/
def armSet (tdm aes madi : Nat) : List (Nat × Nat) :=
  (maskBits tdm 16).map (fun i => (0, i)) ++ (maskBits aes 8).map (fun i => (2, i)) ++ (maskBits madi 4).map (fun i => (4, i))

/-- The masks of the armed set. -/
def Chip.armed (c : Chip) : List (Nat × Nat) :=
  armSet (c.regFld Reg.SAP_START_MASK 15 0) (c.regFld Reg.SAP_START_CFG 7 0) (c.regFld Reg.SAP_START_CFG 11 8)

/-- A set is armed. -/
def Chip.isArmed (c : Chip) : Bool := c.regBit Reg.SAP_START_CFG 31

/-- Takes a port out of the armed set; an empty set is disarmed (R390). -/
def Chip.leaveSet (c : Chip) (kind i : Nat) : Chip :=
  let c1 := c.setBit (portCfg kind i) 30 false
  let c2 := if kind = 0 then c1.setBit Reg.SAP_START_MASK i false
    else if kind = 2 then c1.setBit Reg.SAP_START_CFG i false
    else c1.setBit Reg.SAP_START_CFG (8 + i) false
  if c2.armed.isEmpty then { (c2.setReg Reg.SAP_START_CFG 0) with sap := { c2.sap with release := none, pulse := none, captured := none } } else c2

/-- The armed set is disarmed: no port of it stays ARMED. -/
def Chip.disarm (c : Chip) : Chip :=
  let c1 := c.armed.foldl (fun c p => c.setBit (portCfg p.1 p.2) 30 false) c
  { ((c1.setReg Reg.SAP_START_CFG 0).setReg Reg.SAP_START_MASK 0) with
    sap := { c1.sap with release := none, pulse := none, captured := none } }

/-- The armed set is released at the boundary of the tick in progress (R370). -/
def Chip.releaseSet (c : Chip) : Chip :=
  if c.isArmed then
    let set := c.armed
    let c1 := c.disarm
    let c2 := if c.sapForced then c1 else set.foldl (fun c p => (c.setBit (portCfg p.1 p.2) 31 true).portStart p.1 p.2) c1
    let c3 := (c2.setReg Reg.SAP_REL_TICK_LO (BitVec.ofNat 32 c.tickN)).setReg Reg.SAP_REL_TICK_HI (BitVec.ofNat 32 (c.tickN / 2 ^ 32))
    c3.sapEvent 4
  else c

/-! ## Receivers -/

/-- The registers of a receiver: AES3 at 0 to 7, MADI at 8 to 11. -/
def rxKind (k : Nat) : Nat := if k < 8 then 1 else 3
def rxIdx (k : Nat) : Nat := if k < 8 then k else k - 8
def rxStat (k : Nat) : Nat := if k < 8 then Reg.SAP_AESRX_STAT k else Reg.SAP_MADIRX_STAT (k - 8)
def Chip.rxEn (c : Chip) (k : Nat) : Bool := c.portEn (rxKind k) (rxIdx k)
def Chip.rxLock (c : Chip) (k : Nat) : Bool := c.regBit (rxStat k) 31
def Chip.rxPass (c : Chip) (k : Nat) : Bool := c.regBit (rxStat k) 31 && c.regBit (rxStat k) 30

/-- FILL of a receiver's STAT register. -/
def Chip.rxFill (c : Chip) (k n : Nat) : Chip :=
  if k < 8 then c.setFld (rxStat k) 20 16 n else c.setFld (rxStat k) 19 16 n

/-- A receiver loses lock: its buffer is emptied, and its reference's activity monitor trips (R312, R374, R375). -/
def Chip.rxLoseLock (c : Chip) (k : Nat) : Chip :=
  if c.rxLock k then
    let c1 := ((c.setBit (rxStat k) 31 false).setRx k { c.rx k with good := 0, bad := 0, reading := false, slip := [] }).rxFill k 0
    let c2 := c1.sapEvent 3
    if c2.refEn (6 + k) && !(c2.mon (6 + k)).tripped && c2.dState != 4 then c2.tripRef (6 + k) else c2
  else c

/-- A frame's effect on lock (R374). -/
def Chip.rxTrack (c : Chip) (k : Nat) (good : Bool) : Chip :=
  let x := c.rx k
  if good then
    let c1 := c.setRx k { x with good := x.good + 1, bad := 0 }
    if 16 ≤ x.good + 1 ∧ !c1.rxLock k then (c1.setBit (rxStat k) 31 true).sapEvent 3 else c1
  else
    let c1 := c.setRx k { x with good := 0, bad := x.bad + 1 }
    if 4 ≤ x.bad + 1 then c1.rxLoseLock k else c1

def rxCh0 : Nat → RxCh := fun _ => RxCh.reset
def rxPair0 : Nat → RxPair := fun _ => RxPair.reset

/-- The sample of a subframe: its 24 audio bits in bits 31:8 (R378, R381). -/
def frameSample (s : SubFrame) : Word := s.audio.setWidth 32 <<< 8

/-- One channel takes its subframe: an error repeats the channel's previous sample (R376), and the channel status
block grows by its bit (R377, R378). -/
def RxCh.take (x : RxCh) (s : SubFrame) : RxCh :=
  let prev := if s.err then x.prev else frameSample s
  let pos := if s.blk then some 0 else x.pos
  match pos with
  | some n =>
    let acc := if n = 0 then (if s.c then 1 else 0) else (if s.c then x.acc ||| BitVec.ofNat 192 (2 ^ n) else x.acc)
    if n = 191 then { prev := prev, pos := none, acc := acc, na := acc.getLsbD 1 }
    else { x with prev := prev, pos := some (n + 1), acc := acc }
  | none => { x with prev := prev }

/-- A pair takes its two subframes: the burst preamble of R377 in two consecutive subframes. -/
def RxPair.take (p : RxPair) (a b : SubFrame) (na : Bool) : RxPair :=
  let wa : Half := (a.audio >>> 8).setWidth 16
  let wb : Half := (b.audio >>> 8).setWidth 16
  let seen := (p.last == 0xF872 && wa == 0x4E1F) || (wa == 0xF872 && wb == 0x4E1F)
  let burst := seen || p.burst
  { burst := burst, since := if seen then 0 else p.since + 1, last := wb, muted := na || burst }

/-- A pair takes the first subframe of a frame that ends with it. -/
def RxPair.takeOne (p : RxPair) (a : SubFrame) (na : Bool) : RxPair :=
  let w : Half := (a.audio >>> 8).setWidth 16
  let seen := p.last == 0xF872 && w == 0x4E1F
  let burst := seen || p.burst
  { burst := burst, since := if seen then 0 else p.since + 1, last := w, muted := na || burst }

/-- NA_HOLD of a receiver. -/
def Chip.naHold (c : Chip) (k : Nat) : Nat := c.regFld (portCfg (rxKind k) (rxIdx k)) 15 0

/-- The channels and pairs of a receiver take the subframes of a frame, channel `i` first; parity and biphase
errors are counted, and the onset of a mute (R376, R377). -/
def Chip.rxDecode (c : Chip) (k : Nat) (i : Nat) : List SubFrame → Chip
  | a :: b :: r =>
    let x := c.rx k
    let ca := (Map.get rxCh0 x.chans i).take a
    let cb := (Map.get rxCh0 x.chans (i + 1)).take b
    let p := Map.get rxPair0 x.pairs (i / 2)
    let p1 := p.take a b (ca.na || cb.na)
    let x1 := { x with
      chans := Map.put rxCh0 (Map.put rxCh0 x.chans i ca) (i + 1) cb, pairs := Map.put rxPair0 x.pairs (i / 2) p1 }
    let c1 := c.setRx k x1
    let par (c : Chip) (e : Bool) : Chip := if e then (c.sapCount Reg.SAP_PAR_CNT (rxKind k) (rxIdx k)).sapEvent 2 else c
    let c2 := par (par c1 a.err) b.err
    let c3 := if p1.muted && !p.muted then c2.nonAudio (rxKind k) (rxIdx k) else c2
    c3.rxDecode k (i + 2) r
  | [a] =>
    let x := c.rx k
    let ca := (Map.get rxCh0 x.chans i).take a
    let p := Map.get rxPair0 x.pairs (i / 2)
    let p1 := p.takeOne a (ca.na || (Map.get rxCh0 x.chans (i + 1)).na)
    let c1 := c.setRx k { x with chans := Map.put rxCh0 x.chans i ca, pairs := Map.put rxPair0 x.pairs (i / 2) p1 }
    let c2 := if a.err then (c1.sapCount Reg.SAP_PAR_CNT (rxKind k) (rxIdx k)).sapEvent 2 else c1
    if p1.muted && !p.muted then c2.nonAudio (rxKind k) (rxIdx k) else c2
  | [] => c

/-- The samples of a frame of `n` channels as a receiver's channels hold them, 0 for an inactive one (R381). -/
def Rx.samples (x : Rx) (n : Nat) (active : Nat → Bool) : List Word :=
  (List.range n).map (fun i => if active i then (Map.get rxCh0 x.chans i).prev else 0)

/-- The frame rate that the engine expects of a receiver's port, in mHz (R374). -/
def Chip.rxExpected (c : Chip) (k : Nat) : Option Nat :=
  c.eng.rate.map (fun r => 1000 * r.hz / (if decide (8 ≤ k) && c.smux (c.reg (portCfg 3 (k - 8))) then 2 else 1))

/-- RATE_OK: the measured frame rate lies within ±0.1 % of the rate expected (R374). -/
def Chip.rxRateOk (c : Chip) (k : Nat) : Bool :=
  match c.rxExpected k with
  | some e => decide (1000 * (((c.rx k).freq : Int) - e).natAbs ≤ e)
  | none => false

/-- RATE_OK of a receiver takes its value. -/
def Chip.rxRate (c : Chip) (k : Nat) : Chip := c.setBit (rxStat k) 30 (c.rxEn k && c.rxRateOk k)

/-- A port that the end of a rate change stopped begins again (R384): its first frame is the one of the boundary that follows. A
receiver goes on following its line; its buffer starts empty. -/
def Chip.portRestart (c : Chip) (kind i : Nat) : Chip :=
  if kind = 1 ∨ kind = 3 then
    let k := if kind = 1 then i else 8 + i
    (c.setRx k { c.rx k with reading := false, slip := [], shown := [] }).rxFill k 0
  else
    let c1 := c.portStart kind i
    if kind = 2 then c1.setTxPort i { c1.txPort i with frames := 0 } else c1

/-- A decoded frame enters the slip buffer while LOCK and RATE_OK are 1 (R374, R375). -/
def Chip.rxPush (c : Chip) (k : Nat) (f : List Word) : Chip :=
  if c.rxPass k then
    let x := c.rx k
    let full := decide (8 ≤ x.slip.length)
    let q := (if full then x.slip.drop 1 else x.slip) ++ [f]
    let c1 := (c.setRx k { x with slip := q }).rxFill k q.length
    if full then c1.slip (rxKind k) (rxIdx k) else c1
  else c

/-- Presents an input endpoint channel. -/
def Chip.present (c : Chip) (ep : Nat) (v : Sample) : Chip :=
  c.setIn ep { c.inCh ep with presented := v, live := true, got := 0 }

/-- The value of channel `i` of the frame shown, 0 when its pair is muted (R377). -/
def Chip.rxValue (c : Chip) (k i : Nat) : Sample :=
  let x := c.rx k
  if (Map.get rxPair0 x.pairs (i / 2)).muted then Sample.zero else { v := x.shown.getD i 0, p := false }

/-- The first input endpoint of a receiver and its channels. -/
def rxEp (k : Nat) : Nat := if k < 8 then 0x200 + 2 * k else 0x300 + 64 * (k - 8)

/-- Takes the oldest `n` frames of the buffer and shows the last of them; none left repeats the frame shown and
counts PORT_SLIP (R375). `slip` counts a slip for a displaced frame. -/
def Chip.rxAdvance (c : Chip) (k n : Nat) : Chip :=
  let x := c.rx k
  match (x.slip.drop (n - 1)).head? with
  | some f =>
    let c1 := (c.setRx k { x with shown := f, slip := x.slip.drop n }).rxFill k (x.slip.drop n).length
    if 2 ≤ n then c1.slip (rxKind k) (rxIdx k) else c1
  | none => c.slip (rxKind k) (rxIdx k)

/-- The read decision a chip makes for itself from its fill: 0 none, 1 advance one frame, 2 repeat (R375, R455). -/
def Chip.rxDecide (c : Chip) (k : Nat) : Nat :=
  let x := c.rx k
  if !c.rxEn k || !c.rxPass k then 0
  else if !x.reading then (if 3 ≤ x.slip.length then 1 else 0)
  else if x.slip.isEmpty then 2 else 1

/-- A receiver at a boundary: it acts on its decision and presents its channels (R375, R377, R381). In S/MUX mode
a frame is taken at even boundaries and its odd channels are presented at the next. -/
def Chip.rxTick (c : Chip) (k decision : Nat) : Chip :=
  let kind := rxKind k
  let cfg := c.reg (portCfg kind (rxIdx k))
  let n := (c.portChans kind (rxIdx k)).1
  let smux := decide (8 ≤ k) && c.smux cfg
  let odd := c.tickN % 2 == 1
  let ep := rxEp k
  let zero (c : Chip) : Chip := (List.range n).foldl (fun c i => c.present (ep + i) Sample.zero) c
  if !c.rxEn k || !c.rxPass k then zero c
  else
    let due := !smux || !odd
    let c1 :=
      if due then
        (if decision = 1 then (c.setRx k { c.rx k with reading := true }).rxAdvance k 1
         else if decision = 3 then c.rxAdvance k 2
         else if decision = 2 then c.slip kind (rxIdx k) else c)
      else c
    if !(c1.rx k).reading then zero c1
    else
      (List.range n).foldl (fun c i =>
        c.present (ep + i) (c.rxValue k (if smux then 2 * i + ofFlag odd else i))) c1

/-! ## Ticks of the ports -/

/-- A TDM port at a boundary: each slot presents what was received in the tick that ended, an underrun poisons it,
and the next frame captures its masks (R363, R365 to R367, R169). Slots already received of a frame that belongs to the tick
that begins become its receptions. Of several underruns the lowest address is recorded (R199). -/
def Chip.tdmTick (c : Chip) (p : Nat) : Chip :=
  let cfg := c.reg (Reg.SAP_TDM_CFG p)
  let t := c.tdm p
  let n := tdmSlots cfg
  let c1 :=
    if c.portEn 0 p then
      (List.range n).reverse.foldl (fun c i =>
        let ep := 32 * p + i
        let x := c.inCh ep
        if !t.rxMask.getLsbD i || (!c.owns && !t.heard) then c.setIn ep { x with presented := Sample.zero, got := 0 }
        else if 0 < x.got then c.setIn ep { presented := x.receiving, receiving := x.receiving, got := 0, live := true }
        else if !x.live then c.setIn ep { x with presented := Sample.zero }
        else (c.setIn ep { x with presented := x.presented.poison }).late 3 0 (epAddr ep)) c
    else (List.range 32).foldl (fun c i => c.setIn (32 * p + i) InCh.reset) c
  let rm := c1.reg (Reg.SAP_TDM_RXMASK p)
  let c2 := if c1.portEn 0 p then
      (t.early.getD []).foldl (fun c e =>
        if rm.getLsbD e.1 then c.setIn (32 * p + e.1) { c.inCh (32 * p + e.1) with receiving := { v := e.2, p := false }, got := 1 } else c) c1
    else c1
  c2.setTdm p (if c2.portEn 0 p || c2.portArmed 0 p then
    { rxMask := rm, txMask := c2.reg (Reg.SAP_TDM_TXMASK p), heard := t.early.isSome, early := none } else TdmPort.reset)

/-- A transmitter begins a frame; a new block of channel status is taken with the first of 192 (R379, R382). -/
def Chip.txNext (c : Chip) (k : Nat) : TxPort :=
  let x := c.txPort k
  let pos := if x.frames = 0 then 0 else (x.pos + 1) % 192
  { x with pos := pos, cs := if pos = 0 then csSent (c.csRegs k) else x.cs, frames := x.frames + 1 }

/-- An AES3 transmitter begins a frame, enabled or armed (R369, R379). -/
def Chip.aesTxTick (c : Chip) (t : Nat) : Chip :=
  c.setTxPort t (if c.portEn 2 t || c.portArmed 2 t then c.txNext t else TxPort.reset)

/-- A MADI transmitter keeps the samples presented at the boundary before for its S/MUX frame (R382). -/
def Chip.madiTxTick (c : Chip) (m : Nat) : Chip :=
  if c.portEn 4 m || c.portArmed 4 m then
    c.setTxPort (8 + m) { c.txPort (8 + m) with
      before := if c.smux (c.reg (Reg.SAP_MADITX_CFG m)) then
          (List.range (c.portChans 4 m).2).map (fun i => (c.outCh (0x4300 + 64 * m + i)).presented.v) else [] }
  else c.setTxPort (8 + m) TxPort.reset

/-- The reduced numerator and denominator of 2 × n / D_tick (SAP_TDM_DIV, SAP_TDM_MDIV). -/
def Chip.divReg (c : Chip) (n : Nat) : Word :=
  match c.eng.rate with
  | some r =>
    let g := Nat.gcd (2 * n) (dTick r)
    if n = 0 then 0 else putFld (putFld 0 31 16 (2 * n / g)) 15 0 (dTick r / g)
  | none => 0

/-- The inputs of the ports for the tick that begins (R169, R375). -/
def Chip.portInputs (c : Chip) (decision : Nat → Nat) : Chip :=
  let c1 := (List.range 16).reverse.foldl (fun c p => c.tdmTick p) c
  let c2 := (List.range 12).foldl (fun c k => c.rxTick k (decision k)) c1
  let c3 := (List.range 8).foldl (fun c t => c.aesTxTick t) c2
  (List.range 4).foldl (fun c m => c.madiTxTick m) c3

/-! ## Cue ports -/

def cue0 : Nat → Cue := fun _ => Cue.reset
def Chip.cue (c : Chip) (p : Nat) : Cue := Map.get cue0 c.cues p
def Chip.setCue (c : Chip) (p : Nat) (v : Cue) : Chip := { c with cues := Map.put cue0 c.cues p v }
def Chip.cueEvent (c : Chip) (p i : Nat) : Chip := c.event Reg.CUE_EVENT (5 * p + i) 16 true

/-- This chip drives GSEL and discharges the sense lines (R389). -/
def Chip.cueDrives (c : Chip) : Bool := !c.pairEn || c.owns

/-- TYPE of a cue port becomes `t`, with ORDER and GSEL. -/
def Chip.cueType (c : Chip) (p t order gsel : Nat) : Chip :=
  let c1 := c.modReg (Reg.CUE_STAT p) (fun v => putFld (putFld (putFld v 30 28 t) 27 27 order) 26 26 gsel)
  if c.regFld (Reg.CUE_STAT p) 30 28 = t then c1 else c1.cueEvent p 2

/-- A plugged accessory is classified afresh (R387, R389). -/
def Chip.cueClassify (c : Chip) (p : Nat) : Chip :=
  ((c.setCue p { c.cue p with classMs := 0, seen := 4, run := 0, heldMs := 0 }).modReg (Reg.CUE_STAT p)
    (fun v => putFld (putFld v 21 18 0) 17 14 0)).cueType p 1 0 0

/-- The cue ports when this chip takes or gives up ownership of a pair (R389): an owner classifies a plugged accessory afresh, and
the other chip reports only PLUG. -/
def Chip.cueOwner (c : Chip) (b : Bool) : Chip :=
  if !c.pairEn then c
  else
    (List.range 2).foldl (fun c p =>
      if !c.regBit (Reg.CUE_CFG p) 31 then c
      else if b then (if c.regBit (Reg.CUE_STAT p) 31 then c.cueClassify p else c)
      else (c.setCue p { Cue.reset with detRun := (c.cue p).detRun }).modReg (Reg.CUE_STAT p) (fun v => putBit 0x3F00 31 (v.getLsbD 31))) c

end Sys2Proof.Machine
end

