-- ==== Sys2Proof/Machine/DriveOps.lean ====
section
/-! DEFINITION. The drive block: carrier selection (R421 to R423), modulation (R424), starting and stopping (R426 to
R429), the sense link (R430 to R432) and protection (R433 to R438). -/
namespace Sys2Proof.Machine
open Sys2Proof

def drvCh0 : Nat → DrvCh := fun _ => DrvCh.reset
def drvMod0 : Nat → DrvMod := fun _ => DrvMod.reset
def Chip.drvCh (c : Chip) (k : Nat) : DrvCh := Map.get drvCh0 c.drv.chans k
def Chip.setDrvCh (c : Chip) (k : Nat) (v : DrvCh) : Chip := { c with drv := { c.drv with chans := Map.put drvCh0 c.drv.chans k v } }
def Chip.modDrvCh (c : Chip) (k : Nat) (f : DrvCh → DrvCh) : Chip := c.setDrvCh k (f (c.drvCh k))
def Chip.drvMod (c : Chip) (m : Nat) : DrvMod := Map.get drvMod0 c.drv.mods m
def Chip.setDrvMod (c : Chip) (m : Nat) (v : DrvMod) : Chip := { c with drv := { c.drv with mods := Map.put drvMod0 c.drv.mods m v } }
def Chip.modDrvMod (c : Chip) (m : Nat) (f : DrvMod → DrvMod) : Chip := c.setDrvMod m (f (c.drvMod m))

/-! ## Configuration -/

def DrvMod.field (x : DrvMod) (o n : Nat) : Nat := leField x.cfg o n
def DrvMod.pilotEn (x : DrvMod) : Bool := (x.field 1 1).testBit 0
def DrvMod.loadStop (x : DrvMod) : Bool := (x.field 1 1).testBit 2
def DrvMod.pvddMin (x : DrvMod) : Nat := x.field 14 2

/-- M of a module, the carrier periods per tick. -/
def Chip.drvM (c : Chip) (m : Nat) : Nat := c.regFld (Reg.DRV_MOD_CTRL m) 27 22

/-- The state of a channel (DRV_CH_STAT). -/
def Chip.drvState (c : Chip) (k : Nat) : Nat := c.regFld (Reg.DRV_CH_STAT k) 31 28

/-- The channels of a module. -/
def modChans (m : Nat) : List Nat := (List.range 8).map (fun i => 8 * m + i)

/-- A channel enters a state; RUN shows whether it is running or ramping. -/
def Chip.drvEnter (c : Chip) (k s : Nat) : Chip :=
  (c.setFld (Reg.DRV_CH_STAT k) 31 28 s).setBit (Reg.DRV_MOD_CTRL (k / 8)) (8 + k % 8) (s == 1 || s == 2 || s == 3 || s == 6)

/-! ## Events -/

/-- A DRV event; bits 4 to 6 always signal vector 12, bits 0 to 3 by the level of their class (R442). -/
def Chip.drvEvent (c : Chip) (i : Nat) : Chip := c.event Reg.DRV_EVENT i 12 (decide (4 ≤ i) || decide (1 ≤ c.level (18 + i)))

/-- A counted drive fault of channel `k`. -/
def Chip.drvFault (c : Chip) (a k ev : Nat) (cls : FaultClass) : Chip :=
  let c1 := ((c.bump a).setFld a 21 16 k).drvEvent ev
  c1.raise cls blkDRV (c1.reg a)

def Chip.driveRail (c : Chip) (m : Nat) : Chip := c.drvFault Reg.DRV_RAIL_CNT (8 * m) 3 .driveRail

/-- An error of a sense frame (R432). -/
def Chip.senseErr (c : Chip) (m : Nat) : Chip := (c.bump Reg.DRV_SENSE_ERR).setFld Reg.DRV_SENSE_ERR 18 16 m

/-! ## The carrier (R421 to R423) -/

/-- The values of M at a rate (R421). -/
def carrierRange (r : Rate) : Nat × Nat :=
  match r with
  | .r44 => (9, 34) | .r48 => (8, 32) | .r88 => (5, 17) | .r96 => (4, 16) | .r176 => (3, 8) | .r192 => (2, 8)

/-- A carrier of `f` Hz keeps clear of every protected frequency (R423). -/
def clearOf (f guard : Nat) (prot : List Nat) : Bool :=
  (List.range 9).all (fun k => prot.all (fun p => decide (guard ≤ (((k + 1) * f : Nat) - (p : Int)).natAbs)))

/-- The protected frequencies registered. -/
def Chip.protList (c : Chip) : List Nat := (List.range (c.regFld Reg.DRV_GUARD 28 24)).map (fun i => c.regFld (Reg.DRV_PROT_F i) 24 0)

/-- The carrier a module takes at a rate (R423). -/
def Chip.carrierFor (c : Chip) (m : Nat) (r : Rate) : Option Nat :=
  let x := c.drvMod m
  let range := carrierRange r
  let pref := 1000 * x.field 2 2
  let ms := (List.range 35).filter (fun k => decide (range.1 ≤ k) && decide (k ≤ range.2) &&
    decide (1000 * x.field 4 2 ≤ k * r.hz) && decide (k * r.hz ≤ 1000 * x.field 6 2) &&
    clearOf (k * r.hz) (c.regFld Reg.DRV_GUARD 16 0) c.protList)
  let dist (k : Nat) : Nat := ((k * r.hz : Nat) - (pref : Int)).natAbs
  ms.foldl (fun (b : Option Nat) k =>
    match b with
    | none => some k
    | some j => if dist k < dist j then some k else some j) none

def Chip.senseOk (c : Chip) (m : Nat) : Bool := c.regBit (Reg.DRV_MOD_CTRL m) 29

/-- The enable check of a module (R423, R432, R34). -/
def Chip.drvCheck (c : Chip) (m : Nat) : Nat :=
  let band := match c.rateNow with
    | some r => (c.carrierFor m r).isSome
    | none => true
  firstFail [(band, rBandConflict), (c.senseOk m, rSenseAbsent), ((c.setBit (Reg.DRV_MOD_CTRL m) 31 true).limitsHold, rNoResource)]

/-- DRIVE cycles of the tick in progress: twice its DATUM cycles (R364, R422). -/
def Chip.drvCycles (c : Chip) (r : Rate) : Nat := 2 * c.tickDatum r

/-- Stores EN of a module. -/
def Chip.drvSetEn (c : Chip) (m : Nat) (b : Bool) : Chip := (c.setBit (Reg.DRV_MOD_CTRL m) 31 b).setBit Reg.DRV_STAT m b

/-- A module takes a carrier and drives DRV_EN (R426). -/
def Chip.drvOn (c : Chip) (m : Nat) : Chip :=
  match c.rateNow with
  | some r =>
    let k := (c.carrierFor m r).getD 0
    (((c.setFld (Reg.DRV_MOD_CTRL m) 27 22 k).setReg (Reg.DRV_MOD_FCARR m) (BitVec.ofNat 32 (k * r.hz / 100))).setBit
      (Reg.DRV_MOD_CTRL m) 30 true).modDrvMod m (fun x => { x with stop := 0, hold := false, period := 0 })
  | none => c

/-- Outputs and DRV_EN of a module go low; it is disabled unless its channels restart (R427, R432). -/
def Chip.drvLow (c : Chip) (m : Nat) (keep : Bool) : Chip :=
  let c1 := (c.setBit (Reg.DRV_MOD_CTRL m) 30 false).modDrvMod m (fun x => { x with stop := 0 })
  let c2 := (modChans m).foldl (fun c k => c.modDrvCh k (fun x => { x with q := 0 })) c1
  if keep then c2 else ((c2.drvSetEn m false).setFld (Reg.DRV_MOD_CTRL m) 27 22 0).setReg (Reg.DRV_MOD_FCARR m) 0

/-! ## The sense frame clock (R430) -/

/-- F, the rising edges of DRV_FCLK in a tick. -/
def fclkEdges (r : Rate) : Nat := 4 / r.mult

/-- The DRIVE edge of rising edge `i` of a tick of `c2` DRIVE cycles. -/
def fclkEdge (c2 f i : Nat) : Nat := i * c2 / f

/-- The rising edge that a frame belongs to, its tick and its number there: the most recent one before its SOF, which comes `sof`
DRIVE cycles after the boundary of the tick in progress. -/
def Chip.fclkOf (c : Chip) (sof : Nat) : Option (Nat × Nat) :=
  c.eng.rate.map (fun r =>
    let f := fclkEdges r
    match ((List.range f).filter (fun i => decide (fclkEdge (c.drvCycles r) f i < sof))).getLast? with
    | some i => (c.tickN, i)
    | none => (c.tickN - 1, f - 1))

/-! ## Starting and stopping (R426, R427) -/

/-- A channel starts; `retry` starts it at −20 dB (R426, R437). -/
def Chip.drvStart (c : Chip) (k : Nat) (retry : Bool) : Chip :=
  (c.drvEnter k (if retry then 6 else 1)).modDrvCh k (fun x =>
    { x with n := 0, retry := retry, g := 0, h := 0, out := 0, trip := false, dc := false, e1 := 0, e2 := 0, lim := 2 ^ 32, grow := 0,
             measuring := false })

/-- A module stops without the audio ramp (R427, R428, R432): from the next carrier boundary it runs 8 periods at d = 0 and goes low
at the ninth. Its running channels are remembered for their restart; a retry waits again. -/
def Chip.drvStop (c : Chip) (m : Nat) : Chip :=
  let run := (modChans m).filter (fun k => c.drvState k == 1 || c.drvState k == 2)
  let c1 := (modChans m).foldl (fun c k =>
    let s := c.drvState k
    let c1 := c.modDrvCh k (fun x => { x with g := 0, h := 0, out := 0, grow := 0, measuring := false })
    if s = 6 then (c1.drvEnter k 5).modDrvCh k (fun x => { x with waitTick := c.tickN })
    else if s = 1 ∨ s = 2 ∨ s = 3 then c1.drvEnter k 0 else c1) c
  c1.modDrvMod m (fun x => { x with stop := 9, hold := true, restart := x.restart ||| run.foldl (fun n k => n + 2 ^ (k % 8)) 0 })

/-- The channels remembered by a stop start again (R428, R432). -/
def Chip.drvRestart (c : Chip) (m : Nat) : Chip :=
  let w := (c.drvMod m).restart
  let c1 := (c.modDrvMod m (fun x => { x with restart := 0, stop := 0, hold := false })).setBit (Reg.DRV_MOD_CTRL m) 30 true
  (modChans m).foldl (fun c k => if w.testBit (k % 8) && c.drvState k == 0 then c.drvStart k false else c) c1

/-- A module whose channels are all off or latched begins the 8 periods before its stop (R427). -/
def Chip.drvIdle (c : Chip) (m : Nat) : Chip :=
  let busy := (modChans m).any (fun k => [1, 2, 3, 5, 6].contains (c.drvState k))
  if busy || (c.drvMod m).stop != 0 then c else c.modDrvMod m (fun x => { x with stop := 9, hold := false })

/-! ## Modulation (R424) -/

/-- The length of carrier period `j` of `m` in units of half a DRIVE cycle (R422). -/
def periodLen (c2 m j : Nat) : Nat := 2 * ((j + 1) * c2 / m) - 2 * (j * c2 / m)

/-- A gain of 2³² stands for 1. -/
def unity : Nat := 4294967296

/-- Carrier units (half DRIVE cycles) in a second of datum time (R421, R422). -/
def unitHz (r : Rate) : Nat := 8192 * (r.hz / r.mult)

/-- 10^(−n / 20) in 2⁻⁴⁰, its first decade. -/
def dbSteps : List Nat :=
  [1099511627776, 979940769744, 873373130350, 778394621765, 693744936887, 618300825826, 551061191066, 491133803507, 437723463125,
    390121447153, 347696105761, 309884480445, 276184833910, 246149992320, 219381411577, 195523888877, 174260849389, 155310145498,
    138420312877, 123367233708]

/-- A level of `n` dB below full scale, in 2⁻⁴⁰. -/
def dbLevel (n : Nat) : Nat := dbSteps.getD (n % 20) 0 / 10 ^ (n / 20)

/-- The terms of the sine's power series from term `t`, whose index is `k`, in 2⁻⁴⁰; `x2` is the square of the angle. -/
def sinTerms (x2 : Nat) : Nat → Nat → Nat → Int
  | 0, _, _ => 0
  | n + 1, k, t => (t : Int) - sinTerms x2 n (k + 2) (t * x2 / 2 ^ 40 / ((k + 1) * (k + 2)))

/-- The sine of a first-quadrant angle of `a` × 2⁻⁴⁰ turns, in 2⁻⁴⁰. -/
def sinQuarter (a : Nat) : Int :=
  let x := a * 6908435304715 / 2 ^ 40
  sinTerms (x * x / 2 ^ 40) 8 1 x

/-- sin(2π n / d) in 2⁻⁴⁰ (DESIGN CHOICE, log entry 11: the fraction bits kept). -/
def sinTurn (n d : Nat) : Int :=
  let a := n % d * 2 ^ 40 / d
  let q := 2 ^ 38
  let r := a % q
  let k := a / q
  if k = 0 then sinQuarter r else if k = 1 then sinQuarter (q - r) else if k = 2 then -sinQuarter r else -sinQuarter (q - r)

/-- A_pilot × sin(2π × f_pilot × t) × h in 2⁻⁶³, at `t` quarter DRIVE cycles from the pilot's start (R424). -/
def DrvCh.pilotTerm (x : DrvCh) (cfg : DrvMod) (r : Rate) (t : Nat) : Int :=
  Int.fdiv (x.h * (dbLevel (cfg.field 28 1) : Int) * sinTurn (cfg.field 24 4 * t) (200 * unitHz r)) (2 ^ 49)

/-- ln 10 in 2⁻⁶⁴. -/
def ln10 : Nat := 42475197918399869020

/-- L × 10^T for a period of `p` units, at most 1 (R424). -/
def recoverL (r : Rate) (p l : Nat) : Nat :=
  let k := ln10 * p / unitHz r
  min 4294967296 (l + l * k / 2 ^ 64 + l * k * k / 2 ^ 129)

/-- What R424 computes for one channel and period: the pulse width, the errors and the limiter gain. `pilot` is the
pilot's term of x in 2⁻⁶³, `rec` the gain after its recovery. -/
def DrvCh.modulate (x : DrvCh) (cfg : DrvMod) (pvdd m j p : Nat) (pilot : Int) (rec : Nat → Nat) : DrvCh :=
  let a := x.p0.toInt * ((m : Int) - j - 1) + x.p1.toInt * ((j : Int) + 1)
  let xN : Int := x.g * a + pilot * m
  let nom := cfg.field 12 2
  let cr : Nat × Nat := if 2 * pvdd < nom then (2, 1) else if 2 * nom < pvdd then (1, 2) else (nom, pvdd)
  let dN : Int := xN * (cfg.field 8 2 * cr.1 : Nat)
  let dD : Nat := 2 ^ 63 * m * 1000 * cr.2
  let k := cfg.field 10 2
  let lim := if k * dD * unity < dN.natAbs * x.lim * 1000 then k * dD * unity / (1000 * dN.natAbs) else x.lim
  let w : Int := Int.fdiv ((p : Int) * ((dD * unity : Nat) + dN * lim)) (2 * dD : Nat)
  let v := w - 2 * x.e1 + x.e2
  let q := roundEven v unity
  let mp : Int := 2 * cfg.field 29 1
  let lo := mp
  let hi := (p : Int) - mp
  if q < lo ∨ hi < q then { x with q := (clampInt lo hi q).toNat, e1 := 0, e2 := 0, lim := rec lim }
  else { x with q := q.toNat, e1 := q * unity - v, e2 := x.e1, lim := rec lim }

/-- The gains of a channel for its next period (R426, R427, R437). -/
def Chip.drvGains (c : Chip) (k m : Nat) : Chip :=
  let x := c.drvCh k
  let s := c.drvState k
  let len := 64 * m
  if (c.drvMod (k / 8)).low then
    if s = 3 then
      if x.out ≤ 1 then ((c.setDrvCh k { x with out := 0, g := 0, h := 0 }).drvEnter k 0).drvIdle (k / 8)
      else c.setDrvCh k { x with out := x.out - 1, g0 := 0, h0 := 0, g := 0, h := 0 }
    else c.setDrvCh k { x with n := 0, measuring := false, g := 0, h := 0 }
  else if s = 1 ∨ (s = 6 ∧ !x.measuring) then
    let h := if x.n < 8 then 0 else min unity ((x.n - 7) * unity / len)
    let g := if s = 6 then h / 10 else h
    let c1 := c.setDrvCh k { x with n := x.n + 1, g := g, h := h }
    if len + 7 ≤ x.n then (if s = 1 then c1.drvEnter k 2 else c1.modDrvCh k (fun y => { y with measuring := true })) else c1
  else if s = 3 then
    if x.out ≤ 1 then ((c.setDrvCh k { x with out := 0, g := 0, h := 0 }).drvEnter k 0).drvIdle (k / 8)
    else c.setDrvCh k { x with out := x.out - 1, g := x.g0 * (x.out - 1) / len, h := x.h0 * (x.out - 1) / len }
  else c

/-- A trip or a DC stop takes effect at a carrier boundary (R433, R434, R437, R438). -/
def Chip.drvTrips (c : Chip) (k m j : Nat) : Chip :=
  let x := c.drvCh k
  let s := c.drvState k
  let cfg := c.drvMod (k / 8)
  let off (c : Chip) (st : Nat) : Chip := (c.modDrvCh k (fun y => { y with g := 0, h := 0, q := 0, grow := 0, measuring := false })).drvEnter k st
  let c0 := c.setDrvCh k { x with trip := false, dc := false }
  if x.trip && (s == 1 || s == 2 || s == 3 || s == 6) then
    let r0 := c.regFld (Reg.DRV_CH_STAT k) 27 24
    let r1 := if s = 6 then r0 + 1 else r0
    let maxR := cfg.field 42 1
    let lock := decide (maxR = 0) || (s == 6 && decide (maxR ≤ r1))
    let c1 := (off c0 (if lock then 7 else 5)).setFld (Reg.DRV_CH_STAT k) 27 24 (min 15 r1)
    let wait := match c.eng.rate with
      | some r => ceilDiv (cfg.field 40 2 * r.hz * m + 1000 * j) (1000 * m)
      | none => 0
    (c1.modDrvCh k (fun y => { y with waitTick := c.tickN + wait })).drvFault Reg.DRV_OC_CNT k 0 .driveOc
  else if x.dc && (s == 1 || s == 2 || s == 3 || s == 6) then off c0 9
  else c0

/-- The pilot runs in a channel (R429, R435, R437). -/
def Chip.pilotOn (c : Chip) (k : Nat) : Bool :=
  c.pwr.stage == 0 && ((c.drvMod (k / 8)).pilotEn || c.drvState k == 6)

/-- A channel's pulse of a period of the rate `r`. The pilot starts with the first period in which it runs (DESIGN CHOICE, log
entry 11). -/
def Chip.drvPulse (c : Chip) (r : Rate) (k m j p : Nat) : Chip :=
  let x := c.drvCh k
  let s := c.drvState k
  if s = 5 ∨ 7 ≤ s then c.setDrvCh k { x with q := 0 }
  else
    let cfg := c.drvMod (k / 8)
    let pvdd := c.regFld (Reg.DRV_MOD_RAIL (k / 8)) 31 16
    let y := if s = 0 then { x with g := 0, h := 0 } else x
    let on := c.pilotOn k && decide (0 < y.h)
    let pil : Int := if on then y.pilotTerm cfg r (2 * y.pilot + p) else 0
    c.setDrvCh k { y.modulate cfg pvdd m j p pil (recoverL r p) with pilot := if on then y.pilot + p else 0 }

/-- L and LIMITING of a module (R436). -/
def Chip.drvLimit (c : Chip) (m : Nat) : Chip :=
  let l := (modChans m).foldl (fun n k => min n (c.drvCh k).lim) unity
  let was := c.regBit (Reg.DRV_MOD_CTRL m) 28
  let now := decide (l < unity)
  let c1 := (c.setBit (Reg.DRV_MOD_CTRL m) 28 now).setFld (Reg.DRV_MOD_RAIL m) 15 0 (l / 131072)
  if now && !was then c1.driveRail m else c1

/-- A carrier period of a module begins. -/
def Chip.carrier (c : Chip) (m : Nat) : Chip :=
  let k := c.drvM m
  let x := c.drvMod m
  match c.eng.rate with
  | none => c
  | some r =>
    if !c.eng.ticking || !c.regBit (Reg.DRV_MOD_CTRL m) 30 || decide (k ≤ x.period) then c
    else
      let j := x.period
      let p := periodLen (c.drvCycles r) k j
      let c1 := c.setDrvMod m { x with period := j + 1 }
      let c2 := (modChans m).foldl (fun c ch => c.drvTrips ch k j) c1
      let st := (c2.drvMod m).stop
      if st = 1 then c2.drvLow m ((c2.drvMod m).hold || (c2.drvMod m).restart != 0)
      else
        let c3 := if 2 ≤ st then c2.modDrvMod m (fun y => { y with stop := st - 1 }) else c2
        let c4 := (modChans m).foldl (fun c ch => (c.drvGains ch k).drvPulse r ch k j p) c3
        c4.drvLimit m

/-- The drive block at a tick boundary: the interpolation takes the sample presented, and a retry's gain rises unless the rail is
low (R424, R436, R437). -/
def Chip.driveTick (c : Chip) : Chip :=
  (List.range 8).foldl (fun c m =>
    (modChans m).foldl (fun c k =>
      c.modDrvCh k (fun x =>
        let y := { x with p0 := x.p1, p1 := (c.outCh (0x4400 + k)).presented.v }
        if 0 < x.grow ∧ c.drvState k = 2 ∧ !(c.drvMod m).low then
          { y with grow := x.grow - 1, g := unity / 10 + (unity - unity / 10) * (1025 - x.grow) / 1024 }
        else y)) (if c.modEn m then c.modDrvMod m (fun x => { x with period := 0 }) else c)) c

/-- The channels in OC_WAIT at a rate change wait on for what is left of RETRY_MS: `old` and `new` are the ticks in a second before and
after, `t` the last tick before and `n` the first after (R437). -/
def Chip.drvWaits (c : Chip) (old new t n : Nat) : Chip :=
  (List.range 64).foldl (fun c k =>
    if c.drvState k = 5 then c.modDrvCh k (fun x => { x with waitTick := n + ceilDiv ((x.waitTick - t) * new) old }) else c) c

/-- Boundary T+64 of a SET_RATE: every enabled module stops (R428). -/
def Chip.drivesOff (c : Chip) : Chip :=
  (List.range 8).foldl (fun c m => if c.modEn m then (c.drvStop m).drvLow m true else c) c

/-- The first tick at a new rate: an enabled module runs its check again and restarts (R428). -/
def Chip.driveRecheck (c : Chip) (m : Nat) : Chip :=
  let k := c.drvCheck m
  let c1 := c.setReg Reg.DRV_REASON (putFld (putFld 0 18 16 m) 15 0 k)
  if k = rOK then ((c1.drvSetEn m true).drvOn m).drvRestart m
  else ((c1.drvLow m false).modDrvMod m (fun x => { x with restart := 0 })).drvEvent 6

end Sys2Proof.Machine
end

