-- ==== Sys2Proof/Machine/DriveEff.lean ====
section
/-! DEFINITION. The effects of the DRIVE opcodes at their ticks (R441). -/
namespace Sys2Proof.Machine
open Sys2Proof

def Chip.effDriveCfg (c : Chip) (_ : Nat) (r : Req) : Chip :=
  let m := r.p 0 1
  if c.modEn m then c else c.modDrvMod m (fun x => { x with cfg := r.par })

def Chip.effDriveProtect (c : Chip) (_ : Nat) (r : Req) : Chip :=
  let n := r.p 0 1
  (List.range 16).foldl (fun c i => c.setReg (Reg.DRV_PROT_F i) (if i < n then BitVec.ofNat 32 (r.p (8 + 4 * i) 4) else 0))
    (c.setReg Reg.DRV_GUARD (putFld (putFld 0 28 24 n) 16 0 (r.p 4 4)))

/-- The channels a mask names in a module. -/
def maskChans (m mask : Nat) : List Nat := (maskBits mask 8).map (fun i => 8 * m + i)

/-- A trip or a DC stop of a channel waits for the carrier boundary: it prevails over a start or a disable (R438). -/
def Chip.drvTripping (c : Chip) (k : Nat) : Bool := (c.drvCh k).trip || (c.drvCh k).dc

def Chip.effDriveEnable (c : Chip) (ch : Nat) (r : Req) : Chip :=
  let m := r.p 0 1
  let start (c : Chip) : Chip :=
    (maskChans m (r.p 1 1)).foldl (fun c k =>
      if c.drvState k = 0 ∨ (c.drvState k = 3 ∧ !c.drvTripping k) then c.drvStart k false else c)
      (c.modDrvMod m (fun x => { x with stop := 0 }))
  if c.modEn m then
    (if c.regBit (Reg.DRV_MOD_CTRL m) 30 then start c
     else c.modDrvMod m (fun x => { x with restart := x.restart ||| r.p 1 1 }))
  else
    let k := if c.forced 3 then rBadState else if 3 ≤ c.pwr.stage then rShedActive else c.drvCheck m
    let c1 := c.setReg Reg.DRV_REASON (putFld (putFld 0 18 16 m) 15 0 k)
    if k = rOK then start (((c1.drvSetEn m true).setBit Reg.CLK_GATE_STAT 19 true).drvOn m) else c1.effectFail ch r.op 12

def Chip.effDriveDisable (c : Chip) (_ : Nat) (r : Req) : Chip :=
  let m := r.p 0 1
  let c1 := (maskChans m (r.p 1 1)).foldl (fun c k =>
    let s := c.drvState k
    if s = 1 ∨ s = 2 then
      (c.modDrvCh k (fun x => { x with out := 64 * c.drvM m, g0 := x.g, h0 := x.h, grow := 0 })).drvEnter k 3
    else if s = 5 ∨ (s = 6 ∧ !c.drvTripping k) then (c.modDrvCh k (fun x => { x with g := 0, h := 0, measuring := false })).drvEnter k 0
    else c) (c.modDrvMod m (fun x => { x with restart := x.restart &&& (255 - r.p 1 1) }))
  if c1.modEn m then c1.drvIdle m else c1

def Chip.effDriveClear (c : Chip) (_ : Nat) (r : Req) : Chip :=
  (maskChans (r.p 0 1) (r.p 1 1)).foldl (fun c k =>
    let s := c.drvState k
    if 5 ≤ s then
      ((c.modDrvCh k (fun x => { x with g := 0, h := 0, measuring := false, zOut := false })).drvEnter k 0).setFld (Reg.DRV_CH_STAT k) 27 24 0
    else c) c

/-- The effect of a DRIVE opcode at its tick. -/
def Chip.effDrive (op : Nat) (c : Chip) (ch : Nat) (r : Req) : Chip :=
  if op = 0x0801 then c.effDriveCfg ch r
  else if op = 0x0802 then c.effDriveProtect ch r
  else if op = 0x0803 then c.effDriveEnable ch r
  else if op = 0x0804 then c.effDriveDisable ch r
  else if op = 0x0806 then c.effDriveClear ch r
  else c

end Sys2Proof.Machine
end

