-- ==== Sys2Proof/Machine/Delay.lean ====
section
/-! DEFINITION. The delay engines (R190 to R194) and the commit of the output endpoint channels, delay lines among them
(R57, R58, R170, R183 to R187, R255, R256). -/
namespace Sys2Proof.Machine
open Sys2Proof

/-- The live line of a region's line number. -/
def Chip.findLine (c : Chip) (r l : Nat) : Option Line := c.linesLive.find? (fun x => x.region == r && x.line == l)

/-- The live tap of a region's tap number. -/
def Chip.findTap (c : Chip) (r t : Nat) : Option Tap := c.tapsLive.find? (fun x => x.region == r && x.tap == t)

def Line.key (d : Line) : Nat := 512 * d.region + d.line
def Tap.key (t : Tap) : Nat := 1024 * t.region + t.tap

/-- The tile of BUF that holds a full tile of a DRAM line until it is in DRAM: the first two in turn (R189, R193). -/
def Line.behindBuf (d : Line) (lap : Nat) : Nat := d.buf + lap % 2

/-- The tile of BUF that holds a tile read ahead for a tap: two for each tap of the line, in the order of the image
(R189, R193). -/
def Graph.tapBuf (g : Graph) (t : Tap) (lap : Nat) : Option Nat :=
  if g.taps.any (fun x => x.key == t.key) then
    (g.lines.find? (fun l => l.region == t.region && l.line == t.line)).map (fun l =>
      l.buf + 2 + 2 * ((g.taps.filter (fun x => x.region == t.region && x.line == t.line)).findIdx (fun x => x.tap == t.tap)) + lap % 2)
  else none

/-- That tile of the running graph that names the tap, the new one of a fade first (R216). -/
def Chip.tapBuf (c : Chip) (t : Tap) (lap : Nat) : Option Nat := c.liveGraphs.findSome? (fun g => g.tapBuf t lap)

/-- A delay engine reads a tile of region memory and verifies it: its bytes, and whether they are poisoned (R177). A disturbed
tile fails its check unless it carries the mark (R176), and its bytes are free. -/
def Chip.engineRead (c : Chip) (r tile : Nat) (bad : Bool) : Chip × List Byte × Bool :=
  let t := 16384 * r + tile
  let mk := marked (c.mem.entry .region t)
  let hit := bad && !mk
  let fails := hit || c.mem.fails .region t
  let c1 := if fails then c.tileCheck 3 0 r tile else c
  if hit then
    let x := c1.freeTile
    (x.2, x.1, true)
  else (c1, c1.mem.tile .region t, fails || mk)

/-- A delay engine reads a tile of DRAM (R177, R178). -/
def Chip.engineReadDram (c : Chip) (t : Nat) (bad : Bool) : Chip × List Byte × Bool :=
  let hit := bad && !marked (c.mem.entry .dram t)
  let x := c.dramCheckBad t bad
  if hit then
    let y := x.1.freeTile
    (y.2, y.1, true)
  else (x.1, x.1.mem.tile .dram t, x.2)

/-- A delay engine writes a tile of region memory with a fresh check word, and the mark where it is poisoned (R175, R177). -/
def Chip.engineWrite (c : Chip) (r tile : Nat) (b : List Byte) (mark : Bool) : Chip :=
  { c with mem := c.mem.putTile .region (16384 * r + tile) b mark }

/-- CHAIN_LATE of a delay engine: once in each affected tick (R194). -/
def Chip.delayLate (c : Chip) (r kind ep : Nat) : Chip :=
  if c.chain.dlyLate.testBit r then c
  else ({ c with chain := { c.chain with dlyLate := c.chain.dlyLate + 2 ^ r } }).late 2 kind (epAddr ep)

/-! ## Lines -/

/-- No sample was committed to the line in running tick `a`. -/
def LineState.gap (s : LineState) (a : Nat) : Bool := s.gaps.any (fun g => decide (g.1 ≤ a) && decide (a < g.2))

/-- The position of running tick `a` has been written since the line was created, in that tick or one a whole number of lengths
before it (R190, R192). -/
def LineState.holds (s : LineState) (len a : Nat) : Bool := (List.range (a / len + 1)).any (fun k => !s.gap (a - k * len))

/-- The tick goes without a sample. -/
def LineState.skip (s : LineState) : LineState :=
  match s.gaps with
  | g :: r => { s with gaps := if g.2 = s.w then (g.1, s.w + 1) :: r else (s.w, s.w + 1) :: g :: r }
  | [] => { s with gaps := [(s.w, s.w + 1)] }

/-- The last tick of tile `n` of a line has run: the tile goes to region memory, or to BUF on its way to DRAM (R190, R193).
Positions that took no sample keep their content (R190). -/
def Chip.lineFull (c : Chip) (d : Line) (s : LineState) (n : Nat) : Chip :=
  let s1 := { s with w := s.w + 1, wtile := [] }
  let gaps := (List.range 64).map (fun i => s.gap (64 * n + i))
  if gaps.all id then c.setLine d.key s1
  else
    let t := d.base + n % d.tiles
    let old : Chip × List Byte × Bool :=
      if gaps.any id then (if d.dram then c.engineReadDram t false else c.engineRead d.region t false) else (c, [], false)
    let bytes := gaps.zipIdx.flatMap (fun g =>
      if g.1 then bytesFrom old.2.1 (4 * g.2) 4 else leBytes 4 (Map.get (fun _ => (0 : Word)) s.wtile g.2).toNat)
    if d.dram then
      (old.1.engineWrite d.region (d.behindBuf n) bytes old.2.2).setLine d.key
        { s1 with behind := s.behind ++ [{ lap := n, age := 0, late := false, absent := false }] }
    else (old.1.engineWrite d.region t bytes old.2.2).setLine d.key s1

/-- A running tick of a line ends: the sample committed to it, if any, is stored at position w mod L (R190). -/
def Chip.storeLine (c : Chip) (d : Line) (v : Option Word) : Chip :=
  let s := c.lineSt d.key
  let s1 := match v with
    | some v => { s with wtile := Map.put (fun _ => 0) s.wtile (s.w % 64) v }
    | none => s.skip
  if s.w % 64 = 63 then c.lineFull d s1 (s.w / 64) else c.setLine d.key { s1 with w := s.w + 1 }

/-- A tile in BUF in a further tick: none when it is written to DRAM now, which is the last tick of its window, or, once that
has passed, the first in which service has returned (R193, R194; log entry 49). -/
def Behind.step (b : Behind) : Option Behind :=
  if b.late then (if b.absent then some { b with age := b.age + 1, absent := false } else none)
  else if b.age < 32 then some { b with age := b.age + 1 } else none

/-- A full tile goes from BUF to DRAM, with the mark if its window has passed (R193, R194). -/
def Chip.writeLap (c : Chip) (d : Line) (b : Behind) : Chip :=
  let x := c.engineRead d.region (d.behindBuf b.lap) false
  { x.1 with mem := x.1.mem.putTile .dram (d.base + b.lap % d.tiles) x.2.1 (b.late || x.2.2) }

/-- A running tick of the write-behind of a line. -/
def Chip.behindTick (c : Chip) (d : Line) : Chip :=
  let s := c.lineSt d.key
  (s.behind.foldl (fun c b => if b.step.isNone then c.writeLap d b else c) c).setLine d.key
    { s with behind := s.behind.filterMap Behind.step }

/-- The tiles of a line that wait in BUF go to DRAM at once: its BUF is given up. -/
def Chip.flushLine (c : Chip) (d : Line) : Chip :=
  let s := c.lineSt d.key
  (s.behind.foldl (fun c b => c.writeLap d b) c).setLine d.key { s with behind := [] }

/-! ## Taps -/

/-- The tile that a tap uses: the one it holds, or one it takes now from region memory or from BUF (R190, R193). -/
def Chip.tapTile (c : Chip) (d : Line) (t : Tap) (n : Nat) : Chip × Option HeldTile :=
  let st := c.tapSt t.key
  let take (x : Chip × List Byte × Bool) : Chip × Option HeldTile := (x.1, some { lap := n, bytes := x.2.1, poison := x.2.2 })
  match st.cur.filter (fun h => h.lap == n) with
  | some h => (c, some h)
  | none =>
    if !d.dram then take (c.engineRead d.region (d.base + n % d.tiles) false)
    else if st.ahead.contains n then
      (match c.tapBuf t n with
        | some b => take (c.engineRead d.region b false)
        | none => (c, none))
    else if (c.lineSt d.key).behind.any (fun b => b.lap == n) then take (c.engineRead d.region (d.behindBuf n) false)
    else (c, none)

/-- A tap presents a sample. -/
def Chip.showTap (c : Chip) (t : Tap) (st : TapState) (v : Sample) : Chip :=
  (c.setTap t.key { st with last := v }).setIn (0x2000 + t.key) { (c.inCh (0x2000 + t.key)) with presented := v, live := true }

/-- Serves one tap for a running tick (R190, R192 to R194). The flag says that its read-ahead is exhausted. -/
def Chip.serveTap (c : Chip) (t : Tap) : Chip × Bool :=
  match c.findLine t.region t.line with
  | none => (c, false)
  | some d =>
    let s := c.lineSt d.key
    let st := c.tapSt t.key
    let a := s.w - 1 - t.delay
    let n := a / 64
    if decide (s.w ≤ t.delay) || !s.holds (64 * d.tiles) a then (c.showTap t st Sample.zero, false)
    else if n = s.w / 64 ∧ !s.gap a then
      (c.showTap t st { v := Map.get (fun _ => 0) s.wtile (a % 64), p := false }, false)
    else
      let x := c.tapTile d t n
      match x.2 with
      | some h =>
        let st1 := if n < s.w / 64 then { st with cur := some h, ahead := st.ahead.filter (fun m => decide (n < m)) } else st
        (x.1.showTap t st1 { v := BitVec.ofNat 32 (leField h.bytes (4 * (a % 64)) 4), p := h.poison }, false)
      | none => (x.1.showTap t st { st.last with p := true }, true)

/-- The ticks for which a tap of a DRAM line can go on from what it holds and has read ahead; none where the next tile needs
no more service (R193). -/
def Chip.aheadLeft (c : Chip) (t : Tap) : Option Nat :=
  match c.findLine t.region t.line with
  | some d =>
    let s := c.lineSt d.key
    let st := c.tapSt t.key
    let a := s.w - 1 - t.delay
    let n := a / 64
    if !d.dram || decide (s.w ≤ t.delay) || !s.holds (64 * d.tiles) a then none
    else if !st.cur.any (fun h => h.lap == n) then some 0
    else if decide (s.w / 64 ≤ n + 1) || st.ahead.contains (n + 1) ||
        s.behind.any (fun b => b.lap == n + 1 && (b.late || decide (b.age + (64 - a % 64) ≤ 32))) then none
    else some (63 - a % 64)
  | none => none

/-- The two tiles that a tap's read-ahead holds next, as far as they are full and not yet there: those behind the tile in use. -/
def Chip.wantedLaps (c : Chip) (d : Line) (t : Tap) : List Nat :=
  let s := c.lineSt d.key
  let st := c.tapSt t.key
  let n := (s.w - 1 - t.delay) / 64
  let m := if st.cur.any (fun h => h.lap == n) then n + 1 else n
  [m, m + 1].filter (fun k => decide (k < s.w / 64) && !st.ahead.contains k)

/-- A tile is read ahead into BUF for a tap, from DRAM or, while it waits there to be written, from BUF (R193). -/
def Chip.takeAhead (c : Chip) (d : Line) (t : Tap) (n : Nat) (bad : Bool) : Chip :=
  match c.tapBuf t n with
  | none => c
  | some b =>
    let x := if (c.lineSt d.key).behind.any (fun b => b.lap == n) then c.engineRead d.region (d.behindBuf n) bad
      else c.engineReadDram (d.base + n % d.tiles) bad
    let st := c.tapSt t.key
    (x.1.engineWrite d.region b x.2.1 x.2.2).setTap t.key
      { st with ahead := st.ahead.filter (fun m => m + 1 == n || m == n + 1) ++ [n] }

/-- A tap that begins anew, or whose delay changes, gives up what it holds and has its tiles read before the boundary, as
R282 asks (log entry 49). -/
def Chip.primeTap (c : Chip) (t : Tap) : Chip :=
  let c1 := c.setTap t.key { (c.tapSt t.key) with cur := none, ahead := [] }
  match c1.findLine t.region t.line with
  | some d => if d.dram then (c1.wantedLaps d t).foldl (fun c n => c.takeAhead d t n false) c1 else c1
  | none => c1

/-- The delay engines serve every tap for a running tick, and what waits in BUF goes on (R190, R193, R194). Of the taps of an
engine whose read-ahead is exhausted the lowest is recorded, and of the engines the lowest too (R199). -/
def Chip.delayTick (c : Chip) : Chip :=
  (List.range 4).reverse.foldl (fun c r =>
    let taps := c.tapsLive.filter (fun t => t.region == r)
    let x := taps.foldl (fun (x : Chip × List Nat) t =>
      let y := x.1.serveTap t
      (y.1, if y.2 then t.tap :: x.2 else x.2)) (c, [])
    let c1 := match x.2.min? with
      | some t => x.1.delayLate r 1 (0x2000 + 1024 * r + t)
      | none => x.1
    let c2 := taps.foldl (fun c t =>
      match c.aheadLeft t with
      | some n =>
        if n < c.regFld Reg.ENG_DLY_MARGIN (8 * r + 7) (8 * r) then c.setFld Reg.ENG_DLY_MARGIN (8 * r + 7) (8 * r) n else c
      | none => c) c1
    (c2.linesLive.filter (fun d => d.region == r && d.dram)).foldl (fun c d => c.behindTick d) c2) c

/-! ## The commit of a channel -/

/-- Commits one output endpoint channel (R57, R58, R183 to R187, R255, R256). -/
def Chip.commitOne (c : Chip) (ep : Nat) : Chip :=
  let c0 := c.underrun ep
  let s := c0.outSample ep
  let r := if c0.awaitsCell ep then
      { ch := c0.outCh ep, v := 0, dithers := false, heldUsed := false, started := false, unmuted := false }
    else (c0.outCh ep).commit s
  let dith := match c0.ditherOf ep with
    | some d =>
      let x := ditherStep r.ch.dither
      (x, if r.dithers then ditherVal x d.wordlen r.v else r.v)
    | none => (r.ch.dither, r.v)
  let v := dith.2
  let held := if r.dithers && r.ch.mute == .clear then some v else r.ch.held
  let ch := { r.ch with dither := dith.1, committed := some v, last := v, held := held, got := 0, gotOld := 0 }
  let c1 := c0.setOut ep ch
  let c2 := if r.heldUsed then c1.bump Reg.ENG_HELD_CNT else c1
  let c3 := if r.started then c2.muteStart ep else c2
  let c4 := if r.unmuted then c3.event Reg.ENG_CHAIN_EVENT 4 17 true else c3
  if 0x6000 ≤ ep then
    match c4.findLine ((ep - 0x6000) / 512) ((ep - 0x6000) % 512) with
    | some d => c4.storeLine d (some (c4.rateRamp (c4.tickN + 1) v))
    | none => c4
  else c4

/-- The commit window's work on the outputs: the channels that are bound and carried are committed, the lowest address last
(R199); a dithered channel that is not among them advances its state all the same (R255, R256), and a line without a
bound write port runs on (R190). -/
def Chip.commitOuts (c : Chip) (carried : Nat → Bool) : Chip :=
  let eps := c.boundOuts.filter carried
  let c1 := (sortBy (fun e => 65535 - e) eps).foldl (fun c ep => c.commitOne ep) c
  let idle := (c.graph.live.toList.flatMap (fun g => g.dither.map (fun d => d.ep))).filter (fun ep => !eps.contains ep)
  let c2 := idle.foldl (fun c ep => c.modOut ep (fun o => { o with dither := ditherStep o.dither })) c1
  (c2.linesLive.filter (fun d => !eps.contains (0x6000 + d.key))).foldl (fun c d => c.storeLine d none) c2

end Sys2Proof.Machine
end

