-- ==== Sys2Proof/Machine/Mirror.lean ====
section
/-! DEFINITION. How a mirrored command is handled on this chip (R281, R452, R453), and the opcodes that are mirrored and
act at their acceptance. -/
namespace Sys2Proof.Machine
open Sys2Proof

/-- MIRROR_GAP is set (R453). -/
def Chip.setGap (c : Chip) : Chip := c.setBit Reg.PAIR_STAT 21 true

/-- A mirrored command that this chip applies alone sets MIRROR_GAP with PAIR_EN = 1 (R453). -/
def Chip.gapFor (c : Chip) (r : Req) : Chip :=
  if opMirrored r.op && c.pairEn then c.setGap else c

/-- The copy of a command leaves for the standby with its effect tick (R452). -/
def Chip.sendCopy (c : Chip) (ch tick : Nat) : Chip :=
  let m : Mirrored := { ch := ch, req := (c.chan ch).req, tick := tick, acked := false, pay := [] }
  ({ c with pair := { c.pair with copies := c.pair.copies ++ [m] } }).modChan ch
    (fun k => { k with work := .mirrored, effTick := tick })

/-- A command leaves for the owner (R281). -/
def Chip.sendForward (c : Chip) (ch : Nat) : Chip :=
  let m : Mirrored := { ch := ch, req := (c.chan ch).req, tick := 0, acked := false, pay := [] }
  ({ c with pair := { c.pair with forwards := c.pair.forwards ++ [m] } }).modChan ch
    (fun k => { k with work := .forwarded })

/-- A mirrored opcode that acts at its acceptance: refused with the first reason that applies; carried out at once
where it acts alone; sent to the partner and carried out when its row comes again after the acknowledgement;
forwarded; or refused with PAIR_REFUSED. -/
def Chip.runMirrored (c : Chip) (ch op reason : Nat) (f : Chip → Chip) : Chip :=
  let k := c.chan ch
  if k.st == .taken && k.work == .checked && (c.reqOf ch).op == op then f c
  else if c.isFresh ch op then
    (if reason = rOK then
      match c.route (c.reqOf ch) with
      | .alone => f (c.gapFor (c.reqOf ch))
      | .mirror => c.sendCopy ch 0
      | .forward => c.sendForward ch
      | .refused => c.refuse ch rPairRefused
    else c.refuse ch reason)
  else c

end Sys2Proof.Machine
end

