-- ==== Sys2Proof/Machine/GraphLoad.lean ====
section
/-! DEFINITION. Graph images: their layout (R204 to R208), the checks of GRAPH_LOAD (R209 to R211) and the writing of
their tiles (R202). -/
namespace Sys2Proof.Machine
open Sys2Proof

/-! ## Sections (R205) -/

def secOff (b : List Byte) (i : Nat) : Nat := leField b (64 + 16 * i) 4
def secLen (b : List Byte) (i : Nat) : Nat := leField b (68 + 16 * i) 4
def secCnt (b : List Byte) (i : Nat) : Nat := leField b (72 + 16 * i) 4

/-- The entry size of a section; 0 for SCHED and DITHER (R206). -/
def secSize (i : Nat) : Nat := [32, 48, 256, 8, 16, 256, 0, 4, 16, 16, 16, 0].getD i 0

/-- The bytes of a section. -/
def secBytes (b : List Byte) (i : Nat) : List Byte := (b.drop (secOff b i)).take (secLen b i)

/-- The `n` entries of `k` bytes at the start of a byte list. -/
def entries (b : List Byte) (k : Nat) : Nat → List (List Byte)
  | 0 => []
  | n + 1 => b.take k :: entries (b.drop k) k n

/-- The entries of a section. -/
def secEntries (b : List Byte) (i : Nat) : List (List Byte) := entries (secBytes b i) (secSize i) (secCnt b i)

/-- A section is absent (R205). -/
def secAbsent (b : List Byte) (i : Nat) : Bool := secOff b i == 0 && secLen b i == 0 && secCnt b i == 0

/-- The section table obeys R205 and, for a patch, R206. -/
def sectionsOk (b : List Byte) (patch : Bool) : Bool :=
  (List.range 12).all (fun i =>
    zeroBytes b (76 + 16 * i) 4 &&
    (secAbsent b i ||
      (secOff b i % 256 == 0 && decide (256 ≤ secOff b i) && decide (secOff b i + secLen b i ≤ b.length) &&
        (if i = 6 then decide (16 * secCnt b i ≤ secLen b i)
         else if i = 11 then secLen b i == 16 + 4 * secCnt b i && leField (secBytes b i) 8 4 == secCnt b i
         else secLen b i == secCnt b i * secSize i) && !(patch && [7, 9, 10, 11].contains i))) &&
    (List.range i).all (fun j =>
      decide (secOff b j + secLen b j ≤ secOff b i) || decide (secOff b i + secLen b i ≤ secOff b j)))

/-! ## Reading entries (R207) -/

def readCell (c u : List Byte) : CellEntry :=
  { laddr := leField c 0 2 / 64, progFirst := leField c 4 4, progBase := leField c 8 1, progTiles := leField c 9 1,
    legEntry := [leField c 12 2, leField c 14 2, leField c 16 2, leField c 18 2], restart := leField c 20 2,
    cls := leField u 2 1, decl := [leField u 4 2, leField u 6 2, leField u 8 2, leField u 10 2], declBg := leField u 12 2,
    pubUsed := BitVec.ofNat 64 (leField u 16 8), pubLeg := BitVec.ofNat 128 (leField u 24 16),
    subUsed := BitVec.ofNat 64 (leField u 40 8) }

def readExtent (e : List Byte) : Extent :=
  { mem := leField e 0 1 % 4, keep := (leField e 0 1).testBit 7, region := leField e 1 1, laddr := leField e 2 2 / 64,
    first := leField e 4 2, count := leField e 6 2 }

def readPlace (e : List Byte) : Place :=
  { mem := leField e 0 1, region := leField e 1 1, laddr := leField e 2 2 / 64, dst := leField e 4 4, src := leField e 8 4,
    count := leField e 12 4 }

def readSched (e : List Byte) : SchedEntry :=
  { src := leField e 0 2, dst := leField e 2 2, mask := leField e 4 1, win := leField e 5 1 % 8, fwd := (leField e 5 1).testBit 3 }

def readSymbol (e : List Byte) : Symbol :=
  { handle := leField e 0 4, kind := leField e 4 1, words := leField e 5 1,
    owner := if leField e 4 1 = 0 ∨ leField e 4 1 = 2 then leField e 6 2 / 64 else leField e 6 2, loc := leField e 8 4 }

def readLine (e : List Byte) : Line :=
  { region := leField e 0 1, dram := (leField e 1 1).testBit 0, keep := (leField e 1 1).testBit 1, line := leField e 2 2,
    base := leField e 4 4, tiles := leField e 8 4, buf := leField e 12 2 }

def readTap (e : List Byte) : Tap :=
  { region := leField e 0 1, tap := leField e 2 2, line := leField e 4 2, delay := leField e 8 4 }

/-- The blocks of SCHED: header and entry bytes, `n` of them (R208). -/
def schedBlocks (b : List Byte) : Nat → List (List Byte × List (List Byte))
  | 0 => []
  | n + 1 =>
    let k := leField b 4 4
    if b.length < 16 + 8 * k then []
    else (b.take 16, entries (b.drop 16) 8 k) :: schedBlocks (b.drop (16 + 8 * k)) n

/-- The number of an exchange: 0 chip, 1 + region, 5 + region × 8 + cluster. -/
def exchOf (h : List Byte) : Nat :=
  if leField h 0 1 = 0 then 0
  else if leField h 0 1 = 1 then 1 + leField h 1 1
  else 5 + 8 * leField h 1 1 + leField h 2 1

/-- The graph an image describes. -/
def readGraph (b : List Byte) : Graph :=
  let bud := secEntries b 1
  { imageId := BitVec.ofNat 64 (leField b 24 8), baseId := BitVec.ofNat 64 (leField b 32 8), patch := leField b 13 1 == 1,
    rate := leField b 12 1, settle := leField b 20 4,
    cells := (secEntries b 0).zipIdx.map (fun e => readCell e.1 (bud.getD e.2 [])),
    extents := (secEntries b 3).map readExtent, places := (secEntries b 4).map readPlace,
    sched := (schedBlocks (secBytes b 6) (secCnt b 6)).map (fun x => { exch := exchOf x.1, entries := x.2.map readSched }),
    endpoints := (secEntries b 7).map (fun e => leField e 0 2), symbols := (secEntries b 8).map readSymbol,
    lines := (secEntries b 9).map readLine, taps := (secEntries b 10).map readTap,
    seed := BitVec.ofNat 64 (leField (secBytes b 11) 0 8),
    dither := (entries ((secBytes b 11).drop 16) 4 (secCnt b 11)).map (fun e => { ep := leField e 0 2, wordlen := leField e 2 1 }) }

/-! ## The checks of step 6 -/

/-- A logical address that a graph may name: EP and SLOT 0, CELL 0 to 14 (R206). -/
def laddrOk (a : Nat) : Bool := decide (a < 32768) && a % 64 == 0 && decide (a / 64 % 16 < 15)

/-- The numbers of a list rise strictly. -/
def rising : List Nat → Bool
  | a :: b :: r => decide (a < b) && rising (b :: r)
  | _ => true

/-- The numbers of a list do not fall. -/
def notFalling : List Nat → Bool
  | a :: b :: r => decide (a ≤ b) && notFalling (b :: r)
  | _ => true

/-- No two elements are equal. -/
def distinct (l : List Nat) : Bool := rising l || decide (l.eraseDups.length = l.length)

def cellOk (e : List Byte) (progTiles : Nat) : Bool :=
  laddrOk (leField e 0 2) && zeroBytes e 2 2 && zeroBytes e 10 2 && zeroBytes e 22 10 &&
  within (leField e 9 1) 1 128 && decide (leField e 8 1 + leField e 9 1 ≤ 128) &&
  decide (leField e 4 4 + leField e 9 1 ≤ progTiles) &&
  [12, 14, 16, 18, 20].all (fun o => decide (leField e o 2 ≤ 4095))

def budgetOk (e : List Byte) : Bool :=
  decide (leField e 2 1 ≤ 3) && zeroBytes e 3 1 && zeroBytes e 14 2 &&
  (List.range 64).all (fun s => (leField e 16 8).testBit s || bits (leField e 24 16) (2 * s + 1) (2 * s) == 0)

def extentOk (e : List Byte) : Bool :=
  let m := leField e 0 1 % 4
  decide (leField e 0 1 % 128 ≤ 1) &&
  (if m = 0 then leField e 1 1 == 0 && laddrOk (leField e 2 2) else decide (leField e 1 1 ≤ 3) && leField e 2 2 == 0) &&
  decide (1 ≤ leField e 6 2) && decide (leField e 4 2 + leField e 6 2 ≤ if m = 0 then 512 else 16384)

def placeOk (e : List Byte) (dataTiles : Nat) : Bool :=
  decide (leField e 0 1 ≤ 1) &&
  (if leField e 0 1 = 0 then leField e 1 1 == 0 && laddrOk (leField e 2 2) else decide (leField e 1 1 ≤ 3) && leField e 2 2 == 0) &&
  decide (1 ≤ leField e 12 4) && decide (leField e 8 4 + leField e 12 4 ≤ dataTiles)

/-- A publish or subscription slot of a cell of a cluster, a region, or the chip (R162): one of the logical cells that hold
work (R19). -/
def slotIn (a lo hi : Nat) : Bool := decide (lo ≤ a) && decide (a < hi) && decide (a / 64 % 16 < 15)

/-- A schedule entry obeys R161 and R162. -/
def schedEntryOk (h e : List Byte) : Bool :=
  let s := leField e 0 2
  let d := leField e 2 2
  let m := leField e 4 1
  let w := leField e 5 1 % 8
  let fwd := (leField e 5 1).testBit 3
  let r := leField h 1 1
  let cl := 8 * r + leField h 2 1
  decide (leField e 5 1 < 16) && zeroBytes e 6 2 &&
  (if leField h 0 1 = 2 then
    decide (w ≤ 3) && !fwd && m == 0 && slotIn d (1024 * cl) (1024 * cl + 1024) &&
      (if w = 0 then decide (s < 1024) else slotIn s (1024 * cl) (1024 * cl + 1024))
  else if leField h 0 1 = 1 then
    decide (w ≤ 4) && m != 0 && decide (d < 1024) &&
      (if fwd then decide (s < 4096) else decide (1 ≤ w) && slotIn s (8192 * r) (8192 * r + 8192))
  else
    decide (w ≤ 4) && !fwd &&
      (if w = 0 then decide (32768 ≤ s) && inAssigned (s - 32768) else slotIn s 0 32768) &&
      (if 32768 ≤ d then outAssigned (d - 32768) && w == 4 && m == 0 else decide (d < 4096) && decide (m < 16)))

/-- A schedule block obeys R208. -/
def blockOk (x : List Byte × List (List Byte)) : Bool :=
  let h := x.1
  let k := leField h 0 1
  decide (k ≤ 2) && zeroBytes h 3 1 && zeroBytes h 8 8 &&
  (if k = 0 then leField h 1 1 == 0 else decide (leField h 1 1 ≤ 3)) &&
  (if k = 2 then decide (leField h 2 1 ≤ 7) else leField h 2 1 == 0) &&
  x.2.all (schedEntryOk h) && notFalling (x.2.map (fun e => leField e 5 1 % 8))

def symbolOk (e : List Byte) : Bool :=
  let k := leField e 4 1
  let l := leField e 8 4
  decide (k ≤ 3) && leField e 0 4 != 0 && zeroBytes e 12 4 &&
  (if k = 0 ∨ k = 2 then laddrOk (leField e 6 2) else decide (leField e 6 2 ≤ 3)) &&
  (if k ≤ 1 then within (leField e 5 1) 1 64 && l % 4 == 0 && decide (l % 256 + 4 * leField e 5 1 ≤ 256) &&
      decide (l / 256 < if k = 0 then 512 else 16384)
   else leField e 5 1 == 1 && decide (l < if k = 2 then 64 else 1024))

/-- A delay lies within R191 for its line. -/
def Line.delayOk (l : Line) (d : Nat) : Bool := decide (d < 64 * l.tiles) && (!l.dram || decide (64 ≤ d))

/-- A line of the image obeys R189, R207 and R211, with `taps` taps on it. -/
def Chip.lineOk (c : Chip) (e : List Byte) (taps : Nat) : Bool :=
  let l := readLine e
  let live : Option Line := match c.graph.live with
    | some g => g.lines.find? (fun x => x.region == l.region && x.line == l.line)
    | none => none
  decide (l.region ≤ 3) && decide (leField e 1 1 ≤ 3) && decide (l.line ≤ 511) && within l.tiles 1 262144 && zeroBytes e 14 2 &&
  (if l.dram then decide (l.buf + 2 + 2 * taps ≤ 16384)
   else decide (l.base + l.tiles ≤ 16384) && l.buf == 0) &&
  (!l.keep || (match live with
    | some x => x.dram == l.dram && x.base == l.base && x.tiles == l.tiles
    | none => true))

def tapOk (e : List Byte) (ls : List Line) : Bool :=
  let t := readTap e
  decide (t.region ≤ 3) && zeroBytes e 1 1 && decide (t.tap ≤ 1023) && zeroBytes e 6 2 && zeroBytes e 12 4 &&
  (match ls.find? (fun l => l.region == t.region && l.line == t.line) with
    | some l => l.delayOk t.delay
    | none => false)

/-- The output endpoints that the chip block names. -/
def Graph.chipOuts (g : Graph) : List Nat :=
  ((g.sched1 0).filter (fun e => decide (32768 ≤ e.dst))).map (fun e => e.dst - 32768)

/-- Step 6 of R209. -/
def Chip.imageOk (c : Chip) (b : List Byte) : Bool :=
  let g := readGraph b
  let cells := secEntries b 0
  let buds := secEntries b 1
  let n := leField b 18 2
  let blocks := schedBlocks (secBytes b 6) (secCnt b 6)
  let owned (k : Nat) : Bool := g.cells.any (fun e => e.laddr == k)
  zeroBytes b 17 1 && zeroBytes b 44 20 && within (leField b 12 1) 1 6 && decide (leField b 13 1 ≤ 1) && within n 1 480 &&
  decide (leField b 20 4 < 2 ^ 31) && leField b 24 8 != 0 && (g.patch == (leField b 32 8 != 0)) && sectionsOk b g.patch &&
  cells.length == n && buds.length == n && cells.all (fun e => cellOk e (secCnt b 2)) && rising (cells.map (fun e => leField e 0 2)) &&
  buds.all budgetOk && decide (cells.map (fun e => leField e 0 2) = buds.map (fun e => leField e 0 2)) &&
  (secEntries b 3).all extentOk && (secEntries b 4).all (fun e => placeOk e (secCnt b 5)) &&
  blocks.length == secCnt b 6 && blocks.foldl (fun k x => k + 16 + 8 * x.2.length) 0 == secLen b 6 && blocks.all blockOk &&
  distinct (blocks.map (fun x => exchOf x.1)) &&
  (secEntries b 7).all (fun e => zeroBytes e 2 2 && (inAssigned (leField e 0 2) || outAssigned (leField e 0 2))) &&
  rising g.endpoints && (g.patch || decide (g.chipOuts.eraseDups.length = g.outs.length) && g.outs.all (fun o => g.chipOuts.contains o)) &&
  (secEntries b 8).all symbolOk && rising (g.symbols.map (fun s => s.handle)) &&
  ((secEntries b 9).all (fun e =>
    c.lineOk e (g.taps.filter (fun t => t.region == leField e 0 1 && t.line == leField e 2 2)).length)) &&
  distinct (g.lines.map (fun l => 512 * l.region + l.line)) && (secEntries b 10).all (fun e => tapOk e g.lines) &&
  distinct (g.taps.map (fun t => 1024 * t.region + t.tap)) && zeroBytes (secBytes b 11) 12 4 &&
  (entries ((secBytes b 11).drop 16) 4 (secCnt b 11)).all (fun e =>
    outAssigned (leField e 0 2) && [16, 20, 24].contains (leField e 2 1) && zeroBytes e 3 1) && distinct (g.dither.map (fun d => d.ep)) &&
  (!g.patch || (g.extents.all (fun e => e.mem == 0 && owned e.laddr) && g.places.all (fun p => p.mem == 0 && owned p.laddr) &&
    g.symbols.all (fun s => (s.kind == 0 || s.kind == 2) && owned s.owner) &&
    g.sched.all (fun k => decide (5 ≤ k.exch) && g.cells.any (fun e => e.laddr / 16 == k.exch - 5))))

/-! ## Tile space (R210) -/

/-- Two extents lie in the same physical memory. -/
def Extent.same (a b : Extent) : Bool := a.mem == b.mem && (if a.mem = 0 then a.laddr == b.laddr else a.region == b.region)

/-- Two ranges of tiles have none in common. -/
def apart (a n b m : Nat) : Bool := decide (a + n ≤ b) || decide (b + m ≤ a)

/-- No two extents of a list overlap. -/
def extentsApart : List Extent → Bool
  | [] => true
  | e :: r => r.all (fun x => !e.same x || apart e.first e.count x.first x.count) && extentsApart r

/-- The graph that a fade ends, whose tiles are not yet free (R203). -/
def Chip.fading (c : Chip) : List Graph := (c.graph.fade.bind (fun f => f.old)).toList

/-- The tile space check of R210; for a patch the live allocations of the patched cells are left out but for what a
KEEP extent names (R209). -/
def Chip.tileSpace (c : Chip) (g : Graph) : Bool :=
  let gone (k : Nat) : Bool := g.patch && g.cells.any (fun e => e.laddr == k)
  let live : List Extent := match c.graph.live with
    | some l => l.extents
    | none => []
  let others := live.filter (fun e => !(e.mem == 0 && gone e.laddr)) ++ c.fading.flatMap (fun o => o.extents)
  let progs : List CellEntry := (match c.graph.live with
    | some l => l.cells.filter (fun e => !gone e.laddr)
    | none => []) ++ c.fading.flatMap (fun o => o.cells)
  let held (r t : Nat) : Bool := g.extents.any (fun e => e.mem == 1 && e.region == r && decide (e.first ≤ t) && decide (t < e.first + e.count))
  extentsApart g.extents &&
  g.places.all (fun p => g.extents.any (fun e => !e.keep && e.mem == p.mem &&
    (if p.mem = 0 then e.laddr == p.laddr else e.region == p.region) && decide (e.first ≤ p.dst) && decide (p.dst + p.count ≤ e.first + e.count))) &&
  g.extents.all (fun e =>
    if e.keep then live.any (fun x => x.same e && x.first == e.first && x.count == e.count)
    else others.all (fun x => !x.same e || apart e.first e.count x.first x.count)) &&
  g.cells.all (fun e => progs.all (fun x => x.laddr != e.laddr || apart e.progBase e.progTiles x.progBase x.progTiles)) &&
  g.lines.all (fun l =>
    if l.dram then
      let taps := (g.taps.filter (fun t => t.region == l.region && t.line == l.line)).length
      decide (256 * (l.base + l.tiles) ≤ c.dramUsable) && (List.range (2 + 2 * taps)).all (fun i => held l.region (l.buf + i))
    else (List.range l.tiles).all (fun i => held l.region (l.base + i)))

/-! ## The load -/

/-- The header identifies an image for this part (step 4 of R209). -/
def versionOk (b : List Byte) : Bool :=
  leField b 0 4 == 0x4D49475A && leField b 4 1 == 2 && leField b 5 1 == 0 && leField b 6 2 == 0x100 && leField b 14 2 == 0x200 &&
  leField b 16 1 == 0xB1 && leField b 8 4 == b.length

/-- Steps 4 to 8 of R209 for an image of bytes `b`; `bad` says that a tile of it failed its DRAM check. -/
def Chip.loadReason (c : Chip) (b : List Byte) (bad : Bool) : Nat :=
  if !versionOk b then rImageVersion
  else if bad || leField b 40 4 != (crc32c (b.take 40 ++ [0, 0, 0, 0] ++ b.drop 44)).toNat then rCheckFail
  else if !c.imageOk b then rBadParam
  else if 1048576 < ((List.range 12).filter (fun i => i != 2 && i != 5)).foldl (fun n i => n + secLen b i) 0 then rNoResource
  else if !c.tileSpace (readGraph b) then rTileSpace
  else rOK

/-- The program and data tiles of an image go to their memories (R202). -/
def Chip.writeImage (c : Chip) (b : List Byte) : Chip :=
  let g := readGraph b
  let prog := secBytes b 2
  let data := secBytes b 5
  let c1 := g.cells.foldl (fun c e =>
    c.portTiles (c.physOf e.laddr) false e.progBase (prog.drop (256 * e.progFirst)) e.progTiles) c
  g.places.foldl (fun c p =>
    if p.mem = 0 then c.portTiles (c.physOf p.laddr) true p.dst (data.drop (256 * p.src)) p.count
    else { c with mem := c.mem.putTiles .region (16384 * p.region + p.dst) (data.drop (256 * p.src)) p.count }) c1

end Sys2Proof.Machine
end

