-- ==== Sys2Proof/Machine/GraphEff.lean ====
section
/-! DEFINITION. Commits, patches, fades, class drops, retirement and the stake table: what they do to the engine (R213 to
R228). -/
namespace Sys2Proof.Machine
open Sys2Proof

/-! ## Cells -/

/-- The default timeout of a gain slot: 10 ms in ticks, rounded up (R242). -/
def Chip.tmoDefault (c : Chip) : BitVec 16 :=
  match c.eng.rate with
  | some r => BitVec.ofNat 16 (ceilDiv r.hz 100)
  | none => 0

/-- A gain slot as a commit sets it (R245). -/
def Chip.gainFresh (c : Chip) : GainSlot := { GainSlot.init with tmo := c.tmoDefault, tmoCnt := c.tmoDefault }

/-- A gain slot keeps its state: a KIND 2 symbol of equal HANDLE, OWNER and LOC is in both tables (R245). -/
def gainKept (olds news : List Symbol) (laddr k : Nat) : Bool :=
  news.any (fun s => s.kind == 2 && s.owner == laddr && s.loc == k &&
    olds.any (fun o => o.kind == 2 && o.handle == s.handle && o.owner == laddr && o.loc == k))

/-- A cell takes up a new program (R92, R140, R213, R214, R245). `both` says that the old program goes on beside it. -/
def Chip.startCell (c : Chip) (olds news : List Symbol) (both : Bool) (e : CellEntry) : Chip :=
  let g := c.gainFresh
  c.modCell (c.physOf e.laddr) (fun x =>
    let x1 := x.freshRun e.restart
    let x2 := if both then
        (List.range 64).foldl (fun y s =>
          let y1 := if e.pubUsed.getLsbD s then y.setPub s PubSlot.zero else y
          if e.subUsed.getLsbD s then y1.setSub s SubSlot.zero else y1) x1
      else { x1 with pubs := [], subs := [] }
    (List.range 64).foldl (fun y k => if gainKept olds news e.laddr k then y else y.setGain k g) x2)

/-- An OFF cell: its registers and slots are lost (R147, R149); ENG_CELL_STAT keeps its bits (R150), writes still wait for it,
and a cell that failed to wake executes nothing before reset (R148). -/
def Cell.unpowered (x : Cell) : Cell := { Cell.reset with sticky := x.sticky, writes := x.writes, dead := x.dead }

/-- A cell goes OFF; one in WAKE_FAIL stays there until reset (R148). -/
def Cell.off (x : Cell) : Cell := if x.power == .wakeFail then x else x.unpowered

/-- The cell has work: a running graph assigns it some, a commit due at this boundary does, or a retirement uses it as its spare
(R149, R196). -/
def Chip.hasWork (c : Chip) (i : Nat) : Bool :=
  let l := c.logOf i
  let named (g : Option Graph) : Bool := match g with
    | some g => (c.entryIn g l).isSome
    | none => false
  named c.graph.live ||
  (match c.graph.fade with
    | some f => named f.old
    | none => false) ||
  (match c.graph.bank with
    | .scheduled g => named (some g) && c.cmd.sched.any (fun s => s.op == 0x0202 && decide (s.tick ≤ c.tickN))
    | _ => false) ||
  (match c.graph.retire with
    | some r => l == 16 * (r.laddr / 16) + 15
    | none => false)

/-- No access of the cell's to the region memory port, or of the port's to its memories, is pending (R149). -/
def Cell.portIdle (x : Cell) : Bool := x.moves.isEmpty && x.writes.isEmpty && x.streamer.all (fun t => t.refills.isEmpty)

/-- At a boundary, ON cells without work and without a pending port access go OFF (R149). -/
def Chip.cellsOff (c : Chip) : Chip :=
  { c with cells := Map.mapVals cell0 (fun i x => if x.power == .on && x.portIdle && !c.hasWork i then x.off else x) c.cells }

/-- The background and traverse of cells that no running graph assigns any work stop. -/
def Chip.stopIdle (c : Chip) : Chip :=
  { c with cells := Map.mapVals cell0 (fun i x =>
      if (c.progs i).isEmpty && (x.ctx != .idle || x.bg != .noProgram) then
        { x.flush with ctx := .idle, legDone := true, branch := none, bg := .noProgram, bgSaved := false, bbranch := none, bgWrote := [] }
      else x) c.cells }

/-! ## Buffers, lines and outputs -/

/-- The staging entries that a graph reads at tick entry and that no XI transfer of it writes, and likewise the
inbound entries (R213, R214). -/
def Graph.stagedRead (g : Graph) : List Nat :=
  let wrote := (List.range 4).flatMap (fun r =>
    ((g.sched1 (1 + r)).filter (fun e => e.win == 0)).flatMap (fun e => (maskBits e.mask 8).map (fun b => 1024 * (8 * r + b) + e.dst % 1024)))
  ((List.range 32).flatMap (fun cl =>
    ((g.sched1 (5 + cl)).filter (fun e => e.win == 0)).map (fun e => 1024 * cl + e.src % 1024))).filter (fun k => !wrote.contains k)

def Graph.inboundRead (g : Graph) : List Nat :=
  let wrote := ((g.sched1 0).filter (fun e => e.win == 0)).flatMap (fun e => (maskBits e.mask 4).map (fun r => 4096 * r + e.dst % 4096))
  ((List.range 4).flatMap (fun r =>
    ((g.sched1 (1 + r)).filter (fun e => e.win == 0 && e.fwd)).map (fun e => 4096 * r + e.src % 4096))).filter (fun k => !wrote.contains k)

/-- Those entries hold 0 without poison. -/
def Chip.clearStaged (c : Chip) (g : Graph) : Chip :=
  let c1 := g.stagedRead.foldl (fun c k => c.setStaging k Sample.zero) c
  g.inboundRead.foldl (fun c k => c.setInbound k Sample.zero) c1

/-- The line of the old graph whose content a line of the new image inherits (R211). -/
def inherited (old : Option Graph) (x : Line) : Option Line :=
  if x.keep then old.bind (fun o => o.lines.find? (fun y => y.key == x.key)) else none

/-- A tap that goes on as it is: its line is inherited, and neither its delay nor its BUF changes. -/
def tapGoesOn (old : Option Graph) (g : Graph) (t : Tap) : Bool :=
  g.lines.any (fun x => x.region == t.region && x.line == t.line && (inherited old x).isSome) &&
    old.any (fun o => o.taps.contains t && o.tapBuf t 0 == g.tapBuf t 0)

/-- The lines and taps of a newly live image: an inherited line carries on, and what waits in a BUF that it gives up goes to DRAM
at once; any other starts empty (R192, R211). A tap that changes has its tiles read before the boundary (log entry 49). -/
def Chip.startLines (c : Chip) (old : Option Graph) (g : Graph) : Chip :=
  let c1 := g.lines.foldl (fun c x =>
    match inherited old x with
    | some o => if o.buf = x.buf then c else c.flushLine o
    | none => c.setLine x.key LineState.reset) c
  g.taps.foldl (fun c t =>
    if tapGoesOn old g t then c
    else if old.any (fun o => o.taps.any (fun u => u.key == t.key && u.line == t.line)) then c.primeTap t
    else (c.setTap t.key TapState.reset).primeTap t) c1

/-- Lines and taps that no running graph names any longer end. -/
def Chip.endLines (c : Chip) : Chip :=
  let ls := c.linesLive
  let ts := c.tapsLive
  { c with chain := { c.chain with
      lines := Map.mapVals line0 (fun k x => if ls.any (fun l => 512 * l.region + l.line == k) then x else LineState.reset) c.chain.lines
      taps := Map.mapVals tap0 (fun k x => if ts.any (fun t => 1024 * t.region + t.tap == k) then x else TapState.reset) c.chain.taps } }

/-- Every output channel that the graph drives has no held value yet, and every dithered one starts its state (R58,
R255). -/
def Chip.startOuts (c : Chip) (g : Graph) : Chip :=
  let c1 := g.outs.foldl (fun c ep => c.modOut ep (fun o => { o with held := none, pending := Sample.zero, got := 0 })) c
  g.dither.foldl (fun c d => c.modOut d.ep (fun o => { o with dither := ditherStart g.seed d.ep })) c1

/-! ## Priority classes (R222, R223) -/

/-- Output channels fed by a dropped cell ramp out from their last committed value; channels whose cell runs again
ramp in (R223). -/
def Chip.dropOuts (c : Chip) : Chip :=
  match c.graph.live with
  | none => c
  | some g =>
    g.outs.foldl (fun c ep =>
      let gone := match g.driver ep with
        | some e => decide (c.graph.dropFrom ≤ e.cls)
        | none => false
      c.modOut ep (fun o =>
        match o.mute with
        | .drop _ _ => if gone then o else { o with mute := .ramIn 0, h := 0, c := 0 }
        | .muted => if gone then { o with mute := .drop 64 0, h := 0, c := 0 } else o
        | _ => if gone then { o with mute := .drop 0 o.last, h := 0, c := 0 } else o)) c

/-- The programs of a graph whose class lies in a range. -/
def Chip.inClasses (c : Chip) (lo hi : Nat) : List CellEntry :=
  let get (g : Option Graph) : List CellEntry := match g with
    | some g => g.cells.filter (fun e => decide (lo ≤ e.cls) && decide (e.cls < hi))
    | none => []
  (match c.graph.fade with
    | some f => get f.old
    | none => []) ++ get c.graph.live

/-- Cells stop: their publish slots deliver 0 without poison, and they execute nothing. -/
def Chip.haltCells (c : Chip) (es : List CellEntry) : Chip :=
  es.foldl (fun c e => c.modCell (c.physOf e.laddr) (fun x =>
    { x.flush with pubs := [], ctx := .idle, legDone := true, branch := none, bg := .noProgram, bgSaved := false, bbranch := none,
                   bgWrote := [] })) c

/-- A cell starts anew: an ON one under R92 and R140, and an OFF one is woken first (R223, R515). -/
def Cell.rerun (x : Cell) (restart : Nat) : Cell :=
  match x.power with
  | .on => x.freshRun restart
  | .off => { x.unpowered with power := .waking }
  | _ => x

/-- Cells start anew. -/
def Chip.rerunCells (c : Chip) (es : List CellEntry) : Chip :=
  es.foldl (fun c e => c.modCell (c.physOf e.laddr) (fun x => x.rerun e.restart)) c

/-- The classes from `from_` on are dropped; those below run (R222, R223). -/
def Chip.setDrop (c : Chip) (from_ : Nat) : Chip :=
  let was := c.graph.dropFrom
  let c1 := { c with graph := { c.graph with dropFrom := from_ } }
  let c2 := if from_ < was then c1.haltCells (c1.inClasses from_ was) else c1.rerunCells (c1.inClasses was from_)
  c2.dropOuts

/-! ## Commits -/

/-- The settle counts of the named regions start again (R221). -/
def Chip.unsettle (c : Chip) (rs : List Nat) : Chip :=
  rs.foldl (fun c r => { c with graph := { c.graph with settleCnt := Map.put (fun _ => 0) c.graph.settleCnt r 0,
                                                        settled := c.graph.settled &&& (15 - 2 ^ r) } }) c

/-- An ENG_GRAPH_EVENT bit. -/
def Chip.graphEvent (c : Chip) (i : Nat) : Chip := c.event Reg.ENG_GRAPH_EVENT i 17 true

/-- The engine state after a commit: a graph is live, so a staked engine runs (GCTL_STATUS.ENGINE), but not at stage 4
(R212, R514). -/
def Chip.runEngine (c : Chip) : Chip :=
  if c.eng.engine == .staked && decide (c.pwr.stage < 4) then { c with eng := { c.eng with engine := .running } } else c

/-- The bytes of a schedule entry (R161). -/
def SchedEntry.bytes (e : SchedEntry) : List Byte :=
  leBytes 2 e.src ++ leBytes 2 e.dst ++ leBytes 1 e.mask ++ leBytes 1 (e.win + 8 * ofFlag e.fwd) ++ leBytes 2 0

/-- The schedule stores take the schedules that run, 32 entries to a tile, each tile with its check word (R161, R173): those of
the old graph behind those of the new one in a fade (R214). -/
def Chip.storeScheds (c : Chip) : Chip :=
  let m := (List.range 37).foldl (fun m x =>
    let l := c.schedOf x
    let n := ceilDiv l.length 32
    m.putTiles .sched (schedTile x 0) (bytesFrom (l.flatMap (fun e => e.2.bytes)) 0 (256 * n)) n) { c.mem with sched := [], schedChk := [] }
  { c with mem := m }

/-- A full image becomes live as a cut (R213) or, with `f` > 0, as a fade of `f` ticks (R214). -/
def Chip.goLive (c : Chip) (g : Graph) (f : Nat) : Chip :=
  let old := c.graph.live
  let olds : List Symbol := match old with
    | some o => o.symbols
    | none => []
  let fading := decide (0 < f)
  let c1 := { c with graph := { c.graph with live := some g, bank := .empty,
                                             fade := if fading then some { old := old, f := f, j := 0 } else none } }
  let shared (e : CellEntry) : Bool := fading && (match old with
    | some o => (o.entry e.laddr).isSome
    | none => false)
  let c2 := g.cells.foldl (fun c e => c.startCell olds g.symbols (shared e) e) c1
  let c3 := ((c2.clearStaged g).startLines old g).startOuts g
  let c4 := if fading then c3 else (c3.endLines.stopIdle).cellsOff
  let c5 := (c4.haltCells (c4.inClasses c4.graph.dropFrom 4)).storeScheds
  (((c5.dropOuts.unsettle [0, 1, 2, 3]).graphEvent 0).runEngine)

/-- The graph that a patch makes of the live one (R219). DESIGN CHOICE (log entry 50): R219 does not name SETTLE; the patch's own
replaces it. -/
def Graph.patched (o p : Graph) : Graph :=
  let own (k : Nat) : Bool := p.cells.any (fun e => e.laddr == k)
  let cells := o.cells.filter (fun e => !own e.laddr) ++ p.cells
  { o with
    imageId := p.imageId, baseId := p.baseId, settle := p.settle, cells := cells,
    extents := o.extents.filter (fun e => !(e.mem == 0 && own e.laddr)) ++ p.extents,
    places := o.places.filter (fun x => !(x.mem == 0 && own x.laddr)) ++ p.places,
    sched := o.sched.filter (fun b => !p.sched.any (fun x => x.exch == b.exch)) ++ p.sched,
    symbols := o.symbols.filter (fun s => !((s.kind == 0 || s.kind == 2) && own s.owner)) ++ p.symbols }

/-- The regions that a patch changes (R221). -/
def Graph.regions (p : Graph) : List Nat :=
  (p.cells.map (fun (e : CellEntry) => e.laddr / 128) ++
    (p.sched.filter (fun (b : SchedBlock) => decide (5 ≤ b.exch))).map (fun (b : SchedBlock) => (b.exch - 5) / 8)).eraseDups

/-- A patch takes effect (R213, R219 to R221). -/
def Chip.goPatch (c : Chip) (p : Graph) : Chip :=
  match c.graph.live with
  | none => c
  | some o =>
    let g := o.patched p
    let c1 := { c with graph := { c.graph with live := some g, bank := .empty } }
    let c2 := p.cells.foldl (fun c e => c.startCell o.symbols g.symbols false e) c1
    let c3 := c2.haltCells ((c2.inClasses c2.graph.dropFrom 4).filter (fun e => p.cells.any (fun x => x.laddr == e.laddr)))
    (((c3.storeScheds).dropOuts.unsettle p.regions).graphEvent 1).cellsOff

/-- The effect of GRAPH_COMMIT: at stage 2 or above a fade takes effect as a cut (R212). -/
def Chip.effCommit (c : Chip) (_ : Nat) (r : Req) : Chip :=
  match c.graph.bank with
  | .scheduled g =>
    if g.patch then c.goPatch g
    else if 2 ≤ c.pwr.stage then
      (let c1 := c.goLive g 0
       if r.p 0 4 = 0 then c1 else c1.graphEvent 3)
    else c.goLive g (r.p 0 4)
  | _ => c

/-- The end of a fade at its last boundary, or as a cut (R214, R216, R217). -/
def Chip.endFade (c : Chip) (cut : Bool) : Chip :=
  match c.graph.fade with
  | none => c
  | some _ =>
    let c1 := { c with graph := { c.graph with fade := none } }
    ((c1.endLines.stopIdle).storeScheds.cellsOff).graphEvent (if cut then 3 else 2)

/-! ## Checks of GRAPH_COMMIT (R212) -/

/-- A cell closes at a rate and CELL frequency (R68). -/
def CellEntry.closes (e : CellEntry) (r : Rate) (slow : Bool) : Bool :=
  (List.range 4).all (fun k => decide (e.decl.getD k 0 ≤ legLen r slow k)) &&
  decide (e.decl.foldl (· + ·) 0 + e.declBg ≤ budget r slow)

/-- Closure of R69. -/
def Graph.closes (g : Graph) (r : Rate) : Bool :=
  g.cells.all (fun e => e.closes r false && (decide (2 < e.cls) || e.closes r true))

/-- The fade rules of R215. -/
def fadeOk (o g : Graph) (r : Rate) : Bool :=
  let fits (a b : CellEntry) (slow : Bool) : Bool :=
    (List.range 4).all (fun k => decide (a.decl.getD k 0 + b.decl.getD k 0 ≤ legLen r slow k)) &&
    decide (a.decl.foldl (· + ·) 0 + b.decl.foldl (· + ·) 0 + b.declBg ≤ budget r slow)
  let cells := g.cells.all (fun b =>
    match o.entry b.laddr with
    | none => true
    | some a =>
      fits a b false && ((decide (2 < a.cls) && decide (2 < b.cls)) || fits a b true) && a.declBg == 0 &&
      decide (a.pubUsed &&& b.pubUsed = 0) && decide (a.subUsed &&& b.subUsed = 0))
  let staged (x : Graph) : List Nat := (List.range 4).flatMap (fun i => (x.sched1 (1 + i)).flatMap (fun e =>
      (maskBits e.mask 8).map (fun b => 1024 * (8 * i + b) + e.dst % 1024))) ++
    (List.range 32).flatMap (fun cl => ((x.sched1 (5 + cl)).filter (fun e => e.win == 0)).map (fun e => 1024 * cl + e.src % 1024))
  let inb (x : Graph) : List Nat := ((x.sched1 0).filter (fun e => decide (e.dst < 32768))).flatMap (fun e =>
      (maskBits e.mask 4).map (fun i => 4096 * i + e.dst % 4096)) ++
    (List.range 4).flatMap (fun i => ((x.sched1 (1 + i)).filter (fun e => e.fwd)).map (fun e => 4096 * i + e.src % 4096))
  let sO := staged o
  let iO := inb o
  cells && (staged g).all (fun k => !sO.contains k) && (inb g).all (fun k => !iO.contains k)

/-- The capacity of a window at the chip or a region exchange (R159). -/
def outerCap (r : Rate) (slow : Bool) (win : Nat) : Nat :=
  if win = 0 then 4096 else if win = 4 then 9216 else 128 * (legLen r slow win - 24)

/-- The schedules of several graphs together fit their windows and buffers, and every cluster delivery lies in the window
of its slot's leg (R160). -/
def slotsOk (gs : List Graph) (r : Rate) : Bool :=
  let slow := gs.any (fun g => g.cells.any (fun e => decide (e.cls ≤ 2)))
  let all (x : Nat) : List SchedEntry := gs.flatMap (fun g => g.sched1 x)
  let count (x w : Nat) : Nat := ((all x).filter (fun e => e.win == w)).length
  (List.range 5).all (fun x => (List.range 5).all (fun w => decide (count x w ≤ outerCap r slow w))) &&
  (List.range 32).all (fun cl => (List.range 4).all (fun w => decide (count (5 + cl) w ≤ if w = 0 then 1024 else 2048))) &&
  (List.range 4).all (fun i => (List.range 8).all (fun b => decide (((all (1 + i)).filter (fun e => e.mask.testBit b)).length ≤ 1024))) &&
  (List.range 4).all (fun i => decide (((all 0).filter (fun e => decide (e.dst < 32768) && e.mask.testBit i)).length ≤ 4096)) &&
  gs.all (fun g => (List.range 32).all (fun cl => (g.sched1 (5 + cl)).all (fun e =>
    e.win == 0 || (match g.entry (e.src / 64) with
      | some c => c.pubLegOf (e.src % 64) == some (e.win - 1)
      | none => false))))

/-- A patch leaves every publish slot that a region or chip schedule reads in its leg (R220). -/
def patchLegsOk (o p : Graph) : Bool :=
  (List.range 5).all (fun x => (o.sched1 x).all (fun e =>
    if (x = 0 ∧ e.win = 0) ∨ e.fwd then true
    else
      match p.entry (e.src / 64), o.entry (e.src / 64) with
      | some n, some a => n.pubLegOf (e.src % 64) == a.pubLegOf (e.src % 64)
      | _, _ => true))

/-- The reason GRAPH_COMMIT is refused with (R212); the limits of R34 are tested on the chip `d` of the effect tick (R297). -/
def Chip.chkCommit (c : Chip) (d : Chip) (r : Req) : Nat :=
  let f := r.p 0 4
  let stateOk := match c.graph.bank with
    | .loaded g =>
      (g.imageId == BitVec.ofNat 64 (r.p 8 8)) && within c.eng.engine.code 1 3 && c.graph.fade.isNone && c.graph.retire.isNone &&
      (!g.patch || (f == 0 && (match c.graph.live with
        | some o => o.imageId == g.baseId
        | none => false))) && !c.rateBlocks r && !c.resyncBars r
    | _ => false
  let k := firstFail ([(r.len == 16, rBadLength), (decide (f ≤ 65535) && r.z 4 4 && r.noHandle, rBadParam), (stateOk, rBadState)] ++
    [(!c.tooFar r, rBadParam), (!c.isLate r, rLate)])
  if k ≠ rOK then k
  else
    match c.graph.bank, c.eng.rate with
    | .loaded g, some rt =>
      let res := match c.graph.live, g.patch with
        | some o, true => o.patched g
        | _, _ => g
      let both := if f = 0 then [res] else (c.graph.live.toList ++ [res])
      firstFail [(g.rate == rt.code, rRateMismatch), (decide (c.pwr.stage < 4) && (f == 0 || decide (c.pwr.stage < 1)), rShedActive),
        (res.closes rt, rBudget),
        (f == 0 || (match c.graph.live with
          | some o => fadeOk o g rt
          | none => true), rFadeBudget),
        (slotsOk both rt && (!g.patch || (match c.graph.live with
          | some o => patchLegsOk o g
          | none => true)), rChainSlots),
        (d.withinLimits (some rt) both, rNoResource), (decide (c.cmd.sched.length < 256), rNoResource)]
    | _, _ => rRateMismatch

/-! ## Retirement (R196, R224) -/

/-- The physical spare of a logical cell's cluster. -/
def Chip.spareOf (c : Chip) (laddr : Nat) : Nat := c.physOf (16 * (laddr / 16) + 15)

/-- CELL_RETIRE takes effect: the spare is woken. -/
def Chip.effRetire (c : Chip) (ch : Nat) (r : Req) : Chip :=
  let l := r.p 0 2 / 64
  let c1 := { c with graph := { c.graph with retire := some { laddr := l, ch := ch, shadow := false, wait := false, left := 0 } } }
  c1.modCell (c1.spareOf l) (fun x => if x.power == .off then { x with power := .waking } else x)

/-- The retirement is abandoned: the table is unchanged, the spare goes OFF, one that failed to wake too, and the command is
answered (R224). -/
def Chip.retireAbandon (c : Chip) (reason : Nat) : Chip :=
  match c.graph.retire with
  | none => c
  | some r =>
    let c1 := { c with graph := { c.graph with retire := none } }
    (c1.modCell (c1.spareOf r.laddr) Cell.unpowered).refuse r.ch reason

/-- The logical cell's entry in the live graph. -/
def Chip.liveEntry (c : Chip) (laddr : Nat) : Option CellEntry :=
  match c.graph.live with
  | some g => g.entry laddr
  | none => none

/-- Copies `n` tiles between two cells' memories from tile `s` to tile `d`: a tile that fails its check is counted and
arrives with the mark (R224). -/
def Chip.copyTiles (c : Chip) (sp : Space) (region s d : Nat) : Nat → Chip
  | 0 => c
  | n + 1 =>
    let bad := c.mem.fails sp s
    let mk := bad || marked (c.mem.entry sp s)
    let c1 := if bad then c.tileCheck 4 0 region (s % (if sp = .prog then 128 else 512)) else c
    ({ c1 with mem := c1.mem.putTile sp d (c1.mem.tile sp s) mk }).copyTiles sp region (s + 1) (d + 1) n

/-- The copy completes: the spare holds the retiring cell's memories and gain slots and starts its program, and the
shadow period begins (R196, R224). -/
def Chip.retireCopied (c : Chip) : Chip :=
  match c.graph.retire with
  | none => c
  | some r =>
    let p := c.physOf r.laddr
    let q := c.spareOf r.laddr
    if r.shadow || (c.cell q).power != .on then c
    else
      let c1 := (c.copyTiles .prog (p / 128) (128 * p) (128 * q) 128).copyTiles .back (p / 128) (512 * p) (512 * q) 512
      let left := match c1.liveEntry r.laddr, c1.graph.live with
        | some _, some g => max g.settle 64
        | _, _ => 0
      let c2 := { c1 with graph := { c1.graph with retire := some { r with shadow := true, wait := true, left := left } } }
      let restart := match c2.liveEntry r.laddr with
        | some e => e.restart
        | none => 0
      c2.modCell q (fun x => { (x.freshRun restart) with gains := (c2.cell p).gains, pubs := [], subs := (c2.cell p).subs })

/-- The swap boundary (R196): entries n and 15 exchange, and the retired cell, which has no work now, goes OFF under R149. -/
def Chip.retireSwap (c : Chip) : Chip :=
  match c.graph.retire with
  | none => c
  | some r =>
    if r.shadow && !r.wait && r.left == 0 then
      let cl := r.laddr / 16
      let a := c.ctt cl (r.laddr % 16)
      let b := c.ctt cl 15
      let p := 16 * cl + a
      let m := Map.put ctt0 (Map.put ctt0 c.chain.ctt (16 * cl + r.laddr % 16) b) (16 * cl + 15) a
      let c1 := { c with chain := { c.chain with ctt := m }, graph := { c.graph with retire := none } }
      let c2 := ((c1.stopIdle.cellsOff).event Reg.ENG_CHAIN_EVENT 5 17 true).graphEvent 4
      c2.done r.ch (leBytes 2 p ++ leBytes 2 (16 * cl + b))
    else c

/-! ## The stake table (R225 to R228) -/

def stake0 : Nat → Half := fun _ => 0

/-- The stake of an index. -/
def Chip.stakeAt (c : Chip) (i : Nat) : Half := Map.get stake0 c.graph.stake i

/-- A table with the entries of a STAKE_SET. -/
def stakeWith (t : Map Half) (r : Req) : Map Half :=
  (List.range (r.p 0 2)).foldl (fun t i =>
    match stakeIdx (r.p (4 + 4 * i) 2) with
    | some k => Map.put stake0 t k (BitVec.ofNat 16 (r.p (6 + 4 * i) 2))
    | none => t) t

/-- The chip with another live stake table. -/
def Chip.setStakes (c : Chip) (t : Map Half) : Chip := { c with graph := { c.graph with stake := t } }

/-- STAKE_SET takes effect. -/
def Chip.effStakeSet (c : Chip) (r : Req) : Chip :=
  let c1 := c.setStakes (stakeWith c.graph.stake r)
  { c1 with graph := { c1.graph with stakeMod := true } }

/-- The stake table as the commands due by now leave it: a change of stake is a cut at its effect boundary (R226). -/
def Chip.stakesDue (c : Chip) : Map Half :=
  ((sortSched c.cmd.sched).filter (fun s => decide (s.tick ≤ c.tickN))).foldl (fun t s =>
    if s.op = 0x0401 then stakeWith t (parseReq s.req)
    else if s.op = 0x0404 then Map.erase s.table 4944
    else t) c.graph.stake

/-- The two copies in the field book (R227, R530). -/
def stakeCopy (b : Bool) : Nat := if b then 0x3000 else 0x800

/-- A copy of the stake table. -/
def Chip.stakeBytes (c : Chip) (b : Bool) : List Byte := c.fb (stakeCopy b) 10240

/-- A copy is valid (R227). -/
def stakeValid (x : List Byte) : Bool :=
  leField x 0 4 == 0x4B54535A && leField x 4 2 == 1 && leField x 6 2 == 4944 && within (leField x 12 1) 1 6 &&
  leField x 60 4 == (crc32c ((x.take 60 ++ [0, 0, 0, 0] ++ x.drop 64).take 9952)).toNat

/-- The newer valid copy: none, A (false) or B (true) (R227). -/
def Chip.stakeNewer (c : Chip) : Option Bool :=
  let a := c.stakeBytes false
  let b := c.stakeBytes true
  match stakeValid a, stakeValid b with
  | true, true =>
    some (decide ((leField b 8 4 + 2 ^ 32 - leField a 8 4) % 2 ^ 32 < 2 ^ 31))
  | true, false => some false
  | false, true => some true
  | false, false => none

/-- The entries of a copy as a table; key 4,944 tells where it came from (ENG_STK_STAT.ORIGIN). -/
def stakeTable (x : List Byte) (b : Bool) : Map Half :=
  Map.put stake0 ((List.range 4944).foldl (fun t i => Map.put stake0 t i (BitVec.ofNat 16 (leField x (64 + 2 * i) 2))) []) 4944
    (if b then 2 else 1)

/-- A staged table becomes the live one. -/
def Chip.loadStakes (c : Chip) (t : Map Half) : Chip :=
  { c with graph := { c.graph with stake := Map.erase t 4944, stakeOrigin := (Map.get stake0 t 4944).toNat, stakeMod := false } }

/-- The effect of a GRAPH opcode at its tick, as far as a later command's check depends on it. -/
def Chip.effGraph (op : Nat) (c : Chip) (ch : Nat) (r : Req) : Chip :=
  if op = 0x0202 then c.effCommit ch r
  else if op = 0x0205 then c.effRetire ch r
  else if op = 0x0401 then c.effStakeSet r
  else c

end Sys2Proof.Machine
end

