-- ==== Sys2Proof/Machine/NetOps.lean ====
section
/-! DEFINITION. The operations of the MACs, the streams, NET_SEND and the PTP servo (R393 to R416). -/
namespace Sys2Proof.Machine
open Sys2Proof

/-! ## Numbers in network order -/

/-- The big-endian number of a list of bytes. -/
def beNat (b : List Byte) : Nat := leNat b.reverse

/-- The `n` big-endian bytes of a number. -/
def beBytes (n v : Nat) : List Byte := (leBytes n v).reverse

/-- Bytes `off` to `off + n − 1` of a frame as a big-endian number. -/
def beField (b : List Byte) (off n : Nat) : Nat := beNat (bytesFrom b off n)

/-- The CRC-32 of IEEE 802.3 (R397). -/
def crc32 (b : List Byte) : Word := crc32With 0xEDB88320 b

/-- The ones' complement sum of big-endian halfwords; an odd last byte is padded with a zero byte. -/
def sum16 : List Byte → Nat → Nat
  | a :: b :: r, acc => sum16 r (acc + a.toNat * 256 + b.toNat)
  | [a], acc => acc + a.toNat * 256
  | [], acc => acc

/-- A ones' complement sum folded to 16 bits. -/
def fold16 (n : Nat) : Nat := if n = 0 then 0 else (n - 1) % 65535 + 1

/-- The checksum of IPv4 and UDP over bytes. -/
def checksum (b : List Byte) : Nat := 65535 - fold16 (sum16 b 0)

/-! ## MACs -/

def mac0 : Nat → MacCfg := fun _ => MacCfg.reset
def Chip.mac (c : Chip) (m : Nat) : MacCfg := Map.get mac0 c.net.macs m
def Chip.setMac (c : Chip) (m : Nat) (v : MacCfg) : Chip := { c with net := { c.net with macs := Map.put mac0 c.net.macs m v } }

def Chip.macEn (c : Chip) (m : Nat) : Bool := c.regBit (Reg.NET_MAC_CFG m) 31
def Chip.macLink (c : Chip) (m : Nat) : Bool := c.regBit (Reg.NET_MAC_STAT m) 31
def Chip.maxFrame (c : Chip) (m : Nat) : Nat := c.regFld (Reg.NET_MAC_CFG m) 15 0
def Chip.macVid (c : Chip) (m : Nat) : Nat := c.regFld (Reg.NET_MAC_VLAN m) 11 0

/-- A MAC's address, the first byte transmitted first. -/
def Chip.macAddr (c : Chip) (m : Nat) : List Byte :=
  leBytes 4 (c.reg (Reg.NET_MAC_ADDR_LO m)).toNat ++ leBytes 2 (c.reg (Reg.NET_MAC_ADDR_HI m)).toNat

/-- One of a MAC's 16 statistics grows (R416). -/
def Chip.netStat (c : Chip) (m i n : Nat) : Chip :=
  let k := 16 * m + i
  { c with net := { c.net with stats := Map.upd (fun _ => 0) c.net.stats k (fun v => v + BitVec.ofNat 64 n) } }

/-- A NET event; bits 5 to 8 always signal vector 11, bits 0 to 4 by the level of their class (R418). -/
def Chip.netEvent (c : Chip) (i : Nat) : Chip :=
  c.event Reg.NET_EVENT i 11 (decide (5 ≤ i) || decide (1 ≤ c.level (13 + i)))

/-- A counted NET fault with a LAST field. -/
def Chip.netCount (c : Chip) (a hi last ev : Nat) (cls : FaultClass) : Chip :=
  let c1 := ((c.bump a).setFld a hi 16 last).netEvent ev
  c1.raise cls blkNET (c1.reg a)

/-- TXDIS of a MAC's cage (R394). -/
def Chip.txdis (c : Chip) (m : Nat) : Chip :=
  c.setBit (Reg.NET_MAC_STAT m) 24 (!c.macEn m || c.regBit (Reg.NET_MAC_STAT m) 27)

/-- EN of a MAC is written: the FRAME_LIMIT check guards it, and a force-gated NET (R295, R352, R417). -/
def Chip.macEnable (c : Chip) (m : Nat) (on : Bool) : Chip :=
  if on then
    if c.macEn m then c
    else
      let ok := decide (1518 ≤ c.maxFrame m) && decide (c.maxFrame m ≤ 9216)
      let k := if c.forced 2 then rBadState else if ok then rOK else rFrameLimit
      let c1 := c.setReg (Reg.NET_MAC_REASON m) (BitVec.ofNat 32 k)
      if k = rOK then ((c1.setBit (Reg.NET_MAC_CFG m) 31 true).setBit Reg.CLK_GATE_STAT (14 + m) true).txdis m else c1
  else (c.setBit (Reg.NET_MAC_CFG m) 31 false).txdis m

/-- A bit of a MAC's hash table (R397). -/
def Chip.hashBit (c : Chip) (m b : Nat) : Bool := c.regBit (Reg.NET_HASH m (b / 32)) (b % 32)

/-! ## Streams: what a configuration says -/

/-- S of a packet time code at a rate; none where the code is not supported (R404). -/
def ptimeS (code : Nat) (r : Rate) : Option Nat :=
  match code with
  | 0 => some (48 * r.mult)
  | 1 => some (12 * r.mult)
  | 2 => some (6 * r.mult)
  | 3 => some (3 * r.mult)
  | 4 => if r.mult = 1 then none else some (3 * r.mult / 2)
  | _ => none

/-- Bytes per sample of a format (R403). -/
def fmtW (f : Nat) : Nat := f + 2

def Stream.fmt (s : Stream) : Nat := leField s.cfg 2 1
def Stream.code (s : Stream) : Nat := leField s.cfg 6 1
def Stream.rate (s : Stream) : Option Rate := Rate.ofCode (leField s.cfg 7 1)
def Stream.pt (s : Stream) : Nat := leField s.cfg 8 1
def Stream.flags (s : Stream) : Nat := leField s.cfg 9 1
def Stream.depth (s : Stream) : Nat := leField s.cfg 10 2
def Stream.link (s : Stream) : Nat := leField s.cfg 12 4
def Stream.ssrcRx (s : Stream) : Nat := leField s.cfg 16 4
/-- OFFSET: bytes 20 to 23 of a receive stream, 16 to 19 of a transmit stream. -/
def Stream.offset (s : Stream) (tx : Bool) : Nat := if tx then leField s.cfg 16 4 else leField s.cfg 20 4

/-- S of a stream at its own rate. -/
def Stream.spp (s : Stream) : Option Nat := s.rate.bind (ptimeS s.code)

/-- Payload bytes of a packet of `n` samples. -/
def Stream.payloadLen (s : Stream) (n : Nat) : Nat := n * s.ch * fmtW s.fmt

/-- A leg of a receive stream: MAC, IP version, port, destination address and source filter (R417). -/
structure Leg where
  mac : Nat
  ver : Nat
  port : Nat
  dst : List Byte
  src : List Byte
deriving DecidableEq, Repr

def legAt (b : List Byte) (o : Nat) : Leg :=
  let n := if leField b (o + 1) 1 = 4 then 4 else 16
  { mac := leField b o 1, ver := leField b (o + 1) 1, port := leField b (o + 2) 2, dst := bytesFrom b (o + 4) n,
    src := bytesFrom b (o + 20) n }

/-- The legs of a receive stream. -/
def Stream.legs (s : Stream) : List Leg := legAt s.cfg 24 :: (if s.flags.testBit 2 then [legAt s.cfg 60] else [])

/-- The MACs a stream uses with their IP versions. -/
def Stream.paths (s : Stream) (tx : Bool) : List (Nat × Nat) :=
  if tx then [(leField s.cfg 26 1, leField s.cfg 11 1)] else s.legs.map (fun l => (l.mac, l.ver))

/-- The frame length F of a stream's packets on a MAC (R405). -/
def Chip.frameLen (c : Chip) (s : Stream) (n mac ver : Nat) : Nat :=
  14 + (if c.macVid mac = 0 then 0 else 4) + (if ver = 4 then 20 else 40) + 8 + 12 + s.payloadLen n + 4

/-- Packets per second of a stream (R405). -/
def pps (r : Rate) (n : Nat) : Nat := ceilDiv r.hz n

/-! ## Streams: budgets and the enable check (R411) -/

/-- The packet rate committed by the enabled streams of a direction: receive legs, or transmit streams. -/
def Chip.ppsSum (c : Chip) (dir : Nat) : Nat :=
  (c.enStreams dir).foldl (fun n e =>
    match e.2.rate, e.2.spp with
    | some r, some k => n + pps r k * (e.2.paths (dir == 1)).length
    | _, _ => n) 0

/-- The wire load of a MAC and direction in bits per second. -/
def Chip.wireSum (c : Chip) (dir mac : Nat) : Nat :=
  (c.enStreams dir).foldl (fun n e =>
    match e.2.rate, e.2.spp with
    | some r, some k =>
      (e.2.paths (dir == 1)).foldl (fun n p =>
        if p.1 = mac then n + 8 * (c.frameLen e.2 k p.1 p.2 + 20) * pps r k else n) n
    | _, _ => n) 0

/-- Buffer samples of the enabled receive streams (NET_STRM_BUF). -/
def Chip.bufSum (c : Chip) : Nat := (c.enStreams 0).foldl (fun n e => n + e.2.ch * e.2.depth) 0

/-- The enable check of a stream: receive at its number, transmit at 512 plus it (R411). -/
def Chip.streamCheck (c : Chip) (k : Nat) : Nat :=
  let s := c.stream k
  let dir := k / 512
  let d := c.setStream k { s with en := true }
  let clash := (c.enStreams dir).any (fun e => e.1 != k && decide (s.first < e.2.first + e.2.ch) && decide (e.2.first < s.first + s.ch))
  let paths := s.paths (dir == 1)
  let load := paths.all (fun p =>
    decide (10 * d.wireSum dir p.1 ≤ 9 * (if c.regBit (Reg.NET_MAC_CFG p.1) 30 then 25000000000 else 10000000000)))
  let fits := match s.spp with
    | some n => paths.all (fun p => decide (c.frameLen s n p.1 p.2 ≤ c.maxFrame p.1))
    | none => false
  firstFail [(s.rate.isSome && s.rate == c.rateNow && decide (d.ppsSum dir ≤ 8000000) && load, rStreamRate), (fits, rPtime),
    (!clash && d.limitsHold && (dir == 1 || decide (d.bufSum ≤ 524288)), rNoResource)]

/-- What STREAM_ENABLE refuses with BAD_STATE (R411). -/
def Chip.streamReady (c : Chip) (k : Nat) : Bool :=
  let s := c.stream k
  !s.cfg.isEmpty && !s.en && (s.paths (decide (512 ≤ k))).all (fun p => c.macEn p.1)

/-- The result of a stream's enable check (NET_STRM_REASON). -/
def Chip.strmReason (c : Chip) (k v : Nat) : Chip := c.setReg Reg.NET_STRM_REASON (putFld (putFld 0 25 16 k) 15 0 v)

/-- A stream is enabled: its statistics and its buffer start anew (R411). -/
def Chip.streamStart (c : Chip) (k : Nat) : Chip :=
  c.setStream k { Stream.reset with cfg := (c.stream k).cfg, en := true }

/-- The endpoints of a receive stream that it no longer carries return to their reset (R155). -/
def Chip.dropInputs (c : Chip) (first n : Nat) : Chip :=
  (List.range n).foldl (fun c i => if c.carried (0x1000 + first + i) then c else c.setIn (0x1000 + first + i) InCh.reset) c

/-- A stream is disabled. -/
def Chip.streamStop (c : Chip) (k : Nat) : Chip :=
  let s := c.stream k
  let c1 := c.setStream k { s with en := false, buf := [], prev := [], gap := 0, started := false, okA := 0, okB := 0, gather := [] }
  if k < 512 then c1.dropInputs s.first s.ch else c1

/-- Boundary T+64 of a SET_RATE: every enabled stream becomes disabled (R412). -/
def Chip.streamsOff (c : Chip) : Chip :=
  (c.enStreams 0 ++ c.enStreams 1).foldl (fun c e => ((c.streamStop e.1).strmReason e.1 rStreamRate).netEvent 8) c

/-- A statistic of a stream grows. -/
def Stream.count (s : Stream) (i n : Nat) : Stream :=
  { s with stats := Map.upd (fun _ => 0) s.stats i (fun v => (v + n) % 2 ^ 64) }

/-! ## IP datagrams -/

/-- What the filters read of a datagram: IP version, addresses, ports, and the UDP part (header and payload). -/
structure Udp where
  ver : Nat
  src : List Byte
  dst : List Byte
  sport : Nat
  dport : Nat
  part : List Byte
deriving DecidableEq, Repr

/-- Reads an unfragmented UDP datagram behind an Ethernet header of `h` bytes with EtherType `et` (R398). -/
def parseUdp (f : List Byte) (h et : Nat) : Option Udp :=
  let b := f.drop h
  let mk (ver : Nat) (src dst rest : List Byte) : Option Udp :=
    if rest.length < 8 then none
    else
      some { ver := ver, src := src, dst := dst, sport := beField rest 0 2, dport := beField rest 2 2,
             part := rest.take (beField rest 4 2) }
  if et = 0x0800 then
    let ihl := 4 * (beField b 0 1 % 16)
    if beField b 0 1 / 16 = 4 ∧ 20 ≤ ihl ∧ beField b 9 1 = 17 ∧ beField b 6 2 % 0x4000 = 0 then
      mk 4 (bytesFrom b 12 4) (bytesFrom b 16 4) ((b.take (beField b 2 2)).drop ihl)
    else none
  else if et = 0x86DD then
    if beField b 0 1 / 16 = 6 ∧ beField b 6 1 = 17 then
      mk 6 (bytesFrom b 8 16) (bytesFrom b 24 16) ((b.drop 40).take (beField b 4 2))
    else none
  else none

/-- The sum of the UDP pseudo header of IPv4 or IPv6. -/
def pseudoSum (src dst : List Byte) (len : Nat) : Nat := sum16 src 0 + sum16 dst 0 + 17 + len

/-- The UDP checksum to send, never 0. -/
def udpSum (src dst part : List Byte) : Nat :=
  let k := 65535 - fold16 (pseudoSum src dst part.length + sum16 part 0)
  if k = 0 then 65535 else k

/-- The UDP length is that of the part and its checksum, when not 0, is right (R407). -/
def Udp.good (u : Udp) : Bool :=
  decide (beField u.part 4 2 = u.part.length) &&
  (beField u.part 6 2 == 0 || decide (fold16 (pseudoSum u.src u.dst u.part.length + sum16 u.part 0) = 65535))

/-- A UDP part around a payload. -/
def udpPart (src dst : List Byte) (sport dport : Nat) (p : List Byte) : List Byte :=
  let h (s : Nat) : List Byte := beBytes 2 sport ++ beBytes 2 dport ++ beBytes 2 (8 + p.length) ++ beBytes 2 s ++ p
  h (udpSum src dst (h 0))

/-- An IPv4 header (R406): identification `id`, flags and offset `fl`. -/
def ip4Header (tos len id fl ttl : Nat) (src dst : List Byte) : List Byte :=
  let h (s : Nat) : List Byte :=
    [0x45] ++ beBytes 1 tos ++ beBytes 2 len ++ beBytes 2 id ++ beBytes 2 fl ++ beBytes 1 ttl ++ [17] ++ beBytes 2 s ++ src ++ dst
  h (checksum (h 0))

/-- An IPv6 header with flow label 0. -/
def ip6Header (tc len hop : Nat) (src dst : List Byte) : List Byte :=
  beBytes 4 (6 * 2 ^ 28 + tc * 2 ^ 20) ++ beBytes 2 len ++ [17] ++ beBytes 1 hop ++ src ++ dst

/-- A datagram in an Ethernet frame without tag, padding and FCS. -/
def Chip.udpFrame (c : Chip) (m ver tos ttl fl : Nat) (dmac dst : List Byte) (sport dport : Nat) (p : List Byte) : List Byte :=
  let src := if ver = 4 then bytesFrom (c.mac m).ipv4 0 4 else bytesFrom (c.mac m).ipv6 0 16
  let u := udpPart src dst sport dport p
  dmac ++ c.macAddr m ++ (if ver = 4 then beBytes 2 0x0800 ++ ip4Header tos (20 + u.length) 0 fl ttl src dst
    else beBytes 2 0x86DD ++ ip6Header tos u.length ttl src dst) ++ u

/-! ## Transmit streams -/

/-- The media count of a tick for a stream (Media count and the transmit schedule). -/
def Chip.mediaCount (c : Chip) (tick off : Nat) : Nat :=
  (tick + (c.reg Reg.DTM_MEDIA_OFF_LO).toNat + 2 ^ 32 * (c.reg Reg.DTM_MEDIA_OFF_HI).toNat + off) % 2 ^ 64

/-- The bytes of a sample in a format (R403). -/
def fmtBytes (f : Nat) (v : Word) : List Byte := beBytes (fmtW f) (v.toNat / 2 ^ (32 - 8 * fmtW f))

/-- The packet of a transmit stream that carries `smp`, the samples of ticks N to N + S − 1 (R406). -/
def Chip.rtpFrame (c : Chip) (s : Stream) (n spp : Nat) (smp : List (List Word)) : List Byte :=
  let m := c.mediaCount n (s.offset true)
  let rtp := [0x80] ++ beBytes 1 s.pt ++ beBytes 2 ((m / spp + leField s.cfg 20 2) % 65536) ++ beBytes 4 (m % 2 ^ 32) ++
    beBytes 4 (leField s.cfg 12 4) ++ smp.flatMap (fun t => t.flatMap (fmtBytes s.fmt))
  let ver := leField s.cfg 11 1
  c.udpFrame (leField s.cfg 26 1) ver (4 * leField s.cfg 9 1) (leField s.cfg 10 1) 0x4000 (bytesFrom s.cfg 28 6)
    (bytesFrom s.cfg 36 (if ver = 4 then 4 else 16)) (leField s.cfg 22 2) (leField s.cfg 24 2) rtp

/-- A frame waits to be sent. -/
def Chip.queueFrame (c : Chip) (f : TxFrame) : Chip := { c with net := { c.net with queue := c.net.queue ++ [f] } }

/-- A transmit stream in a tick: it takes the samples presented, and queues the packet they complete (R406). Samples gathered before a
change of DTM_MEDIA_OFF that no longer stand where M places them are dropped. -/
def Chip.streamGather (c : Chip) (k : Nat) : Chip :=
  let s := c.stream k
  match s.spp with
  | none => c
  | some n =>
    let smp := (List.range s.ch).map (fun i => (c.outCh (0x5000 + s.first + i)).presented.v)
    let at_ := c.mediaCount c.tickN (s.offset true) % n
    let g := if at_ = 0 then [smp] else if s.gather.length = at_ then s.gather ++ [smp] else []
    if g.length = n then
      (c.queueFrame { mac := leField s.cfg 26 1, kind := 0, bytes := c.rtpFrame s (c.tickN + 1 - n) n g, src := k - 512 }).setStream k
        { s with gather := [] }
    else c.setStream k { s with gather := g }

/-! ## Receive streams -/

/-- A receive stream at a boundary (R409, R410). -/
def Chip.streamPresent (c : Chip) (k : Nat) : Chip :=
  let s0 := c.stream k
  let s := { s0 with okA := s0.okA - 1, okB := s0.okB - 1 }
  let show1 (c : Chip) (v : List Word) : Chip :=
    (List.range s.ch).foldl (fun c i => c.present (0x1000 + s.first + i) { v := v.getD i 0, p := false }) c
  match Map.get (fun _ => ([] : List Word)) s.buf c.tickN with
  | v :: r => show1 (c.setStream k { s with prev := v :: r, gap := 0, started := true }) (v :: r)
  | [] =>
    if !s.started then show1 (c.setStream k s) []
    else
      let s1 := ({ s with gap := s.gap + 1 }).count 10 1
      let c1 := c.setStream k s1
      let c2 := if s1.gap = 1 then c1.netCount Reg.NET_GAP_CNT 24 k 4 .streamGap else c1
      show1 c2 (if s1.gap ≤ 4 then s.prev else [])

/-- The receive streams at a boundary. -/
def Chip.streamsIn (c : Chip) : Chip := (c.enStreams 0).foldl (fun c e => c.streamPresent e.1) c

/-- The transmit streams take the samples presented from a boundary, once its effects have been made (R11, R406). -/
def Chip.streamsOut (c : Chip) : Chip :=
  if c.net.gathered || !c.eng.ticking then c
  else
    let c1 := (c.enStreams 1).foldl (fun c e => c.streamGather e.1) c
    { c1 with net := { c1.net with gathered := true } }

/-- The RTP payload of a UDP payload once CSRC list, extension and padding are removed (RFC 3550); none when they
do not fit. -/
def rtpPayload (p : List Byte) : Option (List Byte) :=
  let b0 := beField p 0 1
  let a := 12 + 4 * (b0 % 16)
  let x := if b0.testBit 4 then 4 + 4 * beField p (a + 2) 2 else 0
  let pad := if b0.testBit 5 then beField p (p.length - 1) 1 else 0
  if p.length < a + x + pad then none else some ((p.take (p.length - pad)).drop (a + x))

/-- The samples of sample time `t` of a payload (R403). -/
def Stream.unpack (s : Stream) (p : List Byte) (t : Nat) : List Word :=
  (List.range s.ch).map (fun i =>
    BitVec.ofNat 32 (beField p ((t * s.ch + i) * fmtW s.fmt) (fmtW s.fmt) * 2 ^ (32 - 8 * fmtW s.fmt)))

/-- What the samples of a packet did: the stream, and whether some were late, late and stored by no other packet,
early, stored, or in their window. -/
structure Taken where
  s : Stream
  late : Bool
  lost : Bool
  early : Bool
  new : Bool
  inWin : Bool
deriving DecidableEq, Repr

/-- The samples of a packet from index `i` on (R408): `m` is the media count of the tick in progress. -/
def Stream.takeSamples (s : Stream) (tick m ts : Nat) (p : List Byte) (i : Nat) : Nat → Taken → Taken
  | 0, a => a
  | n + 1, a =>
    let r : Int := (BitVec.ofNat 32 (ts + i + s.link) - BitVec.ofNat 32 m).toInt
    let at_ := ((tick : Int) + r).toNat
    let held := !(Map.get (fun _ => ([] : List Word)) a.s.buf at_).isEmpty
    let a1 :=
      if r ≤ 0 then { a with late := true, lost := a.lost || !held }
      else if (s.depth : Int) ≤ r then { a with early := true }
      else if held then { a with inWin := true }
      else { a with inWin := true, new := true,
                    s := { a.s with buf := Map.put (fun _ => []) a.s.buf at_ (s.unpack p i) } }
    s.takeSamples tick m ts p (i + 1) n a1

/-- An RTP packet for a leg of a receive stream: leg A is 0, leg B is 1 (R407, R408, R410). -/
def Chip.rtpReceive (c : Chip) (k leg : Nat) (u : Udp) : Chip :=
  let s := c.stream k
  let p := u.part.drop 8
  match s.spp, rtpPayload p with
  | some n, some body =>
    let ok := u.good && decide (beField p 0 1 / 64 = 2) && decide (12 ≤ p.length) &&
      (!s.flags.testBit 0 || decide (beField p 1 1 % 128 = s.pt)) && (!s.flags.testBit 1 || decide (beField p 8 4 = s.ssrcRx)) &&
      decide (body.length = s.payloadLen n)
    if !ok then c.setStream k (s.count 9 1)
    else
      let seq := beField p 2 2
      let old := if leg = 0 then s.seqA else s.seqB
      let ahead := match old with
        | some o => (seq + 65536 - o) % 65536
        | none => 1
      let s1 := s.count leg 1
      let s2 := if 2 ≤ ahead ∧ ahead < 32768 then s1.count (2 + leg) 1 else s1
      let s3 := if leg = 0 then { s2 with okA := 4 * n + 1, seqA := if 32768 ≤ ahead then s.seqA else some seq }
        else { s2 with okB := 4 * n + 1, seqB := if 32768 ≤ ahead then s.seqB else some seq }
      let t := s3.takeSamples c.tickN (c.mediaCount c.tickN (s.offset false)) (beField p 4 4) body 0 n
        { s := s3, late := false, lost := false, early := false, new := false, inWin := false }
      let s4 := if t.late then t.s.count (4 + leg) 1 else t.s
      let s5 := if t.early then s4.count (6 + leg) 1 else s4
      let s6 := if t.inWin && !t.new then s5.count 8 1 else s5
      let c1 := c.setStream k s6
      if t.late && t.lost then c1.netCount Reg.NET_LATE_CNT 24 k 3 .streamLate else c1
  | _, _ => c.setStream k (s.count 9 1)

/-- The enabled receive leg that a datagram on a MAC belongs to: the lowest stream of several (R398). -/
def Chip.legOf (c : Chip) (m : Nat) (u : Udp) : Option (Nat × Nat) :=
  (c.enStreams 0).findSome? (fun e =>
    (e.2.legs.zipIdx.find? (fun l =>
      decide (l.1.mac = m) && decide (l.1.ver = u.ver) && decide (l.1.dst = u.dst) && decide (l.1.port = u.dport) &&
      (l.1.src.all (· == 0) || decide (l.1.src = u.src)))).map (fun l => (e.1, l.2)))

/-! ## PTP (R336, R414) -/

/-- The configuration of the servo. -/
def Ptp.profile (p : Ptp) : Nat := leField p.cfg 0 1
def Ptp.domain (p : Ptp) : Nat := leField p.cfg 1 1
def Ptp.macs (p : Ptp) : Nat := leField p.cfg 2 1
def Ptp.ipv6 (p : Ptp) : Bool := leField p.cfg 3 1 == 1

/-- A precedes B in the order of the best master clock algorithm: the first field that differs, the smaller
value first. -/
def rankLess : List Byte → List Byte → Bool
  | a :: x, b :: y => if a = b then rankLess x y else decide (a.toNat < b.toNat)
  | _, _ => false

/-- The best of the masters heard. -/
def bestMaster : List Master → Option Master
  | [] => none
  | m :: r =>
    match bestMaster r with
    | some b => if rankLess b.rank m.rank then some b else some m
    | none => some m

/-- The fields of an Announce in the order in which they are compared (IEEE 1588-2019): priority1, clockQuality,
priority2, grandmasterIdentity, stepsRemoved, and the sender's port identity. -/
def announceRank (b : List Byte) : List Byte :=
  bytesFrom b 47 1 ++ bytesFrom b 48 4 ++ bytesFrom b 52 1 ++ bytesFrom b 53 8 ++ bytesFrom b 61 2 ++ bytesFrom b 20 10

/-- The servo selects its master among those that are qualified. -/
def Ptp.reselect (p : Ptp) : Ptp := { p with master := bestMaster (p.masters.filter (fun m => m.good)) }

/-- The servo's clockIdentity, and ASYM in ns. -/
def Ptp.clock (p : Ptp) : List Byte := bytesFrom p.cfg 8 8
def Ptp.asym (p : Ptp) : Int := (BitVec.ofNat 32 (leField p.cfg 16 4)).toInt

/-- The Announce interval of a message in TIME clocks, from its logMessageInterval. -/
def announceClks (b : List Byte) : Nat :=
  let l := (BitVec.ofNat 8 (beField b 33 1)).toInt
  if l < 0 then 500000000 / 2 ^ l.natAbs else 500000000 * 2 ^ l.natAbs

/-- The correctionField of a message in 2⁻⁴⁰ ns. -/
def ptpCorr (b : List Byte) : Int := (BitVec.ofNat 64 (beField b 8 8)).toInt * 2 ^ 24

/-- The timestamp at byte 34 of a message in 2⁻⁴⁰ ns. -/
def ptpStamp (b : List Byte) : Int := ((beField b 34 6 * 1000000000 + beField b 40 4) * 2 ^ 40 : Nat)

/-- A master is heard: a second Announce within four Announce intervals qualifies it, unless its stepsRemoved is 255 or more
(PRESUMED from IEEE 1588-2019, log entry 56). -/
def Ptp.announce (p : Ptp) (now m : Nat) (b : List Byte) : Ptp :=
  let ident := bytesFrom b 20 10
  let mine (y : Master) : Bool := y.mac == m && y.ident == ident
  let old := p.masters.find? mine
  let good := old.any (fun y => y.good || decide (now - y.heard ≤ 4 * announceClks b)) && decide (beField b 61 2 < 255)
  Ptp.reselect { p with masters := p.masters.filter (fun y => !mine y) ++
    [{ mac := m, rank := announceRank b, ident := ident, heard := now, good := good }] }

/-- A Delay_Resp to the last Delay_Req completes a path-delay measurement: half of (t2 − t1) + (t4 − t3), less ASYM (R336, R414). -/
def Ptp.delayResp (p : Ptp) (m : Nat) (b : List Byte) : Ptp :=
  match p.origin with
  | some t1 =>
    if p.asked && decide (54 ≤ b.length) && decide (bytesFrom b 44 10 = p.clock ++ beBytes 2 (m + 1)) &&
        decide (beField b 30 2 = (p.seq - 1).toNat) then
      let t4 := ptpStamp b - ptpCorr b
      { p with asked := false
               delay := some (Int.fdiv (((p.syncAt.units : Int) - t1) + (t4 - (p.reqAt.units : Int))) 2 - p.asym * 2 ^ 40) }
    else p
  | none => p

/-- The servo steers the time counter: its loop is not specified, so INC and the adjustment are free values
(R335, log entry 9). -/
def Chip.steer (c : Chip) : Chip :=
  let a := c.free
  let b := a.2.free
  ((b.2.setInc ((0x20000000000 : Int) + a.1.toInt).toNat).setReg Reg.DTM_TIME_ADJ b.1).timeAdd b.1.toInt

/-- The servo handles a message received on a MAC (R414). -/
def Chip.ptpMessage (c : Chip) (m : Nat) (b : List Byte) : Chip :=
  let p := c.net.ptp
  let put (q : Ptp) : Chip := { c with net := { c.net with ptp := q } }
  let typ := beField b 0 1 % 16
  let from_ : Bool := match p.master with
    | some x => decide (x.mac = m) && decide (x.ident = bytesFrom b 20 10)
    | none => false
  if b.length < 34 ∨ beField b 4 1 ≠ p.domain then c
  else if typ = 11 then put (p.announce c.dtm.clocks m b)
  else if typ == 0 && from_ then
    let two := (beField b 6 1).testBit 1
    let c0 := put (if two then { p with syncAt := c.dtm.time, origin := none, follow := some (beField b 30 2, ptpCorr b) }
      else { p with syncAt := c.dtm.time, origin := some (ptpStamp b + ptpCorr b), follow := none })
    let c1 := if c0.refEn 5 then c0.edgeSeen 5 false else c0
    if two then c1 else c1.steer
  else if typ == 8 && from_ then
    match p.follow with
    | some (n, k) => if beField b 30 2 = n then (put { p with origin := some (ptpStamp b + k + ptpCorr b), follow := none }).steer else c
    | none => c
  else if typ == 9 && from_ then put (p.delayResp m b)
  else c

/-- A frame for the PTP servo (R398). -/
def Chip.ptpFor (c : Chip) (m : Nat) (u : Udp) : Bool :=
  let p := c.net.ptp
  let six (hd : List Byte) : List Byte := hd ++ List.replicate 12 0 ++ [0x01, 0x81]
  p.profile != 0 && p.macs.testBit m && (u.dport == 319 || u.dport == 320) &&
  (decide (u.dst = [224, 0, 1, 129]) || decide (u.dst = six [0xFF, 0x0E]) || decide (u.dst = six [0xFF, 0x02]) ||
   decide (u.dst = bytesFrom (c.mac m).ipv4 0 4) ||
   (!(c.mac m).ipv6.all (· == 0) && decide (u.dst = bytesFrom (c.mac m).ipv6 0 16)))

/-- A Delay_Req of the servo (IEEE 1588-2019, Annexes C and D). -/
def Chip.delayReq (c : Chip) (m : Nat) : List Byte :=
  let p := c.net.ptp
  let msg : List Byte := [0x01, 0x02] ++ beBytes 2 44 ++ beBytes 1 p.domain ++ [0] ++ [0, 0] ++ List.replicate 12 0 ++
    bytesFrom p.cfg 8 8 ++ beBytes 2 (m + 1) ++ beBytes 2 p.seq.toNat ++ [0x01, 0x7F] ++ List.replicate 10 0
  if p.ipv6 then
    c.udpFrame m 6 0 1 0 [0x33, 0x33, 0, 0, 0x01, 0x81] ([0xFF, 0x0E] ++ List.replicate 12 0 ++ [0x01, 0x81]) 319 319 msg
  else c.udpFrame m 4 0 1 0 [0x01, 0x00, 0x5E, 0x00, 0x01, 0x81] [224, 0, 1, 129] 319 319 msg

/-! ## The control receive queue (R399, R400) -/

/-- Tiles per entry. -/
def entryTiles (maxFrame : Nat) : Nat := 1 + ceilDiv maxFrame 256

/-- A frame goes to the control receive queue of a MAC; `f` is the frame without its FCS. -/
def Chip.rxQueue (c : Chip) (m : Nat) (f : List Byte) (tagged : Bool) (tci : Nat) : Chip :=
  let n := c.regFld (Reg.NET_RXQ_SIZE m) 15 0
  let head := (c.reg (Reg.NET_RXQ_HEAD m)).toNat
  let tail := (c.reg (Reg.NET_RXQ_TAIL m)).toNat
  if n = 0 ∨ (head + 1) % n = tail then (c.netStat m 9 1).netEvent 7
  else
    let a := (c.mac m).base + head * 256 * entryTiles (c.maxFrame m)
    let t := c.dtm.time
    let h := leBytes 2 f.length ++ leBytes 1 m ++ leBytes 1 (ofFlag tagged) ++ leBytes 2 tci ++ [0, 0] ++
      leBytes 6 t.sec.toNat ++ [0, 0] ++ leBytes 4 t.ns.toNat
    let c1 := c.dramWrite a (bytesFrom h 0 256 ++ f)
    (c1.setReg (Reg.NET_RXQ_HEAD m) (BitVec.ofNat 32 ((head + 1) % n))).netEvent 6

/-! ## NET_SEND (R402) -/

/-- The length of the Ethernet header, with its tag, and the EtherType of a header. -/
def ethHeader (h : List Byte) : Nat × Nat := if beField h 12 2 = 0x8100 then (18, beField h 16 2) else (14, beField h 12 2)

/-- A header that UDP segmentation can use: Ethernet, IPv4 without options or IPv6 without extension headers, UDP. -/
def segHeaderOk (h : List Byte) : Bool :=
  let e := ethHeader h
  let b := h.drop e.1
  (e.2 == 0x0800 && beField b 0 1 == 0x45 && beField b 9 1 == 17 && decide (h.length = e.1 + 28)) ||
  (e.2 == 0x86DD && beField b 0 1 / 16 == 6 && beField b 6 1 == 17 && decide (h.length = e.1 + 48))

/-- The frame of segment `i` with data `d` (R402). -/
def segFrame (h d : List Byte) (i : Nat) : List Byte :=
  let e := ethHeader h
  let b := h.drop e.1
  if e.2 = 0x0800 then
    let src := bytesFrom b 12 4
    let dst := bytesFrom b 16 4
    let u := udpPart src dst (beField b 20 2) (beField b 22 2) d
    h.take e.1 ++ ip4Header (beField b 1 1) (20 + u.length) ((beField b 4 2 + i) % 65536) (beField b 6 2) (beField b 8 1) src dst ++ u
  else
    let u := udpPart (bytesFrom b 8 16) (bytesFrom b 24 16) (beField b 40 2) (beField b 42 2) d
    h.take e.1 ++ b.take 4 ++ beBytes 2 u.length ++ (b.drop 6).take 34 ++ u

/-- A frame with a MAC's own source address. -/
def Chip.ownSource (c : Chip) (m : Nat) (f : List Byte) : List Byte := f.take 6 ++ c.macAddr m ++ f.drop 12

/-- Queues the frames of a NET_SEND from segment `i` on, `k` of them at most: `a` is the address of the data
left and `n` its length. The flag says that a tile failed its check. -/
def Chip.queueSegs (c : Chip) (ch m : Nat) (seg : Option Nat) (h : List Byte) (a n i : Nat) : Nat → Chip × Bool
  | 0 => (c, false)
  | k + 1 =>
    let len := match seg with
      | some s => min s n
      | none => n
    let x := c.dramRead a len
    if x.2.2 then (x.1, true)
    else
      let f := match seg with
        | some _ => segFrame h x.2.1 i
        | none => h ++ x.2.1
      let c1 := x.1.queueFrame { mac := m, kind := 2, bytes := x.1.ownSource m f, src := ch }
      if n ≤ len then (c1, false) else c1.queueSegs ch m seg h (a + len) (n - len) (i + 1) k

/-- A frame as it leaves a MAC: tagged, padded and with its FCS (R401). -/
def Chip.wireFrame (c : Chip) (m : Nat) (f : List Byte) : List Byte :=
  let t := if c.regBit (Reg.NET_MAC_CFG m) 27 then
      f.take 12 ++ beBytes 2 0x8100 ++ beBytes 2 ((c.reg (Reg.NET_MAC_VLAN m)).toNat % 65536) ++ f.drop 12
    else f
  let p := t ++ List.replicate (60 - t.length) 0
  p ++ leBytes 4 (crc32 p).toNat

end Sys2Proof.Machine
end

