-- ==== Sys2Proof/Machine/NetEff.lean ====
section
/-! DEFINITION. The effects of the NET and STREAM opcodes at their ticks (R417). -/
namespace Sys2Proof.Machine
open Sys2Proof

def Chip.effMacCfg (c : Chip) (_ : Nat) (r : Req) : Chip :=
  let m := r.p 0 1
  let fl := r.p 3 1
  let mf := r.p 4 2
  if c.macEn m then c
  else
    let c1 := c.setReg (Reg.NET_MAC_CFG m) (putFld (putFld (putFld (putFld (putFld (putFld 0 30 30 (r.p 1 1)) 29 29 (r.p 2 1))
      28 28 (bits fl 0 0)) 27 27 (bits fl 1 1)) 26 26 (bits fl 2 2)) 15 0 mf)
    let c2 := (c1.setReg (Reg.NET_MAC_VLAN m) (BitVec.ofNat 32 (r.p 6 2))).setReg (Reg.NET_MAC_ADDR_LO m) (BitVec.ofNat 32 (r.p 8 4))
    let c3 := (c2.setReg (Reg.NET_MAC_ADDR_HI m) (BitVec.ofNat 32 (r.p 12 2))).setReg (Reg.NET_RXQ_SIZE m)
      (putFld (putFld 0 23 16 (entryTiles mf)) 15 0 (r.p 44 2))
    ((c3.setReg (Reg.NET_RXQ_HEAD m) 0).setReg (Reg.NET_RXQ_TAIL m) 0).setMac m
      { ipv4 := bytesFrom r.par 16 4, ipv6 := bytesFrom r.par 20 16, base := r.p 36 8 }

def Chip.effMacEnable (c : Chip) (ch : Nat) (r : Req) : Chip :=
  let m := r.p 0 1
  if r.p 1 1 = 1 then
    let c1 := c.macEnable m true
    if c1.macEn m then c1 else c1.effectFail ch r.op 11
  else c.macEnable m false

def Chip.effGroupFilter (c : Chip) (_ : Nat) (r : Req) : Chip :=
  let m := r.p 0 1
  (List.range 16).foldl (fun c j =>
    let w : Word := BitVec.ofNat 32 (r.p (8 + 4 * j) 4)
    c.modReg (Reg.NET_HASH m j) (fun v => if r.p 1 1 = 1 then v ||| w else w)) c

/-- A stream takes its configuration: receive at its number, transmit at 512 plus it. -/
def Chip.effStreamCfg (c : Chip) (base : Nat) (r : Req) : Chip :=
  let k := base + r.p 0 2 % 512
  if (c.stream k).en then c else c.setStream k { Stream.reset with cfg := r.par }

def Chip.effStreamEnable (c : Chip) (ch : Nat) (r : Req) : Chip :=
  let k := 512 * (r.p 2 1 % 2) + r.p 0 2 % 512
  if (c.stream k).en then c
  else
    let v := if c.forced 2 then rBadState else c.streamCheck k
    let c1 := c.strmReason k v
    if v = rOK then c1.streamStart k else c1.effectFail ch r.op 11

def Chip.effStreamDisable (c : Chip) (_ : Nat) (r : Req) : Chip :=
  let k := 512 * (r.p 2 1 % 2) + r.p 0 2 % 512
  if (c.stream k).en then c.streamStop k else c

/-- PTP_CFG restarts the servo; with PROFILE = 0 reference 5 loses activity (R312, R414). -/
def Chip.effPtpCfg (c : Chip) (_ : Nat) (r : Req) : Chip :=
  let c1 := { c with net := { c.net with ptp := { Ptp.reset with cfg := r.par } } }
  if r.p 0 1 = 0 && c1.refEn 5 && !(c1.mon 5).tripped && c1.dState != 4 then c1.tripRef 5 else c1

/-- The effect of a NET opcode at its tick. -/
def Chip.effNet (op : Nat) (c : Chip) (ch : Nat) (r : Req) : Chip :=
  if op = 0x0601 then c.effMacCfg ch r
  else if op = 0x0602 then c.effMacEnable ch r
  else if op = 0x0603 then c.effGroupFilter ch r
  else if op = 0x0604 then c.effStreamCfg 0 r
  else if op = 0x0605 then c.effStreamCfg 512 r
  else if op = 0x0606 then c.effStreamEnable ch r
  else if op = 0x0607 then c.effStreamDisable ch r
  else if op = 0x060A then c.effPtpCfg ch r
  else c

end Sys2Proof.Machine
end

