-- ==== Sys2Proof/Machine/PairOps.lean ====
section
/-! DEFINITION. The pair: events and states, the heartbeat and its signatures, and the warden's decisions (R443 to R467). -/
namespace Sys2Proof.Machine
open Sys2Proof

/-! ## Events, counts and states -/

/-- Sets a PAIR_EVENT bit; bits 2 to 6 raise vector 13, bits 0 and 1 only with their class at level 1 or above (R469). -/
def Chip.pairEvent (c : Chip) (i : Nat) : Chip :=
  c.event Reg.PAIR_EVENT i 13 (if i = 0 then decide (1 ≤ c.level 22) else if i = 1 then decide (1 ≤ c.level 23) else decide (i < 7))

/-- A count of PAIR_LINK_ERR with its kind: 0 frame CRC, 1 coding error, 2 acknowledgement timeout. -/
def Chip.linkErr (c : Chip) (kind : Nat) : Chip := ((c.bump Reg.PAIR_LINK_ERR).setFld Reg.PAIR_LINK_ERR 31 30 kind).pairEvent 7

/-- A PAIR_HEARTBEAT event: cause 1 missing, 2 TICK mismatch (R448, R460). -/
def Chip.hbCount (c : Chip) (cause : Nat) : Chip :=
  let c1 := ((c.bump Reg.PAIR_HB_CNT).setFld Reg.PAIR_HB_CNT 31 30 cause).pairEvent 0
  c1.raise .pairHeartbeat blkPAIR (c1.reg Reg.PAIR_HB_CNT)

/-- MIRROR_GAP of this chip (R453). -/
def Chip.gap (c : Chip) : Bool := c.regBit Reg.PAIR_STAT 21

/-- ELIGIBLE (R451). -/
def Chip.eligible (c : Chip) : Bool :=
  !c.pair.owner && c.sys.execAlive && (c.synced || (c.pairState == 4 && c.pair.fromSynced && !c.gap))

/-- The live IMAGE_ID, or 0. -/
def Chip.imageId (c : Chip) : DWord := match c.graph.live with
  | some g => g.imageId
  | none => 0

def Beat.flag (b : Beat) (i : Nat) : Bool := b.flags.testBit i

/-- The two chips agree after a loss of the link as a return to SYNCED without PAIR_RESYNC asks (R467). -/
def Chip.agreed (c : Chip) : Bool :=
  match c.pair.beat with
  | some b => b.tick.toNat + 1 == c.tickN && b.image == c.imageId && !c.gap && !b.flag 5
  | none => false

/-- STATE takes a value. A loss of the link keeps whether it came directly from SYNCED, and so does a LINKED in which the chips
agree, until PAIR_PHASE allows the return (R451, R467). -/
def Chip.setPairState (c : Chip) (n : Nat) : Chip :=
  let was := c.pairState
  if was = n then c
  else
    let kept := (was == 1 || was == 4) && c.pair.fromSynced
    let from_ := if n = 1 ∨ n = 4 then kept || was == 3 else n == 2 && kept && c.agreed
    (({ c with pair := { c.pair with fromSynced := from_ } }).setFld Reg.PAIR_STAT 31 28 n).pairEvent 6

/-- The state after reset, from the strap (PAIR_STAT.STATE). -/
def Chip.pairStrap (c : Chip) : Chip := c.setFld Reg.PAIR_STAT 31 28 (if c.pairEn then 1 else 0)

/-- The warden drives PAIR_OWN_OUT and the wired output drivers (R459): an owner's own START_IN capture governs (R373), and it
serves the cue ports (R389). -/
def Chip.setOwner (c : Chip) (b : Bool) : Chip :=
  let c1 := { c with pair := { c.pair with owner := b, takeAt := none, released := 0, bothOwn := false, unitFirst := c.pair.unitFirst && !b } }
  let c2 := if b then { c1 with sap := { c1.sap with release := c1.sap.release.or c1.sap.captured, captured := none } } else c1
  if c.pair.owner = b then c2 else c2.cueOwner b

/-- The owner releases (R462): RELEASED is set, and a planned release is at an end. -/
def Chip.release (c : Chip) : Chip :=
  if c.pair.owner then
    (({ c with pair := { c.pair with releaseAt := none, takeAck := false } }).setOwner false).pairEvent 3
  else c

/-! ## Heartbeats (R447) -/

/-- ENGINE as GCTL_STATUS shows it. -/
def Chip.engineCode (c : Chip) : Nat := if c.eng.suspended && c.eng.engine == .running then 3 else c.eng.engine.code

/-- The IEEE 802.3 CRC of a list of values; 0 for none (R449). -/
def sigOf (v : List Word) : Word := if v.isEmpty then 0 else crc32 (v.flatMap (fun w => leBytes 4 w.toNat))

/-- The source slot's region of an output's XL3 transfer: in a fade the new graph's transfer decides. -/
def Chip.outRegion (c : Chip) (ep : Nat) : Option Nat :=
  let find (g : Option Graph) : Option SchedEntry := match g with
    | some g => (g.sched1 0).find? (fun e => e.win == 4 && e.dst == 32768 + ep)
    | none => none
  match find c.graph.live with
  | some e => some (e.src / 8192)
  | none => (match c.graph.fade with
    | some f => (find f.old).map (fun e => e.src / 8192)
    | none => none)

/-- The nine signatures over the values presented, `val` (R449). -/
def Chip.signatures (c : Chip) (val : Nat → Word) : List Word :=
  let coms := (c.chain.outs.filter (fun e => e.2.committed.isSome)).map (fun e => e.1)
  let reg (r : Nat) : Word := sigOf ((coms.filter (fun ep => c.outRegion ep == some r)).map val)
  let port (kind step base n : Nat) : List Nat :=
    ((List.range n).filter (fun i => c.portEn kind i)).flatMap (fun i => (List.range (c.portChans kind i).2).map (fun k => base + step * i + k))
  let mods := ((List.range 8).filter (fun m => c.modEn m)).flatMap (fun m => (List.range 8).map (fun k => 0x4400 + 8 * m + k))
  let strm := (List.range 4096).filter (fun k => (c.enStreams 1).any (fun e => decide (e.2.first ≤ k) && decide (k < e.2.first + e.2.ch)))
  (List.range 4).map reg ++
    [sigOf ((port 0 32 0x4000 16).map val), sigOf ((port 2 2 0x4200 8).map val), sigOf ((port 4 64 0x4300 4).map val),
     sigOf (mods.map val), sigOf (strm.map (fun k => val (0x5000 + k)))]

/-- The SLIP field: the owner's decisions for the next boundary (R455). -/
def Chip.slipField (c : Chip) : Nat := (List.range 12).foldl (fun n k => n + (c.rx k).decision * 4 ^ k) 0

/-- The heartbeat of tick `n` with its signatures; `txOfs` is the time from the boundary to its start. -/
def Chip.heartbeat (c : Chip) (n : Nat) (x : Sigs) (txOfs : Word) : List Byte :=
  let rel := c.pair.owner && c.pair.releaseAt.isSome
  let ack := !c.pair.owner && c.eligible && c.pair.releaseAt == some (n + 2)
  let fl := ofFlag c.pair.owner + 2 * ofFlag c.eligible + 4 * ofFlag c.sys.execAlive + 8 * ofFlag rel + 16 * ofFlag ack +
    32 * ofFlag c.gap + 64 * ofFlag c.pair.diverged + 128 * ofFlag x.fade
  let b := [0x01, BitVec.ofNat 8 fl] ++ leBytes 1 (x.engine + 16 * x.settled) ++
    leBytes 1 (x.shed + 16 * c.regFld Reg.DTM_STATE 2 0) ++ leBytes 8 n ++ x.sigs.flatMap (fun w => leBytes 4 w.toNat) ++
    leBytes 8 (if rel then c.pair.releaseAt.getD 0 else 0) ++ leBytes 8 (if c.pair.owner then c.sap.release.getD 0 else 0) ++
    leBytes 3 (if c.pair.owner then c.slipField else 0) ++ [0] ++ leBytes 4 txOfs.toNat ++ leBytes 4 c.pair.rxOwn.toNat ++
    leBytes 8 x.image.toNat ++ List.replicate 40 0
  b ++ leBytes 4 (crc32c b).toNat

/-- The heartbeat of the tick that ended leaves (R447). The start of a frame within its 0.5 µs is a free value, in 0.25 ns. -/
def Chip.sendBeat (c : Chip) (n : Nat) (x : Sigs) : Chip :=
  if !c.pairEn || !c.pair.linkUp then { c with pair := { c.pair with own := some x } }
  else
    let f := c.free
    let ofs : Word := BitVec.ofNat 32 (f.1.toNat % 2001)
    let c1 := f.2
    let ack := !c1.pair.owner && c1.eligible && c1.pair.releaseAt == some (n + 2)
    { c1 with pair := { c1.pair with own := some x, txOfs := ofs, left := true, sent := c1.heartbeat n x ofs,
                                     takeAck := if c1.pair.owner then c1.pair.takeAck else (c1.pair.takeAck || ack) } }

/-- Reads a heartbeat frame (R447); none when it is not one or its CRC fails. -/
def readBeat (b : List Byte) : Option Beat :=
  if b.length = 128 ∧ leField b 0 1 = 1 ∧ leField b 124 4 = (crc32c (b.take 124)).toNat then
    some { flags := leField b 1 1, engine := leField b 2 1, shed := leField b 3 1, tick := BitVec.ofNat 64 (leField b 4 8),
           sigs := (List.range 9).map (fun i => BitVec.ofNat 32 (leField b (12 + 4 * i) 4)),
           releaseAt := BitVec.ofNat 64 (leField b 48 8), startRel := BitVec.ofNat 64 (leField b 56 8), slip := leField b 64 3,
           txOfs := BitVec.ofNat 32 (leField b 68 4), rxOfs := BitVec.ofNat 32 (leField b 72 4),
           image := BitVec.ofNat 64 (leField b 76 8) }
  else none

def Beat.eligible (b : Beat) : Bool := b.flag 1
def Beat.settled (b : Beat) : Nat := b.engine / 16
def Beat.stage (b : Beat) : Nat := b.shed % 8

/-- PAIR_PHASE of a heartbeat that arrived (R450). -/
def Chip.phaseOf (c : Chip) (b : Beat) (rxOwn : Word) : Int :=
  Int.fdiv ((rxOwn.toInt - b.txOfs.toNat) - (b.rxOfs.toInt - c.pair.txOfs.toNat)) 2

/-- |PAIR_PHASE| is at most `n` quarter nanoseconds. -/
def Chip.phaseWithin (c : Chip) (n : Nat) : Bool := decide ((c.reg Reg.PAIR_PHASE).toInt.natAbs ≤ n)

/-- A heartbeat arrives, valid (R447, R450): recorded for the next partner point; the standby takes up the owner's
common start, its read decisions and its drive channel states (R373, R439, R455). -/
def Chip.takeBeat (c : Chip) (b : Beat) (rxOwn : Word) (drive : List Word) : Chip :=
  let c1 := (({ c with pair := { c.pair with beat := some b, fresh := true, rxOwn := rxOwn } }).setReg Reg.PAIR_PHASE
    (BitVec.ofInt 32 (c.phaseOf b rxOwn)))
  if c1.pair.owner || !b.flag 0 then c1
  else
    let c2 := if c1.isArmed && b.startRel != 0 then { c1 with sap := { c1.sap with release := some b.startRel.toNat } } else c1
    let c3 := if c2.synced then
        (List.range 12).foldl (fun c k => c.setRx k { c.rx k with decision := b.slip / 4 ^ k % 4 }) c2
      else c2
    { c3 with drv := { c3.drv with adopt := drive } }

/-- The read decisions for a boundary: while SYNCED those stored at the boundary before, else each chip's own (R455). -/
def Chip.slipUsed (c : Chip) (k : Nat) : Nat := if c.synced then (c.rx k).decision else c.rxDecide k

/-- The owner's decisions for the boundary after this one, from its fill now (R455): none 0, one frame 1, a repeat 2, and
two frames 3 when a frame more than the next one waits. -/
def Chip.slipPlan (c : Chip) : Chip :=
  if c.pair.owner && c.synced then
    (List.range 12).foldl (fun c k =>
      let d := c.rxDecide k
      c.setRx k { c.rx k with decision := if d = 1 && decide (8 ≤ (c.rx k).slip.length) then 3 else d }) c
  else c

/-! ## Drive channel states (R439) -/

/-- The state of a drive channel as a word: STATE and the gain g in 1/2²⁴, the form in which the owner sends it. -/
def Chip.driveWord (c : Chip) (k : Nat) : Word := putFld (putFld 0 31 28 (c.drvState k)) 27 0 ((c.drvCh k).g / 256)

/-- What the owner sends at a boundary. -/
def Chip.driveWords (c : Chip) : List Word := (List.range 64).map c.driveWord

/-- The standby replaces its own channel states with the owner's. -/
def Chip.driveAdopt (c : Chip) : Chip :=
  if c.drv.adopt.isEmpty then c
  else
    let c1 := c.drv.adopt.zipIdx.foldl (fun c e =>
      if c.modEn (e.2 / 8) then
        (c.modDrvCh e.2 (fun x => { x with g := if [1, 2, 3, 6].contains (fld e.1 31 28) then 256 * fld e.1 27 0 else 0 })).drvEnter e.2
          (fld e.1 31 28)
      else c) c
    { c1 with drv := { c1.drv with adopt := [] } }

/-! ## Signature comparison (R457, R458) -/

/-- The mask of the signatures compared for a tick. -/
def Chip.compareMask (c : Chip) (x : Sigs) (b : Beat) : Nat :=
  if c.synced && x.engine == 2 && b.engine % 16 == 2 && x.image == b.image && x.shed == 0 && b.stage == 0 && !x.fade && !b.flag 7 then
    let m := x.settled &&& b.settled
    if m = 15 then 511 else m
  else 0

/-- The partner point's comparison. -/
def Chip.compare (c : Chip) : Chip :=
  match c.pair.own, c.pair.beat with
  | some x, some b =>
    if x.tick = b.tick ∧ c.pair.present then
      let m := c.compareMask x b
      let d := (List.range 9).foldl (fun n i => if m.testBit i && x.sigs.getD i 0 != b.sigs.getD i 0 then n + 2 ^ i else n) 0
      let c1 := ({ c with pair := { c.pair with matched := some (x, b.sigs), diverged := if m = 0 then c.pair.diverged else d != 0 } }).setFld
        Reg.PAIR_STAT 11 8 (m % 16)
      if d = 0 then c1
      else
        let w : Word := putFld (putFld 0 31 16 x.tick.toNat) 8 0 d
        (((c1.bump Reg.PAIR_DIV_CNT).setReg Reg.PAIR_DIV_LAST w).pairEvent 1).raise .pairDiverge blkPAIR w
    else c.setFld Reg.PAIR_STAT 11 8 0
  | _, _ => c.setFld Reg.PAIR_STAT 11 8 0

/-! ## The partner point (R448, R451, R460 to R467) -/

/-- The conditions of SYNCED that the last heartbeat shows (R451). -/
def Chip.syncOk (c : Chip) : Bool :=
  c.agreed && c.phaseWithin 400 && c.pair.resynced

/-- STATE at a partner point. -/
def Chip.nextState (c : Chip) : Nat :=
  let was := c.pairState
  if !c.pairEn then 0
  else if c.pair.incompat then 5
  else if !c.pair.linkUp || !c.pair.present then (if c.pair.ownIn then 4 else 1)
  else if was = 3 then (if c.syncOk then 3 else 2)
  else if (was = 4 ∨ was = 1 ∨ was = 2) ∧ c.pair.fromSynced ∧ c.syncOk then 3
  else 2

/-- Drops a schedule entry of a channel's opcode. -/
def Chip.dropSched (c : Chip) (ch op : Nat) : Chip :=
  { c with cmd := { c.cmd with sched := c.cmd.sched.filter (fun s => !(s.ch == ch && s.op == op)) } }

/-- A planned release is cancelled (R465). -/
def Chip.cancelRelease (c : Chip) : Chip :=
  let c1 := ({ c with pair := { c.pair with releaseAt := none, takeAck := false, handover := none } }).pairEvent 5
  match c.pair.handover with
  | some ch => (c1.dropSched ch 0x0902).refuse ch rBadState
  | none => c1

/-- The owner's part of a partner point: the acknowledgement of a planned release, and the requests of R464 and R465. -/
def Chip.ownerPoint (c : Chip) : Chip :=
  match c.pair.releaseAt with
  | some r =>
    if c.tickN + 1 = r then
      match c.pair.beat with
      | some b => if c.pair.present && b.flag 4 then { c with pair := { c.pair with takeAck := true } } else c.cancelRelease
      | none => c.cancelRelease
    else c
  | none =>
    match c.pair.beat with
    | some b =>
      if c.pair.present && b.eligible && (!c.sys.execAlive || (decide (3 ≤ c.pwr.stage) && b.stage == 0)) then
        { c with pair := { c.pair with releaseAt := some (c.tickN + 3), takeAck := false } }
      else c
    | none => c

/-- The non-owner's part: takeovers (R460, R461) and the owner's planned release (R465). `elig` is ELIGIBLE as it stood. -/
def Chip.standbyPoint (c : Chip) (elig : Bool) : Chip :=
  if c.pairState = 5 then c
  else
    let c1 := match c.pair.beat with
      | some b => { c with pair := { c.pair with
          releaseAt := if c.pair.present && b.flag 3 && elig then some b.releaseAt.toNat else none
          takeAck := c.pair.takeAck && c.pair.present && b.flag 3 } }
      | none => c
    let take (rule : Nat) : Chip := { c1 with pair := { c1.pair with takeAt := some (c1.tickN + 1), takeRule := rule } }
    if c1.pair.ownIn then { c1 with pair := { c1.pair with unitFirst := false, takeAt := none } }
    else if elig then take 0
    else if (!c1.pairId && c1.pair.unitFirst) || decide (64 ≤ c1.pair.released) then take 1
    else c1

/-- The reason that answers a forwarded command which the partner does not carry out: PAIR_REFUSED for a mirrored one (R303),
and for PAIR_HANDOVER the reason of a partner that does not answer (R468). -/
def refusedCode (op : Nat) : Nat := if op = 0x0902 then rPartnerAbsent else rPairRefused

/-- What this chip's forwarded commands are answered with at a partner point that misses the owner's heartbeat (R452). -/
def Chip.answerForwards (c : Chip) : Chip :=
  let c1 := c.pair.forwards.foldl (fun c m =>
    if m.acked then c.answer m.ch rOK (BitVec.ofNat 64 m.tick) m.pay
    else c.refuse m.ch (refusedCode (parseReq m.req).op)) c
  { c1 with pair := { c1.pair with forwards := [] } }

/-- The partner point (R448): `ownIn` is the level of PAIR_OWN_IN. -/
def Chip.partnerPoint (c : Chip) (ownIn : Bool) : Chip :=
  let elig := c.eligible
  let hb := c.pair.fresh
  let missing := !hb && c.pair.present
  let c1 := { c with pair := { c.pair with ownIn := ownIn, bothOwn := ownIn && c.pair.owner, present := hb, fresh := false,
                                           released := if ownIn || c.pair.owner then 0 else c.pair.released + 1 } }
  let c2 := if hb then c1 else c1.setReg Reg.PAIR_PHASE 0
  let mism := hb && c2.synced && (match c2.pair.beat with
    | some b => b.tick.toNat + 1 != c2.tickN
    | none => false)
  let c3 := if missing then c2.hbCount 1 else if mism then c2.hbCount 2 else c2
  let c4 := c3.setPairState c3.nextState
  let c5 := c4.compare
  let c6 := if c5.pair.owner then c5.ownerPoint else c5.standbyPoint elig
  if hb || c6.pair.owner then c6 else c6.answerForwards

/-! ## Ownership -/

/-- A takeover at its boundary (R459 to R461). -/
def Chip.takeover (c : Chip) : Chip :=
  if c.pair.takeAt = some c.tickN ∧ c.pair.owner = false ∧ c.pair.incompat = false ∧ c.eng.ticking = true then
    (((c.setOwner true).bump Reg.PAIR_TAKE_CNT).setFld Reg.PAIR_TAKE_CNT 16 16 c.pair.takeRule).pairEvent 2
  else c

/-- A condition of R462 or R463 for an immediate release holds. -/
def Chip.mustRelease (c : Chip) : Bool :=
  !c.pair.left || c.pwr.stage == 5 || c.flt.resets.any (fun u => u == .eng || u == .sap || u == .drv) ||
  (c.pair.bothOwn && c.pairId && c.pairEn) || c.pair.sameId

/-- A planned release at its boundary R (R465). -/
def Chip.plannedRelease (c : Chip) : Chip :=
  if c.pair.releaseAt = some c.tickN ∧ c.pair.takeAck = true ∧ c.eng.ticking = true then
    let was := c.pair.owner
    let c1 := { c with pair := { c.pair with releaseAt := none, takeAck := false, handover := none } }
    let c2 := if was then c1.release.pairEvent 4 else (c1.setOwner true).pairEvent 4
    match c.pair.handover with
    | some ch => (c2.dropSched ch 0x0902).answer ch rOK c.eng.tick [if (was && decide (8 ≤ ch)) || (!was && decide (ch < 8)) then 1 else 0]
    | none => c2
  else c

end Sys2Proof.Machine
end

