-- ==== Sys2Proof/Machine/DatumEff.lean ====
section
/-! DEFINITION. The effects of the DATUM opcodes at their ticks (R339). -/
namespace Sys2Proof.Machine
open Sys2Proof

/-! ## Opcodes: their effects -/

def Chip.effRefCfg (c : Chip) (_ : Nat) (r : Req) : Chip :=
  if c.refEn (r.p 0 1) then (c.setRank (r.p 0 1) (r.p 3 1)).select else (c.putRefParams r).select

def Chip.effRefEnable (c : Chip) (ch : Nat) (r : Req) : Chip :=
  let n := r.p 0 1
  if r.p 1 1 = 0 then (if c.refEn n then (c.refDisable n 5).select else c)
  else if c.refEn n then c
  else
    let c1 := c.refEnable n
    if c1.refEn n then c1.select else c1.effectFail ch r.op 9

def Chip.effDatumCfg (c : Chip) (_ : Nat) (r : Req) : Chip :=
  let c1 := c.setReg Reg.DTM_CTRL (putFld (putFld (putFld (putFld (putFld 0 23 17 (r.p 3 1)) 13 13 (bits (r.p 2 1) 1 1))
    12 12 (bits (r.p 2 1) 0 0)) 11 11 (bits (r.p 2 1) 2 2)) 9 0 (r.p 0 2))
  let c2 := c1.setReg Reg.DTM_LOCK_CFG (putFld (putFld 0 25 16 (r.p 14 2)) 15 0 (r.p 12 2))
  let c3 := c2.setReg Reg.DTM_SEL_CFG (putFld 0 19 0 (r.p 8 4))
  let c4 := { c3 with dtm := { c3.dtm with holdLimit := r.p 16 4, sensorReg := r.p 4 1 } }
  if c4.onGrid && !c.onGrid && (c4.dState == 1 || c4.dState == 2) then c4.alignGrid else c4

def Chip.effFreqAdj (c : Chip) (_ : Nat) (r : Req) : Chip :=
  if c.dState = 0 ∨ c.dState = 3 then
    ({ c with dtm := { c.dtm with freqAdj := (BitVec.ofNat 32 (r.p 0 4)).toInt } }).evalCorr
  else c

/-- DATUM_STEP (R329, R330). The checks at acceptance keep the remainder within its limit; where a REFSEL switch has held a
shortening back since, the remainder is held at the limit (DESIGN CHOICE, log entry 52). -/
def Chip.effStep (c : Chip) (_ : Nat) (r : Req) : Chip :=
  let s := (BitVec.ofNat 32 (r.p 0 4)).toInt
  let locked := c.dState == 1 || c.dState == 2
  let c1 := if locked then { c with dtm := { c.dtm with target := c.dtm.target.map (fun t => t + 4 * s) } } else c
  (c1.setStep (clampInt (-stepLimit) stepLimit (c.stepLeft + s))).planStep

/-- The effect of a DATUM opcode at its tick. -/
def Chip.effDatum (op : Nat) (c : Chip) (ch : Nat) (r : Req) : Chip :=
  if op = 0x0701 then c.effRefCfg ch r
  else if op = 0x0702 then c.effRefEnable ch r
  else if op = 0x0703 then c.effDatumCfg ch r
  else if op = 0x0704 then c.effFreqAdj ch r
  else if op = 0x0705 then c.effStep ch r
  else c

end Sys2Proof.Machine
end

