-- ==== Sys2Proof/Machine/ParamEff.lean ====
section
/-! DEFINITION. Parameters, gain and tail streams: symbols, checks and effects (R232 to R253, R258). -/
namespace Sys2Proof.Machine
open Sys2Proof

/-! ## Symbols (R232 to R234) -/

/-- The symbol of a handle in a table. -/
def symOf (t : List Symbol) (h : Nat) : Option Symbol := t.find? (fun s => s.handle == h)

/-- The live symbol table. -/
def Chip.liveSyms (c : Chip) : List Symbol :=
  match c.graph.live with
  | some g => g.symbols
  | none => []

/-- The table of the graph that will be live at tick `t` (R233). -/
def Chip.symsAt (c : Chip) (t : Nat) : List Symbol :=
  match c.graph.bank, c.cmd.sched.find? (fun s => s.op == 0x0202) with
  | .scheduled g, some s =>
    if s.tick ≤ t then
      (if g.patch then (match c.graph.live with
        | some o => (o.patched g).symbols
        | none => g.symbols) else g.symbols)
    else c.liveSyms
  | _, _ => c.liveSyms

/-- The lines and taps that will be live at tick `t`. -/
def Chip.graphAt (c : Chip) (t : Nat) : Option Graph :=
  match c.graph.bank, c.cmd.sched.find? (fun s => s.op == 0x0202) with
  | .scheduled g, some s => if s.tick ≤ t && !g.patch then some g else c.graph.live
  | _, _ => c.graph.live

/-- The region a symbol's owner lies in (R239). -/
def Symbol.region (s : Symbol) : Nat := if s.kind = 0 ∨ s.kind = 2 then s.owner / 128 else s.owner % 4

/-- Symbol updates that take effect in a region at a tick (R239). -/
def Chip.updatesAt (c : Chip) (t region : Nat) : Nat :=
  (c.cmd.sched.filter (fun s => s.tick == t)).foldl (fun n s => n + (s.syms.filter (fun x => x.region == region)).length) 0

/-- No region takes more than 96 updates at tick `t` with these more (R239). -/
def Chip.updatesFit (c : Chip) (t : Nat) (syms : List Symbol) : Bool :=
  (List.range 4).all (fun r =>
    let n := (syms.filter (fun x => x.region == r)).length
    n == 0 || decide (c.updatesAt t r + n ≤ 96))

/-- The physical cells that a parameter for a logical cell reaches: its cell, and its spare in the shadow period
(R224). -/
def Chip.paramCells (c : Chip) (laddr : Nat) : List Nat :=
  c.physOf laddr :: (match c.graph.retire with
    | some r => if r.shadow && r.laddr == laddr then [c.spareOf laddr] else []
    | none => [])

/-! ## Levels in dB -/

/-- The largest n below 2 ^ `k` bits, from `n` up, with (2n − 1) ^ 2000 × den ≤ num: the search of ⟨x⟩ for
x ^ 2000 = num / (2 ^ 2000 × den). -/
def dbSearch (num den : Nat) : Nat → Nat → Nat
  | 0, n => n
  | k + 1, n =>
    let m := n + 2 ^ k
    if (2 * m - 1) ^ 2000 * den ≤ num then dbSearch num den k m else dbSearch num den k n

/-- ⟨10 ^ (g / 2,000) × 2²⁸⟩, at most 0x7FFF_FFFF (R241, R242). -/
def dbGain (g : Int) : Nat :=
  let num := 2 ^ 2000 * 2 ^ 56000 * 10 ^ g.toNat
  let den := 10 ^ (-g).toNat
  dbSearch num den 31 0

/-! ## Gain slots -/

/-- Changes gain slot `k` of a logical cell, and of its spare in the shadow period. -/
def Chip.modGain (c : Chip) (laddr k : Nat) (f : GainSlot → GainSlot) : Chip :=
  (c.paramCells laddr).foldl (fun c p => c.modCell p (fun x => x.setGain k (f (x.gain k)))) c

/-- CUR and TGT jump, and TMO_CNT reloads (R237). -/
def GainSlot.jump (g : GainSlot) (v : Word) : GainSlot := { g with cur := v, tgt := v, tmoCnt := g.tmo }

/-- TGT is written, and TMO_CNT reloads (R243, R244). -/
def GainSlot.aim (g : GainSlot) (v : Word) : GainSlot := { g with tgt := v, tmoCnt := g.tmo }

/-! ## PARAM_WRITE -/

/-- The entries of a PARAM_WRITE: handle, first word, and values (R258). -/
def paramEntries (b : List Byte) : Nat → List (Nat × Nat × List Word)
  | 0 => []
  | n + 1 =>
    let k := leField b 5 1
    (leField b 0 4, leField b 4 1, (List.range k).map (fun i => BitVec.ofNat 32 (leField b (8 + 4 * i) 4))) ::
      paramEntries (b.drop (8 + 4 * k)) n

def Req.paramList (r : Req) : List (Nat × Nat × List Word) := paramEntries (r.par.drop 4) (r.p 0 2)

/-- The length that the entries of a PARAM_WRITE take. -/
def Req.paramLen (r : Req) : Nat := r.paramList.foldl (fun n e => n + 8 + 4 * e.2.2.length) 4

/-- The reserved bytes of the entries are 0, and their counts lie from 1 to 64. -/
def paramShape (b : List Byte) : Nat → Bool
  | 0 => true
  | n + 1 =>
    let k := leField b 5 1
    within k 1 64 && decide (leField b 4 1 + k ≤ 64) && zeroBytes b 6 2 && paramShape (b.drop (8 + 4 * k)) n

/-- The bytes of words. -/
def wordBytes (ws : List Word) : List Byte := ws.flatMap (fun w => leBytes 4 w.toNat)

/-- A tap takes a new delay (R191, R237). -/
def Chip.setDelay (c : Chip) (region tap d : Nat) : Chip :=
  match c.graph.live with
  | none => c
  | some g =>
    let same (t : Tap) : Bool := t.region == region && t.tap == tap
    let c1 := { c with graph := { c.graph with live := some { g with taps := g.taps.map (fun t =>
      if same t then { t with delay := d } else t) } } }
    match g.taps.find? (fun t => same t && t.delay != d) with
    | some t => c1.primeTap { t with delay := d }
    | none => c1

/-- One entry of a PARAM_WRITE for its symbol. -/
def Chip.paramPut (c : Chip) (s : Symbol) (first : Nat) (ws : List Word) : Chip :=
  if s.kind = 0 then
    (let w : PortWrite := { back := true, addr := s.loc + 4 * first, bytes := wordBytes ws, whole := none }
     (c.paramCells s.owner).foldl (fun c p => c.portWrite p w) c)
  else if s.kind = 1 then c.mergeTile .region (s.owner % 4) (4194304 * (s.owner % 4) + s.loc + 4 * first) (wordBytes ws)
  else
    match ws with
    | w :: _ => if s.kind = 2 then c.modGain s.owner s.loc (fun g => g.jump w) else c.setDelay (s.owner % 4) s.loc w.toNat
    | [] => c

/-- The handles of the entries are resolved as at acceptance: the live table holds each with the same KIND, OWNER, LOC
and WORDS (R234). -/
def Chip.sameSyms (c : Chip) (syms : List Symbol) : Bool := syms.all (fun s => symOf c.liveSyms s.handle == some s)

/-- The entries of a command are dropped (R234). -/
def Chip.dropParams (c : Chip) (n : Nat) : Chip := (c.bumpBy Reg.ENG_PARAM_DROP n).event Reg.ENG_PARAM_EVENT 0 17 true

def Chip.effParamWrite (c : Chip) (r : Req) (syms : List Symbol) : Chip :=
  if !c.sameSyms syms then c.dropParams syms.length
  else
    (r.paramList.zip syms).foldl (fun c e => c.paramPut e.2 e.1.2.1 e.1.2.2) c

/-! ## GAIN_SET and GAIN_CFG -/

/-- The handles of the 16-byte entries of GAIN_SET and GAIN_CFG. -/
def Req.gainHandles (r : Req) : List Nat := (List.range (r.p 0 2)).map (fun i => r.p (4 + 16 * i) 4)

/-- The target of a GAIN_SET entry (R241). -/
def gainTarget (raw : Word) (lin : Bool) : Word :=
  if lin then raw
  else if raw = 0x80000000 then 0
  else BitVec.ofNat 32 (dbGain raw.toInt)

def Chip.effGainSet (c : Chip) (r : Req) (syms : List Symbol) : Chip :=
  if !c.sameSyms syms then c.dropParams syms.length
  else
    syms.zipIdx.foldl (fun c e =>
      let o := 4 + 16 * e.2
      let fl := r.p (o + 8) 1
      let v := gainTarget (BitVec.ofNat 32 (r.p (o + 4) 4)) (fl.testBit 0)
      c.modGain e.1.owner e.1.loc (fun g => if fl.testBit 1 then g.jump v else g.aim v)) c

def Chip.effGainCfg (c : Chip) (r : Req) (syms : List Symbol) : Chip :=
  if !c.sameSyms syms then c.dropParams syms.length
  else
    let hz := match c.eng.rate with
      | some x => x.hz
      | none => 0
    syms.zipIdx.foldl (fun c e =>
      let o := 4 + 16 * e.2
      let st : Int := r.p (o + 4) 2
      c.modGain e.1.owner e.1.loc (fun g =>
        { g with stepUp := BitVec.ofNat 32 (dbGain st), stepDn := BitVec.ofNat 32 (dbGain (-st)),
                 tmo := BitVec.ofNat 16 (ceilDiv (r.p (o + 6) 2 * hz) 10000),
                 floor := BitVec.ofNat 32 (dbGain (BitVec.ofNat 32 (r.p (o + 8) 4)).toInt) })) c

/-! ## Checks (R258) -/

/-- The symbols of a list of handles that suit the opcode; none when one is unknown or of the wrong KIND (R233). -/
def findSyms (t : List Symbol) (ok : Symbol → Bool) : List Nat → Option (List Symbol)
  | [] => some []
  | h :: r =>
    match symOf t h, findSyms t ok r with
    | some s, some l => if ok s then some (s :: l) else none
    | _, _ => none

/-- A graph is live or pending. -/
def Chip.anyGraph (c : Chip) : Bool :=
  c.graph.live.isSome || (match c.graph.bank with
    | .loaded _ => true
    | .scheduled _ => true
    | _ => false)

/-- The reasons of a PARAM or GAIN command over its symbols: R239 comes last (R570). -/
def Chip.symReason (c : Chip) (r : Req) (len packet values : Bool) (syms : Option (List Symbol)) : Nat :=
  let k := c.tickReason r len packet c.anyGraph syms.isSome [(values, rBadParam)]
  if k ≠ rOK then k else if c.updatesFit (c.effTick r) (syms.getD []) then rOK else rNoResource

/-- The symbols a PARAM_WRITE, GAIN_SET or GAIN_CFG names, in the table that holds for its effect tick. -/
def Chip.cmdSyms (c : Chip) (r : Req) : Option (List Symbol) :=
  let t := c.symsAt (c.effTick r)
  if r.op = 0x0301 then findSyms t (fun _ => true) (r.paramList.map (fun e => e.1))
  else if r.op = 0x0303 ∨ r.op = 0x0304 then findSyms t (fun s => s.kind == 2) r.gainHandles
  else some []

def Chip.chkParamWrite (c : Chip) (r : Req) : Nat :=
  let n := r.p 0 2
  let syms := c.cmdSyms r
  let g := c.graphAt (c.effTick r)
  let values := (r.paramList.zip (syms.getD [])).all (fun e =>
    let w : Word := e.1.2.2.headD 0
    if e.2.kind ≤ 1 then decide (e.1.2.1 + e.1.2.2.length ≤ e.2.words)
    else e.1.2.1 == 0 && e.1.2.2.length == 1 &&
      (if e.2.kind = 2 then !w.getLsbD 31
       else (match g with
        | some g =>
          (match g.taps.find? (fun t => t.region == e.2.owner % 4 && t.tap == e.2.loc) with
            | some t =>
              (match g.lines.find? (fun l => l.region == t.region && l.line == t.line) with
                | some l => l.delayOk w.toNat
                | none => true)
            | none => true)
        | none => true)))
  c.symReason r (decide (4 ≤ r.len) && r.len == r.paramLen)
    (r.noHandle && within n 1 82 && r.z 2 2 && paramShape (r.par.drop 4) n) values syms

def Chip.chkGainSet (c : Chip) (r : Req) : Nat :=
  let n := r.p 0 2
  let ok := (List.range n).all (fun i =>
    let o := 4 + 16 * i
    let w : Word := BitVec.ofNat 32 (r.p (o + 4) 4)
    decide (r.p (o + 8) 1 < 4) && r.z (o + 9) 7 &&
      (if (r.p (o + 8) 1).testBit 0 then !w.getLsbD 31
       else w == 0x80000000 || (decide (-14400 ≤ w.toInt) && decide (w.toInt ≤ 1806))))
  c.symReason r (r.len == 4 + 16 * n) (r.noHandle && within n 1 61 && r.z 2 2 && ok) true (c.cmdSyms r)

def Chip.chkGainCfg (c : Chip) (r : Req) : Nat :=
  let n := r.p 0 2
  let ok := (List.range n).all (fun i =>
    let o := 4 + 16 * i
    let w : Word := BitVec.ofNat 32 (r.p (o + 8) 4)
    within (r.p (o + 4) 2) 10 1200 && within (r.p (o + 6) 2) 1 3400 && decide (-14400 ≤ w.toInt) && decide (w.toInt ≤ 0) && r.z (o + 12) 4)
  c.symReason r (r.len == 4 + 16 * n) (r.noHandle && within n 1 61 && r.z 2 2 && ok) true (c.cmdSyms r)

/-! ## Tail streams (R249 to R253) -/

/-- The limit of R251 for a rate. -/
def tailLimit (r : Rate) : Nat := 49152000 * 32 / 48000 * 48000 / r.hz

/-- The descriptor of TAIL_BIND entry `i`, with its number. -/
def Req.tailEntry (r : Req) (i : Nat) : Nat × Tail :=
  let o := 8 + 32 * i
  (64 * r.p o 1 + r.p (o + 1) 1,
    { write := r.p (o + 2) 1 == 1, dramBase := r.p (o + 4) 4, dramTiles := r.p (o + 8) 4, ringBase := r.p (o + 12) 2,
      tiles := r.p (o + 14) 2, group := r.p (o + 16) 4, skip := r.p (o + 20) 4, ticks := 0, periods := 0 })

/-- The sum of TILES over the bound streams. -/
def Chip.tailSum (c : Chip) : Nat :=
  c.chain.tails.foldl (fun n e => match e.2 with
    | some t => n + t.tiles
    | none => n) 0

def Chip.effTailBind (c : Chip) (r : Req) : Chip :=
  (List.range (r.p 0 2)).foldl (fun c i =>
    let e := r.tailEntry i
    c.setTail e.1 (some e.2)) c

def Chip.effTailUnbind (c : Chip) (r : Req) : Chip :=
  { c with chain := { c.chain with tails := c.chain.tails.filter (fun e =>
      !((r.p 0 1 == 255 || e.1 / 64 == r.p 0 1) && (r.p 1 1 == 255 || e.1 % 64 == r.p 1 1))) } }

/-- TAIL_BIND's checks: `d` is the chip at its effect tick, and `fits` says that TILES stay within the limit (R251). -/
def Chip.chkTailBind (c : Chip) (d : Chip) (fits : Bool) (r : Req) : Nat :=
  let n := r.p 0 2
  let es := (List.range n).map r.tailEntry
  let shape := (List.range n).all (fun i =>
    let o := 8 + 32 * i
    let t := (r.tailEntry i).2
    decide (r.p o 1 ≤ 3) && decide (r.p (o + 1) 1 < 64) && decide (r.p (o + 2) 1 ≤ 1) && r.z (o + 3) 1 && r.z (o + 24) 8 &&
      within t.tiles 1 1024 && decide (t.tiles ≤ t.dramTiles) && decide (t.skip < t.dramTiles) && (t.skip == 0 || t.group != 0) &&
      decide (t.ringBase + 3 * t.tiles ≤ 16384))
  let room := es.all (fun e => decide (256 * (e.2.dramBase + e.2.dramTiles) ≤ c.dramUsable))
  let k := c.tickReason r (r.len == 8 + 32 * n) (r.noHandle && within n 1 30 && r.z 2 6 && shape)
    (es.all (fun e => (d.tail e.1).isNone) && distinct (es.map (fun e => e.1)) && within c.eng.engine.code 1 3) true [(room, rBadParam)]
  if k ≠ rOK then k else if fits then rOK else rNoResource

def Chip.chkTailUnbind (c : Chip) (d : Chip) (r : Req) : Nat :=
  let a := r.p 0 1
  let b := r.p 1 1
  let named := d.chain.tails.any (fun e => (a == 255 || e.1 / 64 == a) && (b == 255 || e.1 % 64 == b))
  c.tickReason r (r.len == 4) (r.noHandle && (decide (a ≤ 3) || a == 255) && (decide (b < 64) || b == 255) && r.z 2 2) true true
    [(named || (a == 255 && b == 255), rBadParam)]

/-- The effect of a TAIL opcode at its tick. -/
def Chip.effTail (op : Nat) (c : Chip) (_ : Nat) (r : Req) : Chip :=
  if op = 0x0306 then c.effTailBind r
  else if op = 0x0307 then c.effTailUnbind r
  else c

end Sys2Proof.Machine
end

