-- ==== Sys2Proof/Machine/SapEff.lean ====
section
/-! DEFINITION. The effects of the PORT opcodes at their ticks (R390). -/
namespace Sys2Proof.Machine
open Sys2Proof

/-! ## Effects of the PORT opcodes -/

/-- A TDM port's CFG word of PORT_CFG parameters, EN and ARMED 0. -/
def tdmCfgWord (b : List Byte) : Word :=
  let p (o n : Nat) : Nat := leField b o n
  let fl := p 5 1
  let w := if p 3 1 = 16 then 0 else if p 3 1 = 24 then 1 else 2
  let d := if p 4 1 = 16 then 0 else if p 4 1 = 20 then 1 else if p 4 1 = 24 then 2 else 3
  BitVec.ofNat 32 (p 1 1 * 2 ^ 28 + bits fl 0 0 * 2 ^ 27 + bits fl 1 1 * 2 ^ 26 + bits fl 2 2 * 2 ^ 25 + bits fl 3 3 * 2 ^ 24 +
    w * 2 ^ 22 + d * 2 ^ 20 + p 2 1 * 2 ^ 14 + p 6 2 * 2 ^ 3 + mclkCode (p 8 2))

/-- The parameters of PORT_CFG lie in their ranges and its reserved bytes are 0; byte 0 is checked apart. -/
def tdmParamsOk (b : List Byte) : Bool :=
  let p (o n : Nat) : Nat := leField b o n
  decide (p 1 1 ≤ 2) && within (p 2 1) 2 32 && [16, 24, 32].contains (p 3 1) && [16, 20, 24, 32].contains (p 4 1) &&
  decide (p 5 1 < 16) && within (p 6 2) 32 1024 && decide (mclkCode (p 8 2) ≠ 7) && zeroBytes b 10 6

def Chip.effPortCfg (c : Chip) (_ : Nat) (r : Req) : Chip :=
  let p := r.p 0 1
  if c.portEn 0 p || c.portArmed 0 p then c else c.setReg (Reg.SAP_TDM_CFG p) (tdmCfgWord r.par)

def Chip.effPortEnable (c : Chip) (ch : Nat) (r : Req) : Chip :=
  let c1 := c.portEnable (r.p 0 1) (r.p 1 1)
  if c1.portEn (r.p 0 1) (r.p 1 1) then c1 else c1.effectFail ch r.op 10

def Chip.effPortDisable (c : Chip) (_ : Nat) (r : Req) : Chip :=
  let k := r.p 0 1
  let i := r.p 1 1
  let c1 := if c.portArmed k i then c.leaveSet k i else c
  if c1.portEn k i then c1.portStop k i else c1

def Chip.effPortSlots (c : Chip) (_ : Nat) (r : Req) : Chip :=
  let p := r.p 0 1
  let rm : Word := BitVec.ofNat 32 (r.p 4 4)
  let tm : Word := BitVec.ofNat 32 (r.p 8 4)
  ((c.setReg (Reg.SAP_TDM_RXMASK p) rm).setReg (Reg.SAP_TDM_TXMASK p) tm).setTdm p { c.tdm p with rxMask := rm, txMask := tm }

/-- The first reason for which a set cannot be armed, each port counting those before it (R34, R369). -/
def Chip.armReason (c : Chip) : List (Nat × Nat) → Nat
  | [] => rOK
  | (k, i) :: r =>
    let x := c.portCheck k i
    if x = rOK then (c.setBit (portCfg k i) 30 true).armReason r else x

def Chip.effStartArm (c : Chip) (ch : Nat) (r : Req) : Chip :=
  let set := armSet (r.p 0 2) (r.p 2 1) (r.p 3 1)
  let k := if c.sapForced then rBadState else if c.isArmed then rStartArmed else c.armReason set
  if k ≠ rOK then
    (match set.head? with
      | some p => c.sapReason p.1 p.2 k
      | none => c).effectFail ch r.op 10
  else
    let c1 := set.foldl (fun c p => (c.setBit (portCfg p.1 p.2) 30 true).portStart p.1 p.2) c
    (c1.setReg Reg.SAP_START_CFG (BitVec.ofNat 32 (2 ^ 31 + (r.p 4 1) * 2 ^ 30 + (r.p 5 1) * 2 ^ 29 + (r.p 3 1) * 256 + r.p 2 1))).setReg
      Reg.SAP_START_MASK (BitVec.ofNat 32 (r.p 0 2))

def Chip.effStart (c : Chip) (_ : Nat) (_ : Req) : Chip := if c.regBit Reg.SAP_START_CFG 30 then c else c.releaseSet

def Chip.effAesCfg (c : Chip) (_ : Nat) (r : Req) : Chip :=
  let i := r.p 1 1
  if r.p 0 1 = 1 then c.setFld (Reg.SAP_AESRX_CFG i) 15 0 (r.p 2 2)
  else (c.setBit (Reg.SAP_AESTX_CFG i) 29 ((r.p 4 1).testBit 0)).putCs i (bytesFrom r.par 8 24)

def Chip.effMadiCfg (c : Chip) (_ : Nat) (r : Req) : Chip :=
  let k := r.p 0 1
  let i := r.p 1 1
  let busy := c.portEn k i || c.portArmed k i
  let c1 := if busy then c else
    c.modReg (portCfg k i) (fun x => putBit (putBit x 29 (r.p 2 1 == 1)) 28 (r.p 3 1 == 56))
  if k = 3 then c1.setFld (portCfg k i) 15 0 (r.p 4 2) else c1.putCs (8 + i) (bytesFrom r.par 8 24)

/-- The effect of a PORT opcode at its tick. -/
def Chip.effSap (op : Nat) (c : Chip) (ch : Nat) (r : Req) : Chip :=
  if op = 0x0501 then c.effPortCfg ch r
  else if op = 0x0502 then c.effPortEnable ch r
  else if op = 0x0503 then c.effPortDisable ch r
  else if op = 0x0504 then c.effPortSlots ch r
  else if op = 0x0505 then c.effStartArm ch r
  else if op = 0x0506 then c.effStart ch r
  else if op = 0x0508 then c.effAesCfg ch r
  else if op = 0x0509 then c.effMadiCfg ch r
  else c

end Sys2Proof.Machine
end

