-- ==== Sys2Proof/Machine/TickEff.lean ====
section
/-! DEFINITION. SUSPEND, RESUME and SET_RATE (R74 to R86): their checks and effects. -/
namespace Sys2Proof.Machine
open Sys2Proof

/-! ## Effects -/

/-- SUSPEND takes effect: a hold of `h` ticks from this one, or until RESUME (R74, R80). -/
def Chip.effSuspend (c : Chip) (h : Nat) : Chip :=
  if c.eng.engine == .running then
    let c1 := { c with eng := { c.eng with suspended := true, holdIndef := h == 0, holdLeft := h } }
    if c.eng.suspended then c1 else c1.event Reg.ENG_EVENT 0 17 true
  else c

/-- The traverse runs again from this tick (R74, R77). -/
def Chip.endSuspend (c : Chip) : Chip :=
  if c.eng.suspended then
    ({ c with eng := { c.eng with suspended := false, holdIndef := false, holdLeft := 0 } }).event Reg.ENG_EVENT 1 17 true
  else c

/-- SET_RATE takes effect at T: the ramp of R82 begins. A change in progress stays, and the later command is answered
with BAD_STATE. -/
def Chip.effSetRate (c : Chip) (ch : Nat) (r : Req) : Chip :=
  match c.eng.change, Rate.ofCode (r.p 0 1) with
  | none, some x => { c with eng := { c.eng with change := some { t := c.tickN, rate := x, ch := ch, stopped := false, oldRate := c.eng.rate, align := none } } }
  | _, _ => c.refuse ch rBadState

/-! ## Checks -/

/-- The tick from which the traverse runs again as the engine stands with the commands accepted: 0 when it is not
suspended, none without a RESUME. The state is that before tick `t`. -/
def Chip.holdEnd (c : Chip) (t : Nat) : Option Nat :=
  let now : Option Nat := if !c.eng.suspended then some 0 else if c.eng.holdIndef then none else some (c.tickN + c.eng.holdLeft)
  ((sortSched c.cmd.sched).filter (fun s => decide (s.tick < t))).foldl (fun (a : Option Nat) s =>
    if s.op = 0x0110 then
      (let h := (parseReq s.req).p 0 4
       if h = 0 then none else some (s.tick + h))
    else if s.op = 0x0111 then some 0
    else a) now

/-- The engine is suspended at tick `t` unless a command changes it there. -/
def Chip.suspendedAt (c : Chip) (t : Nat) : Bool := match c.holdEnd t with
  | some e => decide (t < e)
  | none => true

/-- No SUSPEND, RESUME or SET_RATE is scheduled for tick `t` (R81). -/
def Chip.oneOnly (c : Chip) (t : Nat) : Bool :=
  c.cmd.sched.all (fun s => !(s.tick == t && (s.op == 0x0110 || s.op == 0x0111 || s.op == 0x0112)))

def Chip.chkSuspend (c : Chip) (d : Chip) (r : Req) : Nat :=
  c.tickReason r (r.len == 4) r.noHandle
    ((d.eng.engine == .running || d.eng.engine == .suspended) && c.oneOnly (c.effTick r)) true []

def Chip.chkResume (c : Chip) (r : Req) : Nat :=
  c.tickReason r (r.len == 0) r.noHandle (c.suspendedAt (c.effTick r) && c.oneOnly (c.effTick r)) true []

/-- SET_RATE: the limits of R34 are those of the new rate without a graph. -/
def Chip.chkSetRate (c : Chip) (d : Chip) (r : Req) : Nat :=
  let code := r.p 0 1
  let x := Rate.ofCode code
  let k := c.tickReason r (r.len == 4) (r.noHandle && x.isSome && r.z 1 3)
    (within c.eng.engine.code 1 3 && c.oneOnly (c.effTick r)) true [(x != c.eng.rate, rBadParam), (decide (c.pwr.stage < 2), rShedActive)]
  if k ≠ rOK then k
  else if ({ d with eng := { d.eng with rate := x } }).withinLimits x [] then rOK else rNoResource

end Sys2Proof.Machine
end

