-- ==== Sys2Proof/Machine/Effects.lean ====
section
/-! DEFINITION. The effect of every opcode that takes effect at a tick, and the chip as it will stand at a tick (R64, R297). -/
namespace Sys2Proof.Machine
open Sys2Proof

/-- The effect of an opcode at its boundary, for the opcodes whose effect needs no more than the packet. One whose access meets a
force-gated unit is not performed (R353). -/
def Chip.effectOf (op : Nat) (c : Chip) (ch : Nat) (r : Req) : Chip :=
  if (c.opForced op).isSome && !opEnables op then c.opHit op
  else match op / 256 with
  | 1 => if op = 0x0110 then c.effSuspend (r.p 0 4) else if op = 0x0111 then c.endSuspend else if op = 0x0112 then c.effSetRate ch r else c
  | 2 => Chip.effGraph op c ch r
  | 3 => Chip.effTail op c ch r
  | 4 => Chip.effGraph op c ch r
  | 5 => Chip.effSap op c ch r
  | 6 => Chip.effNet op c ch r
  | 7 => Chip.effDatum op c ch r
  | 8 => Chip.effDrive op c ch r
  | _ => c

/-- The opcodes whose effects the check of a later command counts in (R297). -/
def dueOps : List Nat :=
  [0x0202, 0x0306, 0x0307, 0x0401, 0x0501, 0x0502, 0x0503, 0x0504, 0x0505, 0x0506, 0x0508, 0x0509, 0x0601, 0x0602,
   0x0604, 0x0605, 0x0606, 0x0607, 0x0701, 0x0702, 0x0703, 0x0704, 0x0705, 0x0801, 0x0802, 0x0803, 0x0804, 0x0806]

/-- The chip as it will stand at tick `t` with every command accepted that is due by then (R297). -/
def Chip.due (c : Chip) (t : Nat) : Chip := c.ahead t dueOps Chip.effectOf

/-- A request as a packet, without its CRC (R273). -/
def Req.packet (r : Req) : List Byte :=
  leBytes 2 r.op ++ leBytes 2 r.len ++ leBytes 2 r.seq ++ leBytes 2 r.flags ++ leBytes 8 r.atTick ++ leBytes 4 r.handle ++
  List.replicate 12 0 ++ r.par

/-- The chip with a command of channel `ch` scheduled for its effect tick. -/
def Chip.withSched (c : Chip) (ch : Nat) (r : Req) : Chip :=
  let e : Sched := { ch := ch, op := r.op, seq := r.seq, tick := c.effTick r, req := r.packet, syms := [], table := [],
                     waits := false, noMirror := r.noMirror, remote := false }
  { c with cmd := { c.cmd with sched := c.cmd.sched ++ [e] } }

/-- With the TAIL_BIND of channel `ch` accepted, the sum of TILES stays within its limit at its effect tick and at that of
every bind accepted for later (R251). -/
def Chip.tailsFit (c : Chip) (ch : Nat) (r : Req) : Bool :=
  let e := c.effTick r
  let d := c.withSched ch r
  let later := (c.cmd.sched.filter (fun s => s.op == 0x0306 && decide (e < s.tick))).map (fun s => s.tick)
  match c.rateNow with
  | some x => (e :: later).all (fun t => decide ((d.due t).tailSum ≤ tailLimit x))
  | none => true

end Sys2Proof.Machine
end

