-- ==== Sys2Proof/Machine/Datum.lean ====
section
/-! DEFINITION. The datum's commands and events: DATUM opcodes (R339), monitors (R311 to R315), states (R320),
holdover (R322 to R326) and the time counter (R333 to R338). -/
namespace Sys2Proof.Machine
open Sys2Proof

/-! ## Opcodes: their checks (R339) -/

def Chip.chkRefCfg (c : Chip) (r : Req) : Nat :=
  let n := r.p 0 1
  let d := c.due (c.effTick r)
  let cfg := d.reg (refCFG n)
  let win := d.reg (refWIN n)
  let same := decide (fld cfg 27 26 = r.p 1 1) && decide (fld cfg 23 20 = r.p 2 1) && decide (10 * fld win 15 0 = r.p 4 4) &&
    decide (10 * fld win 31 16 = r.p 8 4) && decide (100 * fld cfg 12 0 = r.p 12 4)
  let rate := if n = 4 ∨ n = 5 then r.p 2 1 == 0 else within (r.p 2 1) 1 6
  let mode := if n < 4 then decide (r.p 1 1 ≤ 1) else r.p 1 1 == 0
  c.tickReason r (r.len == 16) (r.noHandle && decide (n < 18) && mode && rate) (!d.refEn n || same) true
    [(decide (r.p 3 1 ≤ 7) && within (r.p 4 4) 10 200000 && r.p 4 4 % 10 == 0 && within (r.p 8 4) 20 200000 && r.p 8 4 % 10 == 0 &&
      decide (r.p 4 4 < r.p 8 4) && within (r.p 12 4) 100 600000 && r.p 12 4 % 100 == 0, rLimits)]

def Chip.chkRefEnable (c : Chip) (r : Req) : Nat :=
  let n := r.p 0 1
  let d := c.due (c.effTick r)
  let k := if r.p 1 1 = 1 ∧ !d.refEn n then d.refCheck n else rOK
  c.tickReason r (r.len == 4) (r.noHandle && decide (n < 18) && decide (r.p 1 1 ≤ 1) && r.z 2 2) true true [(k == rOK, k)]

def Chip.chkDatumCfg (c : Chip) (r : Req) : Nat :=
  c.tickReason r (r.len == 24)
    (r.noHandle && decide (r.p 2 1 < 8) && r.z 5 3 && r.z 20 4) true true
    [(within (r.p 0 2) 1 1000 && decide (r.p 3 1 < 128) && within (r.p 8 4) 1 1000000 && within (r.p 12 2) 10 10000 &&
      within (r.p 14 2) 1 600 && within (r.p 16 4) 1 604800, rLimits)]

def Chip.chkFreqAdj (c : Chip) (r : Req) : Nat :=
  let v := (BitVec.ofNat 32 (r.p 0 4)).toInt
  c.tickReason r (r.len == 4) r.noHandle (c.dState == 0 || c.dState == 3) true
    [(decide (v.natAbs ≤ 200000000), rLimits)]

/-- DATUM_STEP's checks: s, and the remainder that it and every step accepted for later would leave, lie within the limit (R329,
R330). -/
def Chip.chkStep (c : Chip) (r : Req) : Nat :=
  let v := (BitVec.ofNat 32 (r.p 0 4)).toInt
  let t := c.effTick r
  c.tickReason r (r.len == 4) r.noHandle (!(c.due t).onGrid) true
    [(decide (v.natAbs ≤ stepLimit.natAbs) && (c.stepsWith t v).all (fun e => decide (e.2.natAbs ≤ stepLimit.natAbs)), rLimits)]

/-- The payload of DATUM_STEP: the boundary at which the whole remainder is in force, at the latest T+64 of a SET_RATE. -/
def Chip.stepPayload (c : Chip) (r : Req) : List Byte :=
  let t := c.effTick r
  let n := t + match c.eng.rate, (c.stepsWith t (BitVec.ofNat 32 (r.p 0 4)).toInt).head? with
    | some x, some e => stepTicks x e.2
    | _, _ => 0
  let ends := (c.rateTicks ++ (c.eng.change.map (fun k => k.t)).toList).map (fun t => t + 64)
  leBytes 8 (ends.foldl min n)

/-- The payload of DATUM_STATUS. -/
def Chip.datumPayload (c : Chip) : List Byte :=
  let s := c.reg Reg.DTM_STATE
  leBytes 1 (fld s 2 0) ++ leBytes 1 (if c.bench = 31 then 255 else c.bench) ++
  leBytes 1 (fld s 4 4 + 2 * fld s 5 5 + 4 * fld s 6 6 + 8 * fld s 7 7 + 16 * fld s 13 13 + 32 * fld s 15 15) ++ [0] ++
  leBytes 4 (c.reg Reg.DTM_PHASE_ERR).toNat ++ leBytes 4 (c.reg Reg.DTM_FREQ).toNat ++ leBytes 4 (c.reg Reg.DTM_HOLD_SEC).toNat ++
  (List.range 18).flatMap (fun r =>
    let t := c.reg (refSTAT r)
    leBytes 1 (ofFlag (c.refEn r) + 2 * fld t 31 31 + 4 * fld t 30 30 + 8 * fld t 29 29) ++ leBytes 1 (c.refRank r) ++
    leBytes 1 (fld t 27 24) ++ [0] ++ leBytes 4 (c.reg (refFREQ r)).toNat ++ leBytes 4 (100 * fld t 12 0))

/-! ## Opcodes: their rows -/

def execRefCfg (ch : BitVec 4) (s : State) : Host.Outcome State Fault Refusal :=
  s.act (fun c => c.runTick ch.toNat 0x0701 (c.chkRefCfg (c.reqOf ch.toNat)))

def execRefEnable (ch : BitVec 4) (s : State) : Host.Outcome State Fault Refusal :=
  s.act (fun c => c.runTick ch.toNat 0x0702 (c.chkRefEnable (c.reqOf ch.toNat)))

def execDatumCfg (ch : BitVec 4) (s : State) : Host.Outcome State Fault Refusal :=
  s.act (fun c => c.runTick ch.toNat 0x0703 (c.chkDatumCfg (c.reqOf ch.toNat)))

def execDatumFreqAdj (ch : BitVec 4) (s : State) : Host.Outcome State Fault Refusal :=
  s.act (fun c => c.runTick ch.toNat 0x0704 (c.chkFreqAdj (c.reqOf ch.toNat)))

def execDatumStep (ch : BitVec 4) (s : State) : Host.Outcome State Fault Refusal :=
  s.act (fun c => c.runTick ch.toNat 0x0705 (c.chkStep (c.reqOf ch.toNat)))

def execDatumStatus (ch : BitVec 4) (s : State) : Host.Outcome State Fault Refusal :=
  s.act (fun c =>
    let r := c.reqOf ch.toNat
    c.runNow ch.toNat 0x0706 (firstFail [r.lenIs 0, (r.noTick && r.noHandle, rBadParam)]) (fun c => c.done ch.toNat c.datumPayload))

def execHoldoverSave (ch : BitVec 4) (bad : Option (BitVec 3)) (s : State) : Host.Outcome State Fault Refusal :=
  s.act (fun c =>
    let r := c.reqOf ch.toNat
    let inval := r.p 0 1 == 1
    c.runNow ch.toNat 0x0707
      (firstFail [r.lenIs 4, (r.noTick && r.noHandle && decide (r.p 0 1 ≤ 1) && r.z 1 3, rBadParam),
        ((inval || c.dtm.model.valid) && !c.swapBars r, rBadState)])
      (fun c =>
        let b := bad.map BitVec.toNat
        let c0 := if inval then ({ c with dtm := { c.dtm with model := { c.dtm.model with valid := false, records := 0, recs := [] } } }).setBit Reg.DTM_STATE 5 false else c
        let w := c0.saveModel (if b = some 0 then some 0 else none)
        let w2 := if w.2 && !inval then
            w.1.fbWrite fbRefs w.1.refBlock (match b with
              | some k => if 1 ≤ k then some (k - 1) else none
              | none => none)
          else w
        if w2.2 then w2.1.done ch.toNat [] else w2.1.refuse ch.toNat rCheckFail))

/-! ## Monitors -/

def execRefEnWrite (ref : BitVec 5) (v : Word) (s : State) : Host.Outcome State Fault Refusal :=
  s.act (fun c =>
    let r := ref.toNat
    if 18 ≤ r then c
    else if c.refEn r then
      if v.getLsbD 31 then c.setMon r { c.mon r with rankNext := some (fld v 30 28) } else (c.refDisable r 5).select
    else
      let c1 := c.setReg (refCFG r) (v &&& 0x7CF01FFF)
      if v.getLsbD 31 then (c1.refEnable r).select else c1)

/-- A phase sample of the benchmark: the loop moves the correction, and LOCKED ends beyond 4 × LOCK_NS (R311, R320). -/
def Chip.benchSample (c : Chip) (phase : Int) : Chip :=
  let c1 := (c.phaseSample phase).loopCorr
  if c1.dState = 2 ∧ (c1.reg Reg.DTM_PHASE_ERR).toInt.natAbs > 16 * c1.regFld Reg.DTM_LOCK_CFG 15 0 then c1.enterDatum 1 false
  else c1.lockCheck

/-- REF_TIMING_POINT. The points of PTP are boundary times read from the counter: its monitor watches the Sync messages, and the
servo is to be configured and to follow a master (R308, R312). Only the 10 MHz of PPS10M is sampled for phase. -/
def execRefTimingPoint (ref : RefIn) (dev : BitVec 16) (phase : Word) (s : State) : Host.Outcome State Fault Refusal :=
  s.act (fun c =>
    let r := ref.ref.toNat
    if !c.refEn r || c.dState == 4 then c
    else if r = 5 then (if c.net.ptp.profile != 0 && c.net.ptp.master.isSome && c.bench == 5 then c.benchSample phase.toInt else c)
    else if dev.toInt.natAbs ≤ 250 then
      let c1 := c.edgeSeen r ref.pps
      if c1.bench = r ∧ ref.pps = false then c1.benchSample phase.toInt else c1
    else
      let n := c.regFld (refCNT r) 15 0
      (c.setFld (refCNT r) 15 0 (min 65535 (n + 1))).setMon r { c.mon r with extra := (c.mon r).extra + 1 })

def execMissingEdge (ref : RefIn) (s : State) : Host.Outcome State Fault Refusal :=
  s.act (fun c =>
    let r := ref.ref.toNat
    let pps := ref.pps
    if !c.refEn r || c.dState == 4 || r == 5 then c
    else
      let m := c.mon r
      let c1 := (c.setFld (refCNT r) 31 16 (min 65535 (c.regFld (refCNT r) 31 16 + 1))).setMon r
        { m with run := m.run + ofFlag (!pps), runPps := m.runPps + ofFlag pps, miss := m.miss + 1 }
      if 4 ≤ (if pps then m.runPps else m.run) + 1 ∧ !m.tripped then c1.tripRef r else c1)

def execFreqGateEnd (ref : BitVec 5) (freq : Word) (s : State) : Host.Outcome State Fault Refusal :=
  s.act (fun c =>
    let r := ref.toNat
    if !c.refEn r || c.dState == 4 then c
    else
      let m := c.mon r
      let bad := decide (2 < m.extra) || decide (2 < m.miss)
      let off := freq.toInt.natAbs
      let inA := !bad && decide (off ≤ 10000 * c.regFld (refWIN r) 15 0)
      let inR := !bad && decide (off ≤ 10000 * c.regFld (refWIN r) 31 16)
      let c1 := (c.setReg (refFREQ r) (if bad then 0x7FFFFFFF else freq)).setMon r { m with extra := 0, miss := 0 }
      let c2 := (c1.setBit (refSTAT r) 29 inA).setBit (refSTAT r) 28 inR
      let c3 :=
        if inA && !m.tripped then
          let left := c2.regFld (refSTAT r) 12 0 - (if r = 5 then 10 else 1)
          let c3 := c2.setFld (refSTAT r) 12 0 left
          if left = 0 ∧ c2.refRank r ≠ 0 then c3.setBit (refSTAT r) 31 true else c3
        else c2.requal r
      let c4 := if inR then c3 else c3.disqualify r (if 2 < m.extra then 3 else if 2 < m.miss then 4 else 2) true
      (if c4.bench = r then c4.lockCheck else c4).markDisagree.select)

def execPtpSyncTimeout (s : State) : Host.Outcome State Fault Refusal :=
  s.act (fun c => if c.refEn 5 && !(c.mon 5).tripped then c.tripRef 5 else c)

/-! ## States and holdover -/

def execDatumLock (s : State) : Host.Outcome State Fault Refusal :=
  s.act (fun c =>
    if c.dState = 1 ∧ c.bench ≠ 31 ∧ c.lockNear ∧ c.lockHeld then
      let c1 := c.enterDatum 2 true
      if c1.onGrid then c1.mediaFromTime else c1
    else c)

def execHoldoverUpdate (s : State) : Host.Outcome State Fault Refusal :=
  s.act (fun c =>
    if c.dState = 3 then (c.setReg Reg.DTM_HOLD_SEC (c.reg Reg.DTM_HOLD_SEC + 1)).evalCorr
    else if c.dState = 0 then c.evalCorr
    else c)

def execHoldLimitExpiry (s : State) : Host.Outcome State Fault Refusal :=
  s.act (fun c =>
    if c.dState = 3 ∧ c.dtm.holdLimit ≤ (c.reg Reg.DTM_HOLD_SEC).toNat ∧ !c.regBit Reg.DTM_STATE 6 then
      (c.setBit Reg.DTM_STATE 6 true).datumUnlock
    else c)

def execModelRecord (s : State) : Host.Outcome State Fault Refusal :=
  s.act (fun c =>
    if c.dState = 2 ∧ c.regBit Reg.DTM_CTRL 13 then
      let x : ModelRec := { time := c.dtm.time.sec.toNat, temp := histMean c.dtm.clocks c.dtm.temps,
                            corr := histMean c.dtm.clocks c.dtm.corrs }
      let m := c.dtm.model.learn x c.tempUsed.2
      ({ c with dtm := { c.dtm with model := m } }.setBit Reg.DTM_STATE 5 m.valid).tempFlag
    else c)

def execXoSensorRead (val : Option Half) (s : State) : Host.Outcome State Fault Refusal :=
  s.act (fun c =>
    let v := if c.regFld Reg.DTM_CTRL 23 17 = 0 then 0x8000 else (val.getD 0x8000).toNat
    let c1 := { c with dtm := { c.dtm with xoRead := val.isSome && v != 0x8000 } }
    (c1.setFld Reg.DTM_TEMP 15 0 v).tempFlag)

def execModelSave (bad : Bool) (s : State) : Host.Outcome State Fault Refusal :=
  s.act (fun c =>
    if c.dState = 2 ∧ c.dtm.model.valid then (c.saveModel (if bad then some 0 else none)).1 else c)

/-! ## The time counter -/

def execTimeAdjWrite (v : Word) (s : State) : Host.Outcome State Fault Refusal :=
  s.act (fun c => (c.setReg Reg.DTM_TIME_ADJ v).timeAdd v.toInt)

def execTimeIncWrite (lo : Option Word) (hi : Option Half) (s : State) : Host.Outcome State Fault Refusal :=
  s.act (fun c =>
    let c1 := match lo with
      | some v => c.setReg Reg.DTM_TIME_INC_LO v
      | none => c
    match hi with
    | some v => c1.setInc (v.toNat * 2 ^ 32 + (c1.reg Reg.DTM_TIME_INC_LO).toNat)
    | none => c1)

def execMediaOffWrite (v : DWord) (s : State) : Host.Outcome State Fault Refusal :=
  s.act (fun c => { c with dtm := { c.dtm with mediaNext := some v } })

def execPpsInEdge (clks : Word) (eighth : BitVec 3) (s : State) : Host.Outcome State Fault Refusal :=
  s.act (fun c =>
    let c1 := (c.timePass clks.toNat).capture false eighth.toNat
    let c2 := { c1 with dtm := { c1.dtm with ppsPhase := some (c1.dtm.pps.at_.units - c1.dtm.bound.units) } }
    (if c2.dtm.alignDue && c2.onGrid && c2.bench == 4 then c2.alignGrid else c2).steerPps)

def execCaptureNsRead (start : Bool) (s : State) : Host.Outcome State Fault Refusal :=
  s.act (fun c =>
    if !c.pfUp false then c
    else
    let k := if start then c.dtm.start else c.dtm.pps
    let lo := if start then Reg.DTM_START_SEC_LO else Reg.DTM_PPS_SEC_LO
    let hi := if start then Reg.DTM_START_SEC_HI else Reg.DTM_PPS_SEC_HI
    let c1 := (c.setReg lo (k.at_.sec.setWidth 32)).setReg hi
      (putFld (putFld (putFld 0 30 30 (ofFlag (c.regBit hi 30))) 17 16 (fld k.at_.frac 39 38)) 15 0 (k.at_.sec.toNat / 2 ^ 32))
    let k1 := { k with unread := false }
    { c1 with
      dtm := if start then { c1.dtm with start := k1 } else { c1.dtm with pps := k1 }
      host := { c1.host with rsp := { status := 1, data := k.at_.ns.setWidth 64 } } })

end Sys2Proof.Machine
end

