-- ==== Sys2Proof/Machine/Drive.lean ====
section
/-! DEFINITION. The drive block's opcodes and events (R419 to R442). -/
namespace Sys2Proof.Machine
open Sys2Proof

/-! ## Checks of the DRIVE opcodes (R441) -/

def Chip.chkDriveCfg (c : Chip) (r : Req) : Nat :=
  let d := c.due (c.effTick r)
  let f := r.p 24 4
  let band := if (r.p 1 1).testBit 1 then within f 2100000 3000000 else within f 1500 2500
  c.tickReason r (r.len == 44)
    (r.noHandle && decide (r.p 0 1 < 8) && decide (r.p 1 1 < 8) && decide (384 ≤ r.p 4 2) && decide (r.p 4 2 ≤ r.p 2 2) &&
      decide (r.p 2 2 ≤ r.p 6 2) && decide (r.p 6 2 ≤ 1536) && within (r.p 8 2) 100 1000 && within (r.p 10 2) 500 980 &&
      within (r.p 12 2) 500 65000 && within (r.p 14 2) 500 65000 && decide (r.p 14 2 < r.p 12 2) && decide (1 ≤ r.p 16 2) &&
      decide (1 ≤ r.p 18 2) && within (r.p 20 2) 100 20000 && within (r.p 22 2) 50 2000 && band && within (r.p 28 1) 20 60 &&
      within (r.p 29 1) 2 32 && within (r.p 30 2) 25 1000 && decide (1000 ≤ r.p 32 4) && decide (r.p 32 4 < r.p 36 4) &&
      decide (r.p 36 4 ≤ 655350) && within (r.p 40 2) 100 60000 && decide (r.p 42 1 ≤ 15) && r.z 43 1)
    (!d.modEn (r.p 0 1)) true []

def Chip.chkDriveProtect (c : Chip) (r : Req) : Nat :=
  let d := c.due (c.effTick r)
  let n := r.p 0 1
  let fs := (List.range n).map (fun i => r.p (8 + 4 * i) 4)
  let ok := (List.range 8).all (fun m => !d.modEn m ||
    (match d.rateNow with
      | some x => clearOf (d.drvM m * x.hz) (r.p 4 4) fs
      | none => true))
  c.tickReason r (decide (r.len = 8 + 4 * n))
    (r.noHandle && decide (n ≤ 16) && r.z 1 3 && within (r.p 4 4) 1000 100000 && fs.all (fun f => within f 100000 30000000))
    ok true []

/-- Module and mask of DRIVE_ENABLE, DRIVE_DISABLE and DRIVE_CLEAR. -/
def Req.drvOk (r : Req) : Bool := r.noHandle && decide (r.p 0 1 < 8) && r.p 1 1 != 0 && r.z 2 2

def Chip.chkDriveEnable (c : Chip) (r : Req) : Nat :=
  let d := c.due (c.effTick r)
  let m := r.p 0 1
  let k := if d.modEn m then rOK else d.drvCheck m
  let latched := (maskBits (r.p 1 1) 8).any (fun i => decide (5 ≤ d.drvState (8 * m + i)))
  c.tickReason r (r.len == 4) r.drvOk (!(d.drvMod m).cfg.isEmpty && !latched && !d.forced 3) true
    [(decide (d.pwr.stage < 3), rShedActive), (k == rOK, k)]

def Chip.chkDriveDisable (c : Chip) (r : Req) : Nat := c.tickReason r (r.len == 4) r.drvOk true true []

def Chip.chkDriveClear (c : Chip) (r : Req) : Nat := c.tickReason r (r.len == 4) r.drvOk true true []

/-- The payload of DRIVE_ENABLE: M and the carrier as they will be at the effect tick. -/
def Chip.drivePayload (c : Chip) (r : Req) : List Byte :=
  let d := c.due (c.effTick r)
  let m := r.p 0 1
  match d.rateNow with
  | some x =>
    let k := if d.modEn m then d.drvM m else (d.carrierFor m x).getD 0
    leBytes 1 k ++ [0] ++ leBytes 2 (k * x.hz / 100)
  | none => [0, 0, 0, 0]

/-! ## Rows of the DRIVE opcodes -/

def execDriveCfg (ch : BitVec 4) (s : State) : Host.Outcome State Fault Refusal :=
  s.act (fun c => c.runTick ch.toNat 0x0801 (c.chkDriveCfg (c.reqOf ch.toNat)))

def execDriveProtect (ch : BitVec 4) (s : State) : Host.Outcome State Fault Refusal :=
  s.act (fun c => c.runTick ch.toNat 0x0802 (c.chkDriveProtect (c.reqOf ch.toNat)))

def execDriveEnable (ch : BitVec 4) (s : State) : Host.Outcome State Fault Refusal :=
  s.act (fun c => c.runTick ch.toNat 0x0803 (c.chkDriveEnable (c.reqOf ch.toNat)))

def execDriveDisable (ch : BitVec 4) (s : State) : Host.Outcome State Fault Refusal :=
  s.act (fun c => c.runTick ch.toNat 0x0804 (c.chkDriveDisable (c.reqOf ch.toNat)))

def execDriveStatus (ch : BitVec 4) (s : State) : Host.Outcome State Fault Refusal :=
  s.act (fun c =>
    let r := c.reqOf ch.toNat
    let m := r.p 0 1
    c.runNow ch.toNat 0x0805 (firstFail [r.lenIs 4, (r.noTick && r.noHandle && decide (m < 8) && r.z 1 3, rBadParam)])
      (fun c => c.done ch.toNat (([Reg.DRV_MOD_CTRL m, Reg.DRV_MOD_RAIL m, Reg.DRV_MOD_TEMP m, Reg.DRV_MOD_FCARR m] ++
        (modChans m).flatMap (fun k => [Reg.DRV_CH_STAT k, Reg.DRV_CH_Z k])).flatMap c.reg4)))

def execDriveClear (ch : BitVec 4) (s : State) : Host.Outcome State Fault Refusal :=
  s.act (fun c => c.runTick ch.toNat 0x0806 (c.chkDriveClear (c.reqOf ch.toNat)))

/-! ## Events -/

def execCarrierBoundary (mod : BitVec 3) (s : State) : Host.Outcome State Fault Refusal :=
  s.act (fun c => c.carrier mod.toNat)

/-- One step of the CRC-16 of R431. -/
def crc16Bit (x : Nat) : Nat := if x < 32768 then 2 * x else (2 * x % 65536) ^^^ 0x1021

/-- The CRC-16 of R431. -/
def crc16 (b : List Byte) : Nat :=
  b.foldl (fun x v => (List.range 8).foldl (fun x _ => crc16Bit x) (x ^^^ (256 * v.toNat))) 0xFFFF

/-- A sense frame is valid (R432). -/
def frameValid (b : List Byte) (codeOk : Bool) : Bool :=
  codeOk && b.length == 42 && leField b 40 2 == crc16 (b.take 40)

/-- SENSE_OK of a module changes (R432). -/
def Chip.setSense (c : Chip) (m : Nat) (ok : Bool) : Chip :=
  if c.senseOk m = ok then c
  else
    let c1 := ((c.setBit (Reg.DRV_MOD_CTRL m) 29 ok).setBit Reg.DRV_STAT (8 + m) ok).drvEvent 4
    if ok then (if c1.modEn m && ((c1.drvMod m).hold || (c1.drvMod m).restart != 0) then (c1.drvRestart m).drvIdle m else c1)
    else if c1.modEn m then (c1.drvStop m).driveRail m
    else c1

/-- The rail of a module falls below PVDD_MIN (R436). -/
def Chip.railCheck (c : Chip) (m : Nat) : Chip :=
  let x := c.drvMod m
  if c.modEn m && !x.low && decide (c.regFld (Reg.DRV_MOD_RAIL m) 31 16 < x.pvddMin) then
    ((modChans m).foldl (fun c k => c.modDrvCh k (fun y => { y with g := 0, h := 0 })) (c.setDrvMod m { x with low := true })).driveRail m
  else c

def execSenseFrame (mod : BitVec 3) (bytes : List Byte) (link : SenseLink) (s : State) : Host.Outcome State Fault Refusal :=
  s.act (fun c =>
    let m := mod.toNat
    let x := c.drvMod m
    if c.forced 3 then c
    else if !frameValid bytes link.codeOk then (c.setDrvMod m { x with valid := 0 }).senseErr m
    else
      let seq := leField bytes 0 1
      let follows : Bool := match x.seq with
        | some q => decide (seq = (q + 1) % 256)
        | none => true
      let c1 := if follows then c else c.senseErr m
      let c2 := c1.setDrvMod m { x with valid := min 3 (x.valid + 1), seq := some seq, edge := c.fclkOf link.sof.toNat }
      let c3 := ((c2.setFld (Reg.DRV_MOD_CTRL m) 7 0 (leField bytes 1 1)).setFld (Reg.DRV_MOD_RAIL m) 31 16 (leField bytes 2 2)).setReg
        (Reg.DRV_MOD_TEMP m) (BitVec.ofNat 32 (leField bytes 4 2))
      let c4 := (modChans m).foldl (fun c k =>
        let v := (BitVec.ofNat 16 (leField bytes (8 + 4 * (k % 8)) 2)).toInt
        c.modDrvCh k (fun y => { y with vSum := y.vSum + v, vN := y.vN + 1 })) c3
      let c5 := c4.railCheck m
      if 3 ≤ x.valid + 1 then c5.setSense m true else c5)

def execSenseTimeout (mod : BitVec 3) (s : State) : Host.Outcome State Fault Refusal :=
  s.act (fun c =>
    if c.forced 3 then c else (c.modDrvMod mod.toNat (fun x => { x with valid := 0, seq := none })).setSense mod.toNat false)

def execDrvFltAssert (chan : BitVec 6) (s : State) : Host.Outcome State Fault Refusal :=
  s.act (fun c => if c.modEn (chan.toNat / 8) then c.modDrvCh chan.toNat (fun x => { x with trip := true }) else c)

def execRetryStart (chan : BitVec 6) (s : State) : Host.Outcome State Fault Refusal :=
  s.act (fun c =>
    let k := chan.toNat
    if c.drvState k = 5 ∧ (c.drvCh k).waitTick ≤ c.tickN ∧ c.pwr.stage = 0 ∧ c.regBit (Reg.DRV_MOD_CTRL (k / 8)) 30 then
      c.drvStart k true
    else c)

/-- DRIVE_LOAD of a channel (R435). -/
def Chip.driveLoad (c : Chip) (k : Nat) : Chip := c.drvFault Reg.DRV_LOAD_CNT k 2 .driveLoad

/-- A channel enters a latched state (R433). -/
def Chip.drvLatch (c : Chip) (k s : Nat) : Chip :=
  (c.modDrvCh k (fun x => { x with g := 0, h := 0, q := 0, grow := 0, measuring := false })).drvEnter k s

def execPilotMeasureDone (chan : BitVec 6) (z : Word) (phase : Half) (s : State) : Host.Outcome State Fault Refusal :=
  s.act (fun c =>
    let k := chan.toNat
    let st := c.drvState k
    let x := c.drvCh k
    let cfg := c.drvMod (k / 8)
    let w : Word := putFld (putFld 0 31 16 (min 65535 (z.toNat / 10))) 15 0 phase.toNat
    if st = 2 ∧ c.pilotOn k then
      let c1 := c.setReg (Reg.DRV_CH_Z k) w
      if z.toNat < 1000 then (c1.drvLatch k 8).driveLoad k
      else
        let out := decide (z.toNat < cfg.field 32 4) || decide (cfg.field 36 4 < z.toNat)
        let c2 := c1.setDrvCh k { x with zOut := out }
        let c3 := if out && !x.zOut then c2.driveLoad k else c2
        if out && cfg.loadStop then c3.drvLatch k 10 else c3
    else if st = 6 ∧ x.measuring ∧ c.pilotOn k then
      let c1 := (c.setReg (Reg.DRV_CH_Z k) w).drvEvent 5
      if z.toNat < 1000 then (c1.drvLatch k 8).driveLoad k
      else
        ((c1.modDrvCh k (fun y => { y with measuring := false, grow := 1024 })).drvEnter k 2).setFld (Reg.DRV_CH_STAT k) 27 24 0
    else c)

def execDcWindowEnd (chan : BitVec 6) (s : State) : Host.Outcome State Fault Refusal :=
  s.act (fun c =>
    let k := chan.toNat
    let x := c.drvCh k
    let cfg := c.drvMod (k / 8)
    let st := c.drvState k
    if x.vN = 0 then c
    else
      let sum : Int := x.vSum * (cfg.field 16 2 : Nat)
      let mean := clampInt (-32768) 32767 (roundEven sum (1000 * x.vN : Nat))
      let c1 := (c.setDrvCh k { x with vSum := 0, vN := 0 }).setFld (Reg.DRV_CH_STAT k) 15 0 (BitVec.ofInt 16 mean).toNat
      if cfg.field 20 2 * 1000 * x.vN < sum.natAbs ∧ (st = 1 ∨ st = 2 ∨ st = 3 ∨ st = 6) then
        (c1.modDrvCh k (fun y => { y with dc := true })).drvFault Reg.DRV_DC_CNT k 1 .driveDc
      else c1)

def execRailRecover (mod : BitVec 3) (s : State) : Host.Outcome State Fault Refusal :=
  s.act (fun c =>
    let m := mod.toNat
    let x := c.drvMod m
    if x.low && decide (105 * x.pvddMin < 100 * c.regFld (Reg.DRV_MOD_RAIL m) 31 16) then
      (modChans m).foldl (fun c k => if c.drvState k = 1 ∨ c.drvState k = 2 then c.drvStart k false else c) (c.setDrvMod m { x with low := false })
    else c)

end Sys2Proof.Machine
end

