-- ==== Sys2Proof/Machine/TickOps.lean ====
section
/-! DEFINITION. What the phases of a tick do: the boundary, the forced leg entries, the leg ends and the commit window
(R46 to R60, R159 to R170, R225, R226). -/
namespace Sys2Proof.Machine
open Sys2Proof

/-! ## Outputs at a boundary (R24, R76, R82, R225, R226) -/

/-- The sample of an input endpoint channel as a stake sees it (R155, R156). -/
def Chip.stakeSource (c : Chip) (ep : Nat) : Sample := if c.carried ep then (c.inCh ep).presented else Sample.zero

/-- The stake entry of an output endpoint channel. -/
def Chip.stakeOf (c : Chip) (ep : Nat) : Half := match stakeIdx ep with
  | some k => c.stakeAt k
  | none => 0

/-- A staked route is served on a channel that no graph drove in the tick that ended; `run` says that it was traversed. -/
def Chip.staked (c : Chip) (ep : Nat) (run : Bool) : Bool :=
  let s := c.stakeOf ep
  s.getLsbD 15 && (!run || s.getLsbD 14) && (decide (ep < 0x4400) || c.carried ep)

/-- The value an output endpoint channel presents at a boundary, before the ramp of R82: the committed value, its stake, or
silence. The flag says that a staked sample was held (R226). -/
def Chip.outValue (c : Chip) (ep : Nat) (run : Bool) : Word × Bool :=
  let o := c.outCh ep
  match o.committed with
  | some v => (v, false)
  | none =>
    if c.staked ep run then
      let x := c.stakeSource ((c.stakeOf ep).toNat % 16384)
      if x.p then (if o.shown then o.plain else 0, c.carried ep) else (x.v, false)
    else (0, false)

/-- One output endpoint channel presents its value; shed stage 5 mutes it. -/
def Chip.presentOut (c : Chip) (run : Bool) (ep : Nat) : Chip :=
  let x := c.outValue ep run
  let v := if c.pwr.stage = 5 then 0 else c.rateRamp c.tickN x.1
  let c1 := c.modOut ep (fun o => { o with presented := { v := v, p := false }, plain := if c.pwr.stage = 5 then 0 else x.1, shown := c.carried ep, committed := none })
  if x.2 then c1.bump Reg.ENG_STK_STAT else c1

/-- The output endpoint of a stake index. -/
def stakeEp (k : Nat) : Nat :=
  if k < 512 then 0x4000 + k else if k < 528 then 0x4200 + (k - 512) else if k < 784 then 0x4300 + (k - 528)
  else if k < 848 then 0x4400 + (k - 784) else 0x5000 + (k - 848)

/-- The output endpoint channels that present anything but silence, or did. -/
def Chip.outList (c : Chip) : List Nat :=
  let a := c.chain.outs.map (fun e => e.1)
  let b := (c.graph.stake.filter (fun e => decide (e.1 < 4944))).map (fun e => stakeEp e.1)
  a ++ b.filter (fun ep => !a.contains ep)

/-- Every output endpoint channel presents its value for the tick that begins. -/
def Chip.presentOuts (c : Chip) (run : Bool) : Chip := c.outList.foldl (fun c ep => c.presentOut run ep) c

/-! ## The boundary -/

/-- The CELL frequency of the tick that begins, with CLK_STAT.CELL_DIV (R49, R342). -/
def Chip.cellFreq (c : Chip) : Chip :=
  let slow := decide (2 ≤ c.pwr.stage) || c.pwr.thermal
  if slow = c.eng.cell1000 then c
  else (({ c with eng := { c.eng with cell1000 := slow }, ddr := { c.ddr with cellAt := c.tickN } }).setBit Reg.CLK_STAT 11 slow).event Reg.ENG_EVENT 3 17 true

/-- ENG_MARGIN_MIN takes the step margin of a tick of `cycles` CELL cycles. -/
def Chip.marginMin (c : Chip) (cycles : Nat) : Chip :=
  match c.eng.rate with
  | some r =>
    let m := cycles - 256 - budget r c.eng.cell1000
    if m < c.regFld Reg.ENG_MARGIN_MIN 15 0 then c.setFld Reg.ENG_MARGIN_MIN 15 0 m else c
  | none => c

/-- The tick that begins will be traversed, with what SUSPEND or RESUME is due. -/
def Chip.willRun (c : Chip) : Bool :=
  c.eng.engine == .running && !c.atFadeEnd &&
  match c.cmd.sched.find? (fun s => s.tick == c.tickN && (s.op == 0x0110 || s.op == 0x0111)) with
  | some s => s.op == 0x0111
  | none => !c.eng.suspended || (!c.eng.holdIndef && c.eng.holdLeft == 0)

/-- TMO_CNT of every stepping gain slot decreases (R144). -/
def Chip.tmoTick (c : Chip) : Chip :=
  { c with cells := Map.mapVals cell0 (fun _ x =>
      { x with gains := Map.mapVals gain0 (fun _ g =>
          if g.cur != g.tgt && g.tmoCnt != 0 then { g with tmoCnt := g.tmoCnt - 1 } else g) x.gains }) c.cells }

/-- DTM_MEDIA_OFF and the RANKs that were to change at this boundary (R338, R309). -/
def Chip.datumNext (c : Chip) : Chip :=
  let c1 := match c.dtm.mediaNext with
    | some v =>
      let c1 := (({ c with dtm := { c.dtm with mediaNext := none } }).setReg Reg.DTM_MEDIA_OFF_LO (v.setWidth 32)).setReg
        Reg.DTM_MEDIA_OFF_HI ((v >>> 32).setWidth 32)
      c1.dtmEvent 6
    | none => c
  (List.range 18).foldl (fun c r =>
    match (c.mon r).rankNext with
    | some v => ((c.setMon r { c.mon r with rankNext := none }).setRank r v).select
    | none => c) c1

/-- ENG_GAIN_STAT at tick entry: the slots of ON cells that step. -/
def Chip.gainStat (c : Chip) : Chip :=
  let n := c.cells.foldl (fun n e =>
    if e.2.power == .on then n + (e.2.gains.filter (fun g => g.2.cur != g.2.tgt)).length else n) 0
  c.setReg Reg.ENG_GAIN_STAT (putFld 0 15 0 n)

/-- The delay engines serve the taps of a tick once. -/
def Chip.serveDelays (c : Chip) : Chip :=
  if c.chain.served then c
  else
    let c1 := c.delayTick
    { c1 with chain := { c1.chain with served := true } }

/-- What counts traversed ticks: settle counts (R221), tail streams (R250) and the shadow period of a retirement (R224).
A fade counts every tick (R214). -/
def Chip.countTicks (c : Chip) (run : Bool) : Chip :=
  let c1 := if run then
      { c with chain := { c.chain with tails := Map.mapVals tail0 (fun _ t => t.map (fun x => { x with ticks := x.ticks + 1 })) c.chain.tails }
               graph := { c.graph with settleCnt := (List.range 4).foldl (fun m r => Map.upd (fun _ => 0) m r (· + 1)) c.graph.settleCnt } }
    else c
  let g := c1.graph
  { c1 with graph := { g with
      retire := g.retire.map (fun r => if r.wait then { r with wait := false } else if run && r.shadow then { r with left := r.left - 1 } else r)
      fade := g.fade.map (fun f => { f with j := f.j + 1 }) } }

/-- What the signatures of the tick that ends are taken with. -/
def Chip.sigMeta (c : Chip) : Sigs :=
  { tick := c.eng.tick, sigs := [], engine := c.engineCode, settled := c.graph.settled, shed := c.pwr.stage,
    fade := c.graph.fade.isSome, image := c.imageId }

/-- The work of the sample path at a boundary: inputs, delay taps, outputs, the heartbeat of the tick that ended, streams
and drive. `run` says that the tick that ended was traversed, and `x` is taken from it. -/
def Chip.boundaryIO (c : Chip) (run : Bool) (x : Sigs) : Chip :=
  let slips := (List.range 12).map c.slipUsed
  let c1 := ((c.portInputs (fun k => slips.getD k 0)).slipPlan).streamsIn
  let dueNow := c1.cmd.sched.any (fun s => decide (s.tick ≤ c1.tickN) && (s.op == 0x0202 || s.op == 0x0301 || s.op == 0x0110 || s.op == 0x0111))
  let c2 := (if c1.willRun && !dueNow then c1.serveDelays else c1).setStakes c1.stakesDue
  let lines (c : Chip) (ep : Nat) : Word := c.rateRamp c.tickN ((c.outCh ep).committed.getD 0)
  let vals := c2.signatures (fun ep => if 0x6000 ≤ ep then lines c2 ep else
    (if c2.pwr.stage = 5 then 0 else c2.rateRamp c2.tickN (c2.outValue ep run).1))
  let c3 := ((c2.presentOuts run).setStakes c1.graph.stake).sendBeat (c2.tickN - 1) { x with sigs := vals }
  c3.driveAdopt.driveTick

/-- SYS_TIME is answered at the boundary it names, or with BAD_STATE when ticks stop before it (R299). -/
def Chip.answerTimes (c : Chip) (stop : Bool) : Chip :=
  c.cmd.chans.foldl (fun c e =>
    if e.2.st == .taken && e.2.work == .accepted && (parseReq e.2.req).op == 0x0103 then
      (if stop then c.refuse e.1 rBadState
       else if e.2.effTick ≤ c.tickN then
         c.answer e.1 rOK (BitVec.ofNat 64 e.2.effTick)
           (leBytes 8 e.2.effTick ++ leBytes 6 c.dtm.bound.sec.toNat ++ leBytes 2 0 ++ leBytes 4 c.dtm.bound.ns.toNat)
       else c)
    else c) c

/-- A boundary while ticks run (R50, R61): `cycles` CELL cycles and `clks` TIME clocks have passed since the last one. -/
def Chip.boundary (c : Chip) (cycles clks : Nat) : Chip :=
  if !c.eng.ticking then c
  else
    let run := c.traversed
    let x := c.sigMeta
    let c0 := c.streamsOut
    let c1 := { c0 with net := { c0.net with gathered := false } }.marginMin cycles
    let c2 := { c1 with
      eng := { c1.eng with tick := c1.eng.tick + 1, phase := .entry, holdLeft := c1.eng.holdLeft - 1 }
      chain := { c1.chain with served := false, dlyLate := 0 }
      flt := { c1.flt with step := 0 } }
    let c3 := (c2.cellFreq).timePass clks
    let c4 := ({ c3 with dtm := { c3.dtm with bound := c3.dtm.time } }).datumNext.stepTick.lockTick
    let c5 := c4.boundaryIO run x
    let c6 := if c5.willRun then c5.tmoTick else c5
    let c7 := (c6.countTicks run).cellsOff
    let c8 := c7.answerTimes false
    if !c8.pairEn && !c8.pair.owner then c8.setOwner true else c8

/-! ## Legs -/

/-- The physical cells that run a program now: those of the running graphs that have passed a tick entry since they became
ON (R148), and the spare in its shadow period. -/
def Chip.runCells (c : Chip) : List Nat :=
  let own (g : Option Graph) : List Nat := match g with
    | some g => g.cells.map (fun e => c.physOf e.laddr)
    | none => []
  let l := own c.graph.live ++ (match c.graph.fade with
      | some f => own f.old
      | none => []) ++
    (match c.graph.retire with
      | some r => if r.shadow then [c.spareOf r.laddr] else []
      | none => [])
  l.eraseDups.filter (fun i => (c.cell i).power == .on && !(c.cell i).fresh && !(c.cell i).dead && !(c.progs i).isEmpty)

/-- The spare of a retirement in its shadow period. -/
def Chip.isShadow (c : Chip) (i : Nat) : Bool := match c.graph.retire with
  | some r => r.shadow && c.spareOf r.laddr == i
  | none => false

/-- Tick entry in the cells (R139, R140, R148, R163, R166): per-tick marks are cleared, a cell that became ON begins, and
waits end. -/
def Chip.enterTick (c : Chip) : Chip :=
  { c with cells := Map.mapVals cell0 (fun i x =>
      let y : Cell := { x with
        pubs := Map.mapVals pub0 (fun _ q => { q with written := false, failed := false }) x.pubs
        subs := Map.mapVals sub0 (fun _ q => { q with got := 0 }) x.subs }
      if y.power == .on then ({ y with fresh := false }).tickEntry (c.restartOf i) else y) c.cells }

/-- A cell enters the traverse at its leg-k entry address (R52). A fetch of the entry tile that no row has ended yet ends
here; where the tile could not be fetched the leg fails at once (R133, R134). -/
def Chip.forceCell (c : Chip) (k i : Nat) : Chip :=
  match (c.progs i).head? with
  | some e =>
    let c1 := (c.fetchLead i k).fetchLead i k
    let c2 := c1.modCell i (fun x => { (x.force k (e.leg k)) with fetchFailed := false })
    if (c1.cell i).fetchFailed then c2.failTraverse i else c2
  | none => c

/-- Every cell enters the traverse at its leg-k entry address (R52). -/
def Chip.forceCells (c : Chip) (k : Nat) : Chip := c.runCells.foldl (fun c i => c.forceCell k i) c

/-- The start of leg k (R50, R52, R159). -/
def Chip.legStart (c : Chip) (k : Nat) : Chip :=
  let ok := if k = 0 then c.eng.phase == .entry else c.eng.phase == .gap (k - 1)
  if !c.eng.ticking || !ok then c
  else
    let c0 := { c with eng := { c.eng with phase := .leg k } }
    let c1 := if k = 0 then (c0.gainStat).streamsOut else c0
    if !c1.traversed then c1
    else if k = 0 then
      let c2 := (c1.serveDelays).enterTick
      let c3 := (c2.runOuter 0 c2.carried).dropSkips false 0
      ((c3.runClusters 0).dropSkips true 0).forceCells 0
    else ((c1.runClusters k).dropSkips true k).forceCells k

/-- The publish slots of leg k of a cell are taken (R163, R164), the lowest last (R199). The spare of a retirement publishes
nothing. -/
def Chip.takePubs (c : Chip) (i k : Nat) : Chip :=
  (List.range 64).reverse.foldl (fun c s =>
    if c.slotLeg i s = some k then
      let q := (c.cell i).pub s
      let missed := !q.written && !q.failed
      let v := if missed then q.s.poison else q.s
      let c1 := c.modCell i (fun x => x.setPub s { q with taken := v })
      if missed && !c.isShadow i then c1.late 1 0 (c.slotAddr i s) else c1
    else c) c

/-- The end of leg k (R70, R159, R163, R164): closure failures, the values of the leg's publish slots, and, at the end of
legs 1 to 3, the windows that carried the leg before. -/
def Chip.legEnd (c : Chip) (k : Nat) : Chip :=
  if !c.eng.ticking || c.eng.phase != .leg k then c
  else
    let c1 := { c with eng := { c.eng with phase := if k = 3 then .margin else .gap k } }
    if !c1.traversed then c1
    else
      let cells := c1.runCells
      let late := cells.filter (fun i => (c1.cell i).ctx == .traverse && !(c1.cell i).legDone)
      let c2 := late.foldl (fun c i => c.closureFail i k) c1
      let c3 := (sortBy (fun i => 511 - c2.logOf i) cells).foldl (fun c i => c.takePubs i k) c2
      if k = 0 then c3 else (c3.runOuter k c3.carried).dropSkips false k

/-- The commit window (R57, R70, R159): cells halt, leg-3 publishes leave, and the outputs are committed. -/
def Chip.commitWindow (c : Chip) : Chip :=
  if !c.eng.ticking || c.eng.phase != .margin then c
  else
    let c1 := { c with eng := { c.eng with phase := .commit } }
    if !c1.traversed then c1
    else
      let c2 := c1.runCells.foldl (fun c i =>
        if (c.cell i).ctx == .traverse then
          c.modCell i (fun x => { (x.flush).stick x.sr with ctx := .idle, legDone := true, branch := none })
        else c) c1
      let c3 := (c2.runOuter 4 c2.carried).dropSkips false 4
      c3.commitOuts c3.carried

/-! ## Faults of the schedule stores (R167, R168) -/

/-- The entries of a window of an exchange that are not issued are remembered until the window runs, with whether the miss is
counted there. -/
def Chip.addSkips (c : Chip) (exch win : Nat) (idx : List (Nat × Bool)) : Chip :=
  { c with chain := { c.chain with skips := idx.foldl (fun l i =>
      if l.any (fun k => k.exch == exch && k.win == win && k.idx == i.1) then l
      else l ++ [{ exch := exch, win := win, idx := i.1, counted := i.2 }]) c.chain.skips } }

/-- The region of an exchange, and a chain address that the entry's late transfer names. -/
def exchRegion (exch : Nat) : Nat := if exch < 5 then exch - 1 else (exch - 5) / 8

end Sys2Proof.Machine
end

