-- ==== Sys2Proof/Machine/RateOps.lean ====
section
/-! DEFINITION. Commands at their boundaries, and the end of a rate change (R64, R67, R74, R82 to R84, R384, R428). -/
namespace Sys2Proof.Machine
open Sys2Proof

/-! ## Commands at their boundaries -/

/-- Opcodes whose effect is a step of its own: GRAPH_COMMIT, PAIR_HANDOVER and EXEC_SWAP. -/
def ownStep (op : Nat) : Bool := op == 0x0202 || op == 0x0902 || op == 0x0B12

/-- Effects act at the start of a tick that runs. -/
def Chip.atBoundary (c : Chip) : Bool := c.eng.ticking && c.eng.phase == .entry

/-- The commands due, in the order of their effects (R234, R280), but for those of PAIR_HANDOVER and EXEC_SWAP. -/
def Chip.dueNow (c : Chip) : List Sched :=
  if c.atFadeEnd then []
  else (sortDue c.cmd.sched).filter (fun s => decide (s.tick ≤ c.tickN) && s.op != 0x0902 && s.op != 0x0B12)

/-- An entry leaves the schedule. -/
def Chip.unsched (c : Chip) (s : Sched) : Chip := { c with cmd := { c.cmd with sched := c.cmd.sched.erase s } }

/-- The effect of a scheduled command: a stake table and parameters come from what was staged with it (R229, R234). -/
def Chip.applySched (c : Chip) (s : Sched) : Chip :=
  let r := parseReq s.req
  if s.op = 0x0404 then c.loadStakes s.table
  else if s.op = 0x0301 then c.effParamWrite r s.syms
  else if s.op = 0x0303 then c.effGainSet r s.syms
  else if s.op = 0x0304 then c.effGainCfg r s.syms
  else if s.op = 0x0101 then c.answer s.ch rOK c.eng.tick r.par
  else Chip.effectOf s.op c s.ch r

/-- The first command due takes effect, unless a commit is due before it (R64, R280). -/
def Chip.commandEffect (c : Chip) : Chip :=
  if !c.atBoundary then c
  else
    match c.dueNow with
    | s :: _ => if s.op = 0x0202 then c else (c.unsched s).applySched s
    | [] => c

/-- The first command due, when it is a GRAPH_COMMIT. -/
def Chip.commitDue (c : Chip) : Option Sched :=
  if c.atBoundary then c.dueNow.head?.filter (fun s => s.op == 0x0202) else none

/-- A hold ends: the traverse runs again, unless a SUSPEND is due at this tick (R74, R80). -/
def Chip.holdEnds (c : Chip) : Chip :=
  if c.atBoundary && c.eng.suspended && !c.eng.holdIndef && c.eng.holdLeft == 0 && !c.atFadeEnd
    && !c.dueNow.any (fun s => s.op == 0x0110)
  then c.endSuspend else c

/-! ## Boundary T+64 of a SET_RATE (R67, R82) -/

/-- A command is discarded; where its response is still to come it is answered with BAD_STATE (R67). -/
def Chip.discard (c : Chip) (s : Sched) : Chip :=
  let c1 := if s.waits then c.refuse s.ch rBadState else c
  if s.op = 0x0902 then { c1 with pair := { c1.pair with releaseAt := none, takeAck := false, handover := none } }
  else if s.op = 0x0B12 then { c1 with sys := { c1.sys with swap := none } }
  else if s.op = 0x0506 then { c1 with sap := { c1.sap with pulse := none } }
  else if s.op = 0x0202 then
    (match c1.graph.bank with
      | .scheduled g => { c1 with graph := { c1.graph with bank := .loaded g } }
      | _ => c1)
  else c1

/-- The commands still scheduled are discarded and recorded in ENG_RATE_DISCARD. -/
def Chip.discardAll (c : Chip) : Chip :=
  let l := c.cmd.sched
  let mask := (List.range 8).foldl (fun n k => if l.any (fun s => s.ch == k) then n + 2 ^ k else n) 0
  let c1 := l.foldl (fun c s => c.discard s) { c with cmd := { c.cmd with sched := [] } }
  c1.setReg Reg.ENG_RATE_DISCARD (putFld (putFld 0 31 24 mask) 8 0 l.length)

/-- Every output channel forgets what it held, its ramps and its commit (R187). -/
def Chip.clearOuts (c : Chip) : Chip :=
  { c with chain := { c.chain with outs := Map.mapVals out0 (fun _ o =>
      { o with pending := Sample.zero, pendingOld := Sample.zero, got := 0, gotOld := 0, committed := none, last := 0, held := none,
               h := 0, c := 0, mute := .clear, presented := Sample.zero, plain := 0 }) c.chain.outs } }

/-- Every port stops (R384): receivers pass nothing, and a release not yet reached is no more (R370). -/
def Chip.portsStop (c : Chip) : Chip :=
  let c1 := { c with sap := { c.sap with release := none, pulse := none, captured := none } }
  (List.range 12).foldl (fun c k => (c.portRestart (rxKind k) (rxIdx k)).rxRate k) c1

/-- Boundary T+64: the live graph is discarded, the cells stop, ticks stop, and streams, modules and references of the old
family end (R82, R253, R310, R330, R412, R428). -/
def Chip.rateFadeEnd (c : Chip) : Chip :=
  match c.eng.change with
  | some k =>
    if c.atBoundary && c.atFadeEnd then
      let c1 := ((c.discardAll).retireAbandon rBadState)
      let c2 := { c1 with
        graph := { c1.graph with live := none, fade := none }
        chain := { c1.chain with tails := [], skips := [] } }
      let c3 := (((c2.stopIdle).cellsOff).endLines).storeScheds.clearOuts.unsettle [0, 1, 2, 3]
      let c4 := { c3 with eng := { c3.eng with
        engine := .suspended, rate := none, ticking := false, phase := .idle, suspended := false, holdIndef := false, holdLeft := 0,
        change := some { k with stopped := true } } }
      let c5 := ((c4.streamsOff).drivesOff).answerTimes true
      let c6 := ((if c.eng.rate.map Rate.fam48 = some k.rate.fam48 then c5 else c5.refFamily k.rate.fam48)).portsStop
      c6.setStep 0
    else c
  | none => c

/-! ## The first tick at the new rate (R82, R384, R428) -/

/-- The ports that were enabled or armed are checked again in their fixed order, each counting those before it. -/
def Chip.portsRecheck (c : Chip) : Chip :=
  let was := allPorts.filter (fun p => c.portEn p.1 p.2 || c.portArmed p.1 p.2)
  let clr := was.foldl (fun c p => (c.setBit (portCfg p.1 p.2) 31 false).setBit (portCfg p.1 p.2) 30 false) c
  was.foldl (fun d p =>
    let arm := c.portArmed p.1 p.2
    let k := d.portCheck p.1 p.2
    if k = rOK then (d.setBit (portCfg p.1 p.2) (if arm then 30 else 31) true).portRestart p.1 p.2
    else
      let d1 := (d.sapReason p.1 p.2 k).sapEvent 5
      if arm then d1.leaveSet p.1 p.2 else d1.portStop p.1 p.2) clr

/-- The drive modules that were enabled are checked again after the ports. -/
def Chip.drivesRecheck (c : Chip) (was : List Nat) : Chip := was.foldl (fun c m => c.driveRecheck m) c

/-- The first tick number at the new rate, `wait` ticks after the first possible one (R82). -/
def RateChange.first (k : RateChange) (wait : Nat) : Nat :=
  let old := match k.oldRate with
    | some r => r.hz
    | none => k.rate.hz
  ceilDiv ((k.t + 64) * k.rate.hz) old + wait

/-- Ticks resume at the new rate (R82): `wait` further ticks pass while the datum relocks to the other family. -/
def Chip.firstNewTick (c : Chip) (wait clks : Nat) : Chip :=
  match c.eng.change with
  | some k =>
    let other := k.oldRate.map Rate.fam48 != some k.rate.fam48
    if k.stopped && decide (wait ≤ if other then k.rate.hz / 50 else 0) then
      let n := match k.align with
        | some a => a + wait
        | none => k.first wait
      let x := c.sigMeta
      let mods := (List.range 8).filter (fun m => c.modEn m)
      let c1 := mods.foldl (fun c m => c.drvSetEn m false) c
      let c2 := { c1 with
        eng := { c1.eng with engine := .staked, rate := some k.rate, ticking := true, tick := BitVec.ofNat 64 n, phase := .entry, change := none }
        chain := { c1.chain with served := false, dlyLate := 0 }
        net := { c1.net with gathered := false }
        flt := { c1.flt with step := 0 } }
      let c3 := (List.range 12).foldl (fun c k => c.rxRate k) (((((c2.cellFreq).timePass clks).portsRecheck).drvWaits ((k.oldRate.getD k.rate).hz) k.rate.hz (k.t + 64) n).drivesRecheck mods)
      let c3 := ({ c3 with dtm := { c3.dtm with bound := c3.dtm.time, planned := 0, ppsPhase := none } }).setBit Reg.DTM_STATE 14 (!k.rate.fam48)
      let c4 := (c3.mediaFromTime.select).realign
      let c5 := (c4.boundaryIO false { x with tick := BitVec.ofNat 64 (n - 1) }).event Reg.ENG_EVENT 2 17 true
      if k.align.isSome then c5 else c5.answer k.ch rOK (BitVec.ofNat 64 k.t) (leBytes 8 n)
    else c
  | none => c

end Sys2Proof.Machine
end

