-- ==== Sys2Proof/Machine/Graph.lean ====
section
/-! DEFINITION. The rows of graph images, commits, retirement and the stake table (R201 to R231). -/
namespace Sys2Proof.Machine
open Sys2Proof

/-! ## GRAPH_LOAD (R209) -/

/-- Checks 1 to 3 of R209, with R466. -/
def Chip.chkGraphLoad (c : Chip) (r : Req) : Nat :=
  let a := r.p 0 8
  let n := r.p 8 4
  let busy := match c.graph.bank with
    | .loading _ _ _ => true
    | .scheduled _ => true
    | _ => false
  firstFail [r.lenIs 16,
    (r.noTick && r.noHandle && r.z 12 4 && a % 256 == 0 && n % 256 == 0 && decide (256 ≤ n) && decide (a + n ≤ c.dramUsable), rBadParam),
    (within c.eng.engine.code 1 3 && !busy && c.graph.retire.isNone && !c.resyncBars r &&
      !c.swapBars r, rBadState)]

def execGraphLoad (ch : BitVec 4) (s : State) : Host.Outcome State Fault Refusal :=
  s.act (fun c =>
    let n := ch.toNat
    let r := c.reqOf n
    if !c.isFresh n 0x0201 then c
    else
      let k := c.chkGraphLoad r
      if k ≠ rOK then c.refuse n k
      else
        match c.route r with
        | .forward => c.sendForward n
        | _ =>
          ({ c with graph := { c.graph with bank := .loading n (r.p 0 8) (r.p 8 4) } }).modChan n (fun x => { x with work := .accepted }))

/-- The pending bank takes a value. -/
def Chip.setBank (c : Chip) (b : Bank) : Chip := { c with graph := { c.graph with bank := b } }

/-- The result of the standby's own load of the owner's image, sent to the owner (R453). -/
def Chip.loadResult (c : Chip) (ch reason : Nat) : Chip :=
  { c with pair := { c.pair with results := c.pair.results ++ [(ch, reason, c.tickN, [])] } }

/-- GRAPH_LOAD_DONE: the load in progress completes or is refused (R209, R453). Loads of channels 16 and up are the
standby's, for the owner's channel less 16; an acknowledgement goes to the owner under that number. -/
def Chip.loadDone (c : Chip) : Chip :=
  match c.graph.bank with
  | .loading n a len =>
    let x := c.dramRead a len
    let c1 := x.1
    let b := x.2.1
    let k := c1.loadReason b x.2.2
    if k ≠ rOK then
      (if n < 16 then (c1.setBank .empty).refuse n k else (c1.setBank .empty).loadResult n k)
    else
      let g := readGraph b
      let c2 := (c1.writeImage b).setBank (.loaded g)
      if 16 ≤ n then c2.loadResult n rOK
      else
        match c2.route (c2.reqOf n) with
        | .alone => (c2.gapFor (c2.reqOf n)).done n (leBytes 8 g.imageId.toNat)
        | .mirror => c2.sendCopy n 0
        | _ => (c1.setBank .empty).refuse n rPairRefused
  | _ => c

def execGraphLoadDone (s : State) : Host.Outcome State Fault Refusal := s.act (fun c => c.loadDone)

/-! ## Commits -/

def execGraphCommit (ch : BitVec 4) (s : State) : Host.Outcome State Fault Refusal :=
  s.act (fun c =>
    let r := c.reqOf ch.toNat
    c.runTick ch.toNat 0x0202 (c.chkCommit (c.due (c.effTick r)) r))

/-- The commit due takes effect as a cut or, when `fade`, as a fade; at stage 2 or above a fade is a cut (R212 to R214). -/
def Chip.commitStep (c : Chip) (fade : Bool) : Chip :=
  match c.commitDue with
  | some s =>
    let r := parseReq s.req
    if fade = (r.p 0 4 != 0 && decide (c.pwr.stage < 2)) then (c.unsched s).effCommit s.ch r else c
  | none => c

def execGraphCut (s : State) : Host.Outcome State Fault Refusal := s.act (fun c => c.commitStep false)

def execGraphFadeStart (s : State) : Host.Outcome State Fault Refusal := s.act (fun c => c.commitStep true)

/-- FADE_END: boundary C + F of a fade (R214). -/
def execFadeEnd (s : State) : Host.Outcome State Fault Refusal :=
  s.act (fun c =>
    match c.graph.fade with
    | some f => if c.atBoundary && decide (f.f ≤ f.j) then c.endFade false else c
    | none => c)

def Chip.chkGraphDiscard (c : Chip) (r : Req) : Nat :=
  let busy := match c.graph.bank with
    | .loading _ _ _ => true
    | .scheduled _ => true
    | _ => false
  firstFail [r.lenIs 0, (r.noTick && r.noHandle, rBadParam), (!busy && !c.resyncBars r, rBadState)]

def execGraphDiscard (ch : BitVec 4) (s : State) : Host.Outcome State Fault Refusal :=
  s.act (fun c => c.runMirrored ch.toNat 0x0203 (c.chkGraphDiscard (c.reqOf ch.toNat)) (fun c => (c.setBank .empty).done ch.toNat []))

/-- ENG_GRAPH_STAT.PEND. -/
def Bank.pend : Bank → Nat
  | .empty => 0
  | .loading _ _ _ => 1
  | .loaded g => if g.patch then 3 else 2
  | .scheduled _ => 4

/-- The IMAGE_ID of the pending bank, 0 when it holds none. -/
def Bank.imageId : Bank → DWord
  | .loaded g => g.imageId
  | .scheduled g => g.imageId
  | _ => 0

def Chip.graphInfo (c : Chip) : List Byte :=
  leBytes 8 c.imageId.toNat ++ leBytes 8 c.graph.bank.imageId.toNat ++ leBytes 1 c.graph.bank.pend ++ leBytes 3 0 ++
  leBytes 4 (match c.graph.live with
    | some g => g.settle
    | none => 0) ++
  leBytes 8 (match c.cmd.sched.find? (fun s => s.op == 0x0202) with
    | some s => s.tick
    | none => 0)

def execGraphInfo (ch : BitVec 4) (s : State) : Host.Outcome State Fault Refusal :=
  s.act (fun c =>
    let r := c.reqOf ch.toNat
    c.runNow ch.toNat 0x0204 (firstFail [r.lenIs 0, (r.noTick && r.noHandle, rBadParam)]) (fun c => c.done ch.toNat c.graphInfo))

/-- REGION_SETTLED: SETTLE traversed ticks have passed for a region (R221). -/
def execRegionSettled (region : BitVec 2) (s : State) : Host.Outcome State Fault Refusal :=
  s.act (fun c =>
    match c.graph.live with
    | some g =>
      let r := region.toNat
      if decide (g.settle ≤ Map.get (fun _ => 0) c.graph.settleCnt r) && !c.graph.settled.testBit r then
        let c1 := { c with graph := { c.graph with settled := c.graph.settled ||| 2 ^ r } }
        if c1.graph.settled = 15 then c1.graphEvent 5 else c1
      else c
    | none => c)

/-! ## Retirement (R196 to R198, R224) -/

/-- The shadow deliveries of a cell fit the CW windows of its cluster beside its own (R160, R197). -/
def Chip.shadowFits (c : Chip) (laddr : Nat) : Bool :=
  let cl := laddr / 16
  let l := (c.schedOf (5 + cl)).map (fun e => e.2)
  (List.range 4).all (fun w =>
    let win := l.filter (fun e => e.win == w)
    decide (win.length + (win.filter (fun e => e.dst / 64 == laddr)).length ≤ if w = 0 then 1024 else 2048))

def Chip.chkRetire (c : Chip) (r : Req) : Nat :=
  let l := r.p 0 2 / 64
  let busy := c.graph.retire.isSome || c.graph.fade.isSome || c.cmd.sched.any (fun s => s.op == 0x0202 || s.op == 0x0205)
  let k := c.tickReason r (r.len == 4) (r.noHandle && laddrOk (r.p 0 2) && r.z 2 2)
    (within c.eng.engine.code 1 3 && !busy) true [(c.shadowFits l, rChainSlots), (decide (c.pwr.stage < 2), rShedActive)]
  if k ≠ rOK then k
  else if c.ctt (l / 16) 15 = 15 ∧ (c.cell (c.spareOf l)).power ≠ .wakeFail ∧ !(c.cell (c.spareOf l)).dead then rOK else rNoResource

def execCellRetire (ch : BitVec 4) (s : State) : Host.Outcome State Fault Refusal :=
  s.act (fun c => c.runTick ch.toNat 0x0205 (c.chkRetire (c.reqOf ch.toNat)))

def execRetireCopyDone (s : State) : Host.Outcome State Fault Refusal := s.act (fun c => c.retireCopied)

def execRetireSwap (s : State) : Host.Outcome State Fault Refusal :=
  s.act (fun c => if c.atBoundary then c.retireSwap else c)

/-! ## The stake table (R225 to R230) -/

def Chip.chkStakeSet (c : Chip) (r : Req) : Nat :=
  let n := r.p 0 2
  let eps := (List.range n).map (fun i => r.p (4 + 4 * i) 2)
  let ok := (List.range n).all (fun i => (stakeIdx (r.p (4 + 4 * i) 2)).isSome && inAssigned (r.p (6 + 4 * i) 2 % 16384))
  c.tickReason r (within n 1 247 && r.len == 4 + 4 * n) (r.noHandle && r.z 2 2 && ok && distinct eps) true true []

def execStakeSet (ch : BitVec 4) (s : State) : Host.Outcome State Fault Refusal :=
  s.act (fun c => c.runTick ch.toNat 0x0401 (c.chkStakeSet (c.reqOf ch.toNat)))

def execStakeGet (ch : BitVec 4) (s : State) : Host.Outcome State Fault Refusal :=
  s.act (fun c =>
    let r := c.reqOf ch.toNat
    let a := r.p 0 2
    let n := r.p 2 2
    c.runNow ch.toNat 0x0402
      (firstFail [r.lenIs 4, (r.noTick && r.noHandle && within n 1 480 && decide (a + n ≤ 4944), rBadParam)])
      (fun c => c.done ch.toNat ((List.range n).flatMap (fun i => leBytes 2 (c.stakeAt (a + i)).toNat))))

/-- The live table as a copy of R227. -/
def Chip.stakeImage (c : Chip) (seq rate : Nat) : List Byte :=
  let h (crc : Nat) : List Byte := leBytes 4 0x4B54535A ++ leBytes 2 1 ++ leBytes 2 4944 ++ leBytes 4 seq ++ leBytes 1 rate ++
    List.replicate 47 0 ++ leBytes 4 crc
  let es := (List.range 4944).flatMap (fun i => leBytes 2 (c.stakeAt i).toNat)
  h (crc32c (h 0 ++ es)).toNat ++ es ++ List.replicate 288 0

/-- STAKE_SAVE writes the older copy, or the one that is not valid; `bad` is the record that fails its read-back. -/
def Chip.saveStakes (c : Chip) (ch rate : Nat) (bad : Option Nat) : Chip :=
  let seqOf (b : Bool) : Nat := leField (c.stakeBytes b) 8 4
  let t : Bool × Nat := match c.stakeNewer with
    | some b => (!b, (seqOf b + 1) % 2 ^ 32)
    | none => (false, 1)
  let w := c.fbWrite (stakeCopy t.1) (c.stakeImage t.2 rate) bad
  if w.2 then
    ({ w.1 with graph := { w.1.graph with stakeMod := false } }).done ch (leBytes 4 t.2)
  else w.1.refuse ch rCheckFail

def execStakeSave (ch : BitVec 4) (bad : Option Byte) (s : State) : Host.Outcome State Fault Refusal :=
  s.act (fun c =>
    let r := c.reqOf ch.toNat
    c.runMirrored ch.toNat 0x0403
      (firstFail [r.lenIs 4, (r.noTick && r.noHandle && within (r.p 0 1) 1 6 && r.z 1 3, rBadParam),
        (!c.resyncBars r && !c.swapBars r, rBadState)])
      (fun c => c.saveStakes ch.toNat (r.p 0 1) (bad.map BitVec.toNat)))

/-- The copy that STAKE_LOAD names, when it is valid. -/
def Chip.stakePick (c : Chip) (k : Nat) : Option Bool :=
  if k = 0 then c.stakeNewer
  else if stakeValid (c.stakeBytes (k == 2)) then some (k == 2) else none

/-- The table that STAKE_LOAD stages. -/
def Chip.stakeStaged (c : Chip) (r : Req) : Map Half := match c.stakePick (r.p 0 1) with
  | some b => stakeTable (c.stakeBytes b) b
  | none => []

def Chip.chkStakeLoad (c : Chip) (r : Req) : Nat :=
  let k := c.tickReason r (r.len == 4) (r.noHandle && decide (r.p 0 1 ≤ 2) && r.z 1 3) true true []
  if k ≠ rOK then k else if (c.stakePick (r.p 0 1)).isSome then rOK else rCheckFail

def execStakeLoad (ch : BitVec 4) (s : State) : Host.Outcome State Fault Refusal :=
  s.act (fun c => c.runTick ch.toNat 0x0404 (c.chkStakeLoad (c.reqOf ch.toNat)))

end Sys2Proof.Machine
end

