-- ==== Sys2Proof/Machine/Net.lean ====
section
/-! DEFINITION. The MACs and the streams (R393 to R418): their opcodes and events. -/
namespace Sys2Proof.Machine
open Sys2Proof

/-! ## Checks of the NET opcodes (R417) -/

def Chip.chkMacCfg (c : Chip) (r : Req) : Nat :=
  let d := c.due (c.effTick r)
  let base := r.p 36 8
  let n := r.p 44 2
  let tiles := n * entryTiles (r.p 4 2)
  let entries := n == 0 || (decide (16 ≤ n) && decide (n ≤ 4096) && n &&& (n - 1) == 0)
  c.tickReason r (r.len == 64)
    (r.noHandle && decide (r.p 0 1 < 4) && decide (r.p 1 1 ≤ 1) && decide (r.p 2 1 ≤ r.p 1 1) && decide (r.p 3 1 < 8) &&
      !(r.p 6 2).testBit 12 && !(r.p 8 1).testBit 0 && r.z 14 2 && base % 256 == 0 && entries && r.z 46 18)
    (!d.macEn (r.p 0 1)) true [(n == 0 || decide (base + 256 * tiles ≤ c.dramUsable), rBadParam)]

/-- An enabled stream uses a MAC. -/
def Chip.macUsed (c : Chip) (m : Nat) : Bool :=
  (c.enStreams 0 ++ c.enStreams 1).any (fun e => (e.2.paths (decide (512 ≤ e.1))).any (fun p => p.1 == m))

def Chip.chkMacEnable (c : Chip) (r : Req) : Nat :=
  let d := c.due (c.effTick r)
  let m := r.p 0 1
  let on := r.p 1 1 == 1
  c.tickReason r (r.len == 4) (r.noHandle && decide (m < 4) && decide (r.p 1 1 ≤ 1) && r.z 2 2)
    (if on then !d.forced 2 else !d.macUsed m) true
    [(!on || (decide (1518 ≤ d.maxFrame m) && decide (d.maxFrame m ≤ 9216)), rFrameLimit)]

def Chip.chkGroupFilter (c : Chip) (r : Req) : Nat :=
  c.tickReason r (r.len == 72) (r.noHandle && decide (r.p 0 1 < 4) && decide (r.p 1 1 ≤ 1) && r.z 2 6) true true []

/-- Stream, FORMAT, CH, FIRST, PTIME, RATE and PT lie in their ranges. -/
def Req.streamOk (r : Req) : Bool :=
  decide (r.p 0 2 < 512) && decide (r.p 2 1 ≤ 2) && within (r.p 3 1) 1 64 && decide (r.p 4 2 + r.p 3 1 ≤ 4096) &&
  decide (r.p 6 1 ≤ 4) && within (r.p 7 1) 1 6 && decide (r.p 8 1 < 128)

/-- The 36 bytes of a leg are well formed. -/
def Req.legOk (r : Req) (o : Nat) : Bool :=
  decide (r.p o 1 < 4) && (r.p (o + 1) 1 == 6 || (r.p (o + 1) 1 == 4 && r.z (o + 8) 12 && r.z (o + 24) 12))

def Chip.chkStreamRxCfg (c : Chip) (r : Req) : Nat :=
  let d := c.due (c.effTick r)
  let n := r.p 10 2
  let spp := ((Rate.ofCode (r.p 7 1)).bind (ptimeS (r.p 6 1))).getD 0
  let b := (r.p 9 1).testBit 2
  c.tickReason r (r.len == 96)
    (r.noHandle && r.streamOk && decide (r.p 9 1 < 8) && within n 16 4096 && n &&& (n - 1) == 0 && decide (r.p 12 4 + spp ≤ n) &&
      r.legOk 24 && (if b then r.legOk 60 && r.p 60 1 != r.p 24 1 else r.z 60 36))
    (!(d.stream (r.p 0 2)).en) true []

def Chip.chkStreamTxCfg (c : Chip) (r : Req) : Nat :=
  let d := c.due (c.effTick r)
  c.tickReason r (r.len == 80)
    (r.noHandle && r.streamOk && decide (r.p 9 1 < 64) && decide (1 ≤ r.p 10 1) && (r.p 11 1 == 6 || (r.p 11 1 == 4 && r.z 40 12)) &&
      decide (r.p 26 1 < 4) && r.z 27 1 && r.z 34 2 && r.z 52 28)
    (!(d.stream (512 + r.p 0 2)).en) true []

def Chip.chkStreamEnable (c : Chip) (r : Req) : Nat :=
  let d := c.due (c.effTick r)
  let k := 512 * r.p 2 1 + r.p 0 2
  let v := d.streamCheck k
  c.tickReason r (r.len == 4) (r.noHandle && decide (r.p 0 2 < 512) && decide (r.p 2 1 ≤ 1) && r.z 3 1)
    (d.streamReady k && !d.forced 2) true [(v == rOK, v)]

def Chip.chkStreamDisable (c : Chip) (r : Req) : Nat :=
  c.tickReason r (r.len == 4) (r.noHandle && decide (r.p 0 2 < 512) && decide (r.p 2 1 ≤ 1) && r.z 3 1) true true []

def Chip.chkPtpCfg (c : Chip) (r : Req) : Nat :=
  let lg := (BitVec.ofNat 8 (r.p 4 1)).toInt
  let asym := (BitVec.ofNat 32 (r.p 16 4)).toInt
  c.tickReason r (r.len == 32)
    (r.noHandle && decide (r.p 0 1 ≤ 2) && decide (r.p 1 1 < 240) && decide (r.p 2 1 < 16) && decide (r.p 3 1 ≤ 1) &&
      decide (-7 ≤ lg) && decide (lg ≤ 5) && within (r.p 5 1) 2 10 && r.z 6 2 && decide (asym.natAbs ≤ 100000) && r.z 20 12)
    true true []

/-! ## Rows of the NET opcodes -/

def execMacCfg (ch : BitVec 4) (s : State) : Host.Outcome State Fault Refusal :=
  s.act (fun c => c.runTick ch.toNat 0x0601 (c.chkMacCfg (c.reqOf ch.toNat)))

def execMacEnable (ch : BitVec 4) (s : State) : Host.Outcome State Fault Refusal :=
  s.act (fun c => c.runTick ch.toNat 0x0602 (c.chkMacEnable (c.reqOf ch.toNat)))

def execGroupFilter (ch : BitVec 4) (s : State) : Host.Outcome State Fault Refusal :=
  s.act (fun c => c.runTick ch.toNat 0x0603 (c.chkGroupFilter (c.reqOf ch.toNat)))

def execStreamRxCfg (ch : BitVec 4) (s : State) : Host.Outcome State Fault Refusal :=
  s.act (fun c => c.runTick ch.toNat 0x0604 (c.chkStreamRxCfg (c.reqOf ch.toNat)))

def execStreamTxCfg (ch : BitVec 4) (s : State) : Host.Outcome State Fault Refusal :=
  s.act (fun c => c.runTick ch.toNat 0x0605 (c.chkStreamTxCfg (c.reqOf ch.toNat)))

def execStreamEnable (ch : BitVec 4) (s : State) : Host.Outcome State Fault Refusal :=
  s.act (fun c => c.runTick ch.toNat 0x0606 (c.chkStreamEnable (c.reqOf ch.toNat)))

def execStreamDisable (ch : BitVec 4) (s : State) : Host.Outcome State Fault Refusal :=
  s.act (fun c => c.runTick ch.toNat 0x0607 (c.chkStreamDisable (c.reqOf ch.toNat)))

def execPtpCfg (ch : BitVec 4) (s : State) : Host.Outcome State Fault Refusal :=
  s.act (fun c => c.runTick ch.toNat 0x060A (c.chkPtpCfg (c.reqOf ch.toNat)))

/-- The payload of NET_STATS: sixteen counters. -/
def Chip.netPayload (c : Chip) (kind i : Nat) : List Byte :=
  let get (j : Nat) : Nat :=
    if kind = 0 then (Map.get (fun _ => (0 : DWord)) c.net.stats (16 * i + j)).toNat
    else Map.get (fun _ => 0) (c.stream (if kind = 1 then i else 512 + i)).stats j
  (List.range 16).flatMap (fun j => leBytes 8 (get j))

def execNetStats (ch : BitVec 4) (s : State) : Host.Outcome State Fault Refusal :=
  s.act (fun c =>
    let r := c.reqOf ch.toNat
    let k := r.p 0 1
    c.runNow ch.toNat 0x0608
      (firstFail [r.lenIs 4, (r.noTick && r.noHandle && decide (k ≤ 2) && r.z 1 1 && decide (r.p 2 2 < if k = 0 then 4 else 512), rBadParam)])
      (fun c => c.done ch.toNat (c.netPayload k (r.p 2 2))))

/-- The checks of NET_SEND (R402, R417). -/
def Chip.chkNetSend (c : Chip) (r : Req) : Nat :=
  let m := r.p 0 1
  let kind := r.p 1 1
  let h := r.p 2 2
  let hd := bytesFrom r.par 32 h
  let a := r.p 8 8
  let n := r.p 16 4
  let tag := if c.regBit (Reg.NET_MAC_CFG m) 27 then 4 else 0
  firstFail [(decide (r.len = 32 + h), rBadLength),
    (r.noTick && r.noHandle && decide (m < 4) && decide (kind ≤ 1) && within h 14 128 && r.z 6 2 && decide (n ≤ 1048576) && r.z 20 12 &&
      (if kind = 0 then r.z 4 2 else decide (1 ≤ r.p 4 2) && decide (1 ≤ n) && segHeaderOk hd), rBadParam),
    (c.macEn m && c.macLink m && !c.swapBars r, rBadState),
    (decide (a + n ≤ c.dramUsable) && decide (h + (if kind = 0 then n + tag else r.p 4 2) + 4 ≤ c.maxFrame m), rBadParam)]

def execNetSend (ch : BitVec 4) (s : State) : Host.Outcome State Fault Refusal :=
  s.act (fun c =>
    let r := c.reqOf ch.toNat
    c.runNow ch.toNat 0x0609 (c.chkNetSend r)
      (fun c =>
        let n := r.p 16 4
        let x := c.queueSegs ch.toNat (r.p 0 1) (if r.p 1 1 = 1 then some (r.p 4 2) else none) (bytesFrom r.par 32 (r.p 2 2)) (r.p 8 8) n 0 (n + 1)
        let c1 := { x.1 with net := { x.1.net with sends := x.1.net.sends ++ [({ ch := ch.toNat, sent := 0, fail := x.2 } : Sending)] } }
        (c1.modChan ch.toNat (fun k => { k with work := .accepted })).unqueue ch.toNat))

def execNetSendDone (ch : BitVec 4) (s : State) : Host.Outcome State Fault Refusal :=
  s.act (fun c =>
    match c.net.sends.find? (fun x => x.ch == ch.toNat) with
    | some x =>
      if c.net.queue.any (fun f => f.kind == 2 && f.src == ch.toNat) then c
      else
        let c1 := { c with net := { c.net with sends := c.net.sends.filter (fun y => y.ch != ch.toNat) } }
        c1.answer ch.toNat (if x.fail then rCheckFail else rOK) c1.eng.tick (leBytes 4 x.sent)
    | none => c)

/-! ## Reception (R396 to R400) -/

/-- The classification of a frame that reached step 6 of R396; `f` is the frame without its FCS. -/
def Chip.classify (c : Chip) (m : Nat) (f : List Byte) (tagged : Bool) (tci : Nat) : Chip :=
  let e := ethHeader f
  match parseUdp f e.1 e.2 with
  | some u =>
    match c.legOf m u with
    | some l => c.rtpReceive l.1 l.2 u
    | none => if c.ptpFor m u then c.ptpMessage m (u.part.drop 8) else c.rxQueue m f tagged tci
  | none => c.rxQueue m f tagged tci

/-- A frame arrives at a MAC, `b` with its FCS (R396). -/
def Chip.receive (c : Chip) (m : Nat) (b : List Byte) : Chip :=
  let len := b.length
  let f := b.take (len - 4)
  let tagged := decide (beField f 12 2 = 0x8100)
  let tci := if tagged then beField f 14 2 else 0
  let vid := tci % 4096
  let cfg := c.reg (Reg.NET_MAC_CFG m)
  let dst := f.take 6
  let bc := decide (dst = List.replicate 6 0xFF)
  let group := (beField f 0 1).testBit 0 && !bc
  if len ≤ 63 then (c.netStat m 5 1).netCount Reg.NET_RUNT_CNT 17 m 1 .netRunt
  else if c.maxFrame m < len then (c.netStat m 6 1).netCount Reg.NET_OVERSIZE_CNT 17 m 2 .netOversize
  else if crc32 f ≠ BitVec.ofNat 32 (leField b (len - 4) 4) then (c.netStat m 4 1).netCount Reg.NET_CRC_CNT 17 m 0 .netCrc
  else if (if vid = 0 then !cfg.getLsbD 26 else vid != c.macVid m) then c.netStat m 7 1
  else if !(if bc then cfg.getLsbD 28 else if group then c.hashBit m ((crc32 dst).toNat % 512) else decide (dst = c.macAddr m)) then c.netStat m 7 1
  else if (ethHeader f).2 = 0x8808 then c.netStat m 8 1
  else
    let c1 := (c.netStat m 0 1).netStat m 1 len
    let c2 := if bc then c1.netStat m 2 1 else if group then c1.netStat m 3 1 else c1
    c2.classify m f tagged tci

def execFrameReceived (mac : BitVec 2) (bytes : List Byte) (clks : Word) (s : State) : Host.Outcome State Fault Refusal :=
  s.act (fun c =>
    let c1 := c.timePass clks.toNat
    if c1.macEn mac.toNat && !c1.forced 2 then c1.receive mac.toNat bytes else c1)

/-- TAIL moves forward to index `v` unless that passes HEAD (R400). -/
def Chip.rxTail (c : Chip) (m v : Nat) : Chip :=
  let n := c.regFld (Reg.NET_RXQ_SIZE m) 15 0
  let head := (c.reg (Reg.NET_RXQ_HEAD m)).toNat
  let tail := (c.reg (Reg.NET_RXQ_TAIL m)).toNat
  if v < n ∧ (v + n - tail) % n ≤ (head + n - tail) % n then c.setReg (Reg.NET_RXQ_TAIL m) (BitVec.ofNat 32 v) else c

def execRxqTailWrite (mac : BitVec 2) (v : Word) (s : State) : Host.Outcome State Fault Refusal :=
  s.act (fun c => if c.pfUp false then c.hostAt (Reg.NET_RXQ_TAIL mac.toNat) (fun c => c.rxTail mac.toNat (v.toNat % 4096)) else c)

/-! ## Transmission (R395, R401) -/

/-- The frames of a MAC of a kind, the oldest first. -/
def Chip.nextFrame (c : Chip) (m : Nat) : Option TxFrame :=
  let q := c.net.queue.filter (fun f => f.mac == m)
  (q.find? (fun f => f.kind == 0)).or ((q.find? (fun f => f.kind == 1)).or (q.find? (fun f => f.kind == 2)))

/-- Takes a frame out of the queue. -/
def Chip.dequeue (c : Chip) (f : TxFrame) : Chip := { c with net := { c.net with queue := c.net.queue.erase f } }

/-- A stream's statistic grows; `k` is its transmit number. -/
def Chip.txStat (c : Chip) (k i n : Nat) : Chip := c.setStream (512 + k) ((c.stream (512 + k)).count i n)

/-- A MAC sends its next frame, or drops a stream packet while the link is down. -/
def Chip.transmit (c : Chip) (m : Nat) : Chip :=
  match c.nextFrame m with
  | none => c
  | some f =>
    if !c.macEn m || c.forced 2 then c
    else if !c.macLink m then
      (if f.kind = 0 then ((c.dequeue f).netStat m 15 1).txStat f.src 2 1 else c)
    else
      let w := c.wireFrame m f.bytes
      let c1 := (((c.dequeue f).netStat m 10 1).netStat m 11 w.length).netStat m (12 + f.kind) 1
      let c2 := { c1 with net := { c1.net with wire := Map.put (fun _ => []) c1.net.wire m w } }
      if f.kind = 0 then (c2.txStat f.src 0 1).txStat f.src 1 w.length
      else if f.kind = 1 then { c2 with net := { c2.net with ptp := { c2.net.ptp with reqAt := c2.dtm.time, asked := true } } }
      else { c2 with net := { c2.net with sends := c2.net.sends.map (fun x => if x.ch = f.src then { x with sent := x.sent + 1 } else x) } }

def execFrameTransmit (mac : BitVec 2) (s : State) : Host.Outcome State Fault Refusal :=
  s.act (fun c => c.transmit mac.toNat)

def execLinkChange (mac : BitVec 2) (lock lfault rfault : Bool) (s : State) : Host.Outcome State Fault Refusal :=
  s.act (fun c =>
    let a := Reg.NET_MAC_STAT mac.toNat
    let link := lock && !lfault && !rfault
    let c1 := c.modReg a (fun v => putBit (putBit (putBit (putBit v 31 link) 30 lock) 29 lfault) 28 rfault)
    if c.macLink mac.toNat = link then c1 else c1.netEvent 5)

def execSfpSidebandChange (mac : BitVec 2) (modabs los txfault : Bool) (s : State) : Host.Outcome State Fault Refusal :=
  s.act (fun c =>
    (c.modReg (Reg.NET_MAC_STAT mac.toNat) (fun v => putBit (putBit (putBit v 27 modabs) 26 los) 25 txfault)).txdis mac.toNat)

/-- A MAC's statistics are copied into its snapshot registers (R416). -/
def Chip.netSnap (c : Chip) (m : Nat) : Chip :=
  (List.range 16).foldl (fun c i =>
    let v := (Map.get (fun _ => (0 : DWord)) c.net.stats (16 * m + i)).toNat
    (c.setReg (Reg.NET_SNAP_STAT m (2 * i)) (BitVec.ofNat 32 v)).setReg (Reg.NET_SNAP_STAT m (2 * i + 1)) (BitVec.ofNat 32 (v / 2 ^ 32))) c

def execNetSnapTake (mac : BitVec 2) (s : State) : Host.Outcome State Fault Refusal :=
  s.act (fun c => if c.pfUp false then c.hostAt (Reg.NET_SNAP mac.toNat) (fun c => c.netSnap mac.toNat) else c)

/-! ## The PTP servo -/

def execPtpAnnounceTimeout (s : State) : Host.Outcome State Fault Refusal :=
  s.act (fun c =>
    let p := c.net.ptp
    match p.master with
    | some m => { c with net := { c.net with ptp := Ptp.reselect { p with masters := p.masters.filter (fun x => decide (x ≠ m)) } } }
    | none => c)

def execPtpDelayReqInterval (s : State) : Host.Outcome State Fault Refusal :=
  s.act (fun c =>
    let p := c.net.ptp
    match p.master with
    | some m =>
      if p.profile = 0 then c
      else
        let c1 := c.queueFrame { mac := m.mac, kind := 1, bytes := c.delayReq m.mac, src := 0 }
        { c1 with net := { c1.net with ptp := { p with seq := p.seq + 1 } } }
    | none => c)

end Sys2Proof.Machine
end

