-- ==== Sys2Proof/Machine/Sap.lean ====
section
/-! DEFINITION. The serial, AES3 and MADI ports (R360 to R385) and the cue ports (R386 to R392): their opcodes and
events. -/
namespace Sys2Proof.Machine
open Sys2Proof

/-! ## Checks of the PORT opcodes (R390) -/

def Chip.chkPortCfg (c : Chip) (r : Req) : Nat :=
  let d := c.due (c.effTick r)
  let p := r.p 0 1
  c.tickReason r (r.len == 16) (r.noHandle && decide (p < 16) && tdmParamsOk r.par)
    (!d.portEn 0 p && !d.portArmed 0 p) true []

/-- KIND and index name a port. -/
def Req.portOk (r : Req) : Bool := decide (r.p 1 1 < portCount (r.p 0 1)) && r.z 2 2

def Chip.chkPortEnable (c : Chip) (r : Req) : Nat :=
  let d := c.due (c.effTick r)
  let k := r.p 0 1
  let i := r.p 1 1
  let x := if d.portEn k i then rOK else if d.portArmed k i then rStartArmed else d.portCheck k i
  c.tickReason r (r.len == 4) (r.noHandle && r.portOk) (!d.sapForced) true [(x == rOK, x)]

def Chip.chkPortDisable (c : Chip) (r : Req) : Nat :=
  c.tickReason r (r.len == 4) (r.noHandle && r.portOk) true true []

def Chip.chkPortSlots (c : Chip) (r : Req) : Nat :=
  c.tickReason r (r.len == 12) (r.noHandle && decide (r.p 0 1 < 16) && r.z 1 3) true true []

def Chip.chkStartArm (c : Chip) (r : Req) : Nat :=
  let d := c.due (c.effTick r)
  let set := armSet (r.p 0 2) (r.p 2 1) (r.p 3 1)
  let x := d.armReason set
  c.tickReason r (r.len == 8)
    (r.noHandle && !set.isEmpty && decide (r.p 3 1 < 16) && decide (r.p 4 1 ≤ 1) && decide (r.p 5 1 ≤ 1) && r.z 6 2)
    (!set.any (fun p => d.portEn p.1 p.2) && !d.sapForced) true [(!d.isArmed, rStartArmed), (x == rOK, x)]

/-- Acceptance completes before the commit window of tick `t` opens. -/
def Chip.beforeCommitOf (c : Chip) (t : Int) : Bool :=
  decide ((c.tickN : Int) < t) || (decide ((c.tickN : Int) = t) && c.eng.phase != .commit)

def Chip.chkStart (c : Chip) (r : Req) : Nat :=
  let d := c.due (c.effTick r)
  let out := d.regBit Reg.SAP_START_CFG 29
  c.tickReason r (r.len == 0) r.noHandle (d.isArmed && !d.regBit Reg.SAP_START_CFG 30) true
    [(!c.tooFar r, rBadParam), (!out || c.beforeCommitOf ((c.effTick r : Int) - 3), rLate)]

def Chip.chkAesCfg (c : Chip) (r : Req) : Nat :=
  let rx := r.p 0 1 == 1
  c.tickReason r (r.len == 32)
    (r.noHandle && (rx || r.p 0 1 == 2) && decide (r.p 1 1 < 8) && r.z 5 3 &&
      (if rx then decide (1024 ≤ r.p 2 2) && r.z 4 1 && r.z 8 24 else r.z 2 2 && decide (r.p 4 1 ≤ 1)))
    true true []

def Chip.chkMadiCfg (c : Chip) (r : Req) : Nat :=
  let d := c.due (c.effTick r)
  let k := r.p 0 1
  let i := r.p 1 1
  let cfg := d.reg (portCfg k i)
  let same := decide (fld cfg 29 29 = r.p 2 1) && decide (fld cfg 28 28 = ofFlag (r.p 3 1 == 56))
  c.tickReason r (r.len == 32)
    (r.noHandle && (k == 3 || k == 4) && decide (i < 4) && decide (r.p 2 1 ≤ 1) && (r.p 3 1 == 56 || r.p 3 1 == 64) && r.z 6 2 &&
      (if k = 3 then decide (1024 ≤ r.p 4 2) && r.z 8 24 else r.z 4 2))
    ((!d.portEn k i && !d.portArmed k i) || same) true []

/-! ## Rows of the PORT opcodes -/

def execPortCfg (ch : BitVec 4) (s : State) : Host.Outcome State Fault Refusal :=
  s.act (fun c => c.runTick ch.toNat 0x0501 (c.chkPortCfg (c.reqOf ch.toNat)))

def execPortEnable (ch : BitVec 4) (s : State) : Host.Outcome State Fault Refusal :=
  s.act (fun c => c.runTick ch.toNat 0x0502 (c.chkPortEnable (c.reqOf ch.toNat)))

def execPortDisable (ch : BitVec 4) (s : State) : Host.Outcome State Fault Refusal :=
  s.act (fun c => c.runTick ch.toNat 0x0503 (c.chkPortDisable (c.reqOf ch.toNat)))

def execPortSlots (ch : BitVec 4) (s : State) : Host.Outcome State Fault Refusal :=
  s.act (fun c => c.runTick ch.toNat 0x0504 (c.chkPortSlots (c.reqOf ch.toNat)))

def execStartArm (ch : BitVec 4) (s : State) : Host.Outcome State Fault Refusal :=
  s.act (fun c => c.runTick ch.toNat 0x0505 (c.chkStartArm (c.reqOf ch.toNat)))

def execStart (ch : BitVec 4) (s : State) : Host.Outcome State Fault Refusal :=
  s.act (fun c => c.runTick ch.toNat 0x0506 (c.chkStart (c.reqOf ch.toNat)))

def execAesCfg (ch : BitVec 4) (s : State) : Host.Outcome State Fault Refusal :=
  s.act (fun c => c.runTick ch.toNat 0x0508 (c.chkAesCfg (c.reqOf ch.toNat)))

def execMadiCfg (ch : BitVec 4) (s : State) : Host.Outcome State Fault Refusal :=
  s.act (fun c => c.runTick ch.toNat 0x0509 (c.chkMadiCfg (c.reqOf ch.toNat)))

/-- The payload of PORT_STATUS. -/
def Chip.portPayload (c : Chip) (k i : Nat) : List Byte :=
  let z4 : List Byte := [0, 0, 0, 0]
  let cfg := c.reg (portCfg k i)
  let cs (f : Nat → Nat) : List Byte := (List.range 4).flatMap (fun w => c.reg4 (f w))
  leBytes 4 cfg.toNat ++
  (if k = 1 then c.reg4 (Reg.SAP_AESRX_STAT i) else if k = 3 then c.reg4 (Reg.SAP_MADIRX_STAT i) else z4) ++
  (if k = 0 then leBytes 4 (c.divReg (fld cfg 13 3)).toNat ++ leBytes 4 (c.divReg (mclkMult (fld cfg 2 0))).toNat
   else if k = 3 then c.reg4 (Reg.SAP_MADIRX_ACT_LO i) ++ c.reg4 (Reg.SAP_MADIRX_ACT_HI i) else z4 ++ z4) ++
  (if k = 3 then c.reg4 (Reg.SAP_MADIRX_NA_LO i) ++ c.reg4 (Reg.SAP_MADIRX_NA_HI i) else z4 ++ z4) ++
  (if k = 1 then cs (Reg.SAP_AESRX_CS i) else if k = 2 then cs (Reg.SAP_AESTX_CS i)
   else if k = 4 then cs (Reg.SAP_MADITX_CS i) else z4 ++ z4 ++ z4 ++ z4)

def execPortStatus (ch : BitVec 4) (s : State) : Host.Outcome State Fault Refusal :=
  s.act (fun c =>
    let r := c.reqOf ch.toNat
    c.runNow ch.toNat 0x0507 (firstFail [r.lenIs 4, (r.noTick && r.noHandle && r.portOk, rBadParam)])
      (fun c => c.done ch.toNat (c.portPayload (r.p 0 1) (r.p 1 1))))

/-! ## The common start -/

def execCommonStartRelease (s : State) : Host.Outcome State Fault Refusal :=
  s.act (fun c =>
    if c.sap.release = some c.tickN ∨ (c.sap.captured = some c.tickN ∧ c.followsOwner = false) then c.releaseSet else c)

def execStartOutPulse (s : State) : Host.Outcome State Fault Refusal :=
  s.act (fun c =>
    match c.sap.pulse with
    | some b => if b = c.tickN + 2 then { c with sap := { c.sap with pulse := none, pulses := c.sap.pulses + 1 } } else c
    | none => c)

def execStartInEdge (clks : Word) (eighth : BitVec 3) (s : State) : Host.Outcome State Fault Refusal :=
  s.act (fun c =>
    let c1 := (c.timePass clks.toNat).capture true eighth.toNat
    if c1.isArmed && c1.regBit Reg.SAP_START_CFG 30 && c1.sap.release.isNone && c1.sap.captured.isNone && c1.eng.ticking then
      let b := c1.tickN + 2
      let c2 := { c1 with sap := { c1.sap with pulse := if c1.regBit Reg.SAP_START_CFG 29 then some b else c1.sap.pulse } }
      { c2 with sap := (if c2.followsOwner then { c2.sap with captured := some b } else { c2.sap with release := some b }) }
    else c1)

/-! ## Reception -/

/-- The first bit of a slot in its frame (R361). -/
def tdmFirst (cfg : Word) (i : Nat) : Nat :=
  if fld cfg 29 28 < 2 then i * (fld cfg 13 3 / 2) else i * widthBits (fld cfg 23 22)

/-- The data bits of slot `i` whose sampling edge falls in a frame of `cyc` DATUM cycles: all of WORD, or those before the cut of a
frame with 2F > C (R364). -/
def tdmBits (cfg : Word) (cyc i : Nat) : Nat :=
  let w := wordBits (fld cfg 21 20)
  if 2 * fld cfg 13 3 ≤ cyc then w else min w (cyc / 2 - tdmFirst cfg i)

/-- The first `n` bits of a slot, the rest 0 (R362, R364). -/
def firstBits (n : Nat) (data : Word) : Word := (data >>> (32 - n)) <<< (32 - n)

/-- The tick that a frame belongs to by its edge 0, `edge0` DATUM cycles after the boundary of the tick in progress, of `cyc`
cycles: 0 an earlier tick, 1 this tick, 2 the next (R367). On the owner every frame begins at its own boundary. -/
def Chip.frameTick (c : Chip) (cyc : Nat) (edge0 : Int) : Nat :=
  if c.owns then 1 else if 2 * edge0 < -(cyc : Int) then 0 else if 2 * edge0 < cyc then 1 else 2

def execTdmSlotReceived (port : BitVec 4) (slot : BitVec 5) (bits : SlotBits) (s : State) : Host.Outcome State Fault Refusal :=
  s.act (fun c =>
    let p := port.toNat
    let i := slot.toNat
    let cfg := c.reg (Reg.SAP_TDM_CFG p)
    if !c.portEn 0 p || !c.eng.ticking then c
    else
      let t := c.tdm p
      let v := firstBits (tdmBits cfg c.datumCycles i) bits.data
      let k := c.frameTick c.datumCycles bits.edge0.toInt
      if k = 2 then c.setTdm p { t with early := some ((t.early.getD []) ++ (if i < tdmSlots cfg then [(i, v)] else [])) }
      else
        let c1 := if k = 1 then c.setTdm p { t with heard := true } else c
        if i < tdmSlots cfg ∧ t.rxMask.getLsbD i then
          let ep := 32 * p + i
          let x := c1.inCh ep
          let c2 := c1.setIn ep { x with receiving := { v := v, p := false }, got := x.got + 1 }
          if 0 < x.got then c2.late 3 1 (epAddr ep) else c2
        else c1)

/-- A frame's measured rate, in mHz, and what STAT shows of the frame (R374). -/
def Chip.rxMeasure (c : Chip) (k freq : Nat) (f : Word → Word) : Chip :=
  ((c.setRx k { c.rx k with freq := freq }).modReg (rxStat k) f).rxRate k

/-- The flags of an AES3 receiver's STAT register after a frame. -/
def Chip.aesFlags (c : Chip) (k : Nat) : Chip :=
  let x := c.rx k
  let p := Map.get rxPair0 x.pairs 0
  let na := (Map.get rxCh0 x.chans 0).na || (Map.get rxCh0 x.chans 1).na
  c.modReg (rxStat k) (fun v => putBit (putBit (putBit v 29 p.muted) 28 na) 27 p.burst)

def execAes3FrameReceived (rx : BitVec 3) (good : Bool) (rate : BitVec 4) (freq : Word) (a b : SubFrame) (s : State) :
    Host.Outcome State Fault Refusal :=
  s.act (fun c =>
    let k := rx.toNat
    if !c.rxEn k then c
    else
      let ends := (Map.get rxCh0 (c.rx k).chans 0).pos == some 191 && !a.blk
      let c1 := (c.rxTrack k good).rxMeasure k freq.toNat (fun v => putFld (putBit v 25 a.v) 15 12 rate.toNat)
      let c2 := (c1.rxDecode k 0 [a, b]).aesFlags k
      let cs := leBytes 24 (Map.get rxCh0 (c2.rx k).chans 0).acc.toNat
      let c3 :=
        if ends then
          (c2.putWords (Reg.SAP_AESRX_CS k) 0 (toWords cs)).setBit (rxStat k) 26
            (!(leField cs 0 1).testBit 0 || decide (leField cs 23 1 = crcc cs))
        else c2
      c3.rxPush k ((c3.rx k).samples 2 (fun _ => true)))

/-- Sets the bits of a 64-bit mask held in two registers. -/
def Chip.putMask (c : Chip) (lo hi : Nat) (f : Nat → Bool) : Chip :=
  let m (o : Nat) : Word := BitVec.ofNat 32 ((List.range 32).foldl (fun n i => n + (if f (o + i) then 2 ^ i else 0)) 0)
  (c.setReg lo (m 0)).setReg hi (m 32)

/-- The mute mask of a MADI receiver. -/
def Chip.madiMutes (c : Chip) (k : Nat) : Chip :=
  c.putMask (Reg.SAP_MADIRX_NA_LO (k - 8)) (Reg.SAP_MADIRX_NA_HI (k - 8))
    (fun i => (Map.get rxPair0 (c.rx k).pairs (i / 2)).muted)

def execMadiFrameReceived (rx : BitVec 2) (good : Bool) (rate : BitVec 4) (freq : Word) (subs : List SubFrame) (s : State) :
    Host.Outcome State Fault Refusal :=
  s.act (fun c =>
    let m := rx.toNat
    let k := 8 + m
    let fs := subs.take 64
    if !c.rxEn k then c
    else
      let c1 := (c.rxTrack k good).rxMeasure k freq.toNat (fun v => putFld (putFld v 15 12 rate.toNat) 26 20 fs.length)
      let c2 := c1.putMask (Reg.SAP_MADIRX_ACT_LO m) (Reg.SAP_MADIRX_ACT_HI m)
        (fun i => (fs[i]?).any (fun f => f.active))
      let c3 := (c2.rxDecode k 0 fs).madiMutes k
      c3.rxPush k ((c3.rx k).samples fs.length (fun i => (fs[i]?).any (fun f => f.active))))

def execNonaudioHoldEnd (rx : BitVec 4) (pair : BitVec 5) (s : State) : Host.Outcome State Fault Refusal :=
  s.act (fun c =>
    let k := rx.toNat
    let i := pair.toNat
    if 12 ≤ k then c
    else
      let x := c.rx k
      let p := Map.get rxPair0 x.pairs i
      if p.burst && decide (c.naHold k ≤ p.since) then
        let na := (Map.get rxCh0 x.chans (2 * i)).na || (Map.get rxCh0 x.chans (2 * i + 1)).na
        let c1 := c.setRx k { x with pairs := Map.put rxPair0 x.pairs i { p with burst := false, muted := na } }
        if k < 8 then c1.aesFlags k else c1.madiMutes k
      else c)

def execReceiverLockLoss (rx : BitVec 4) (s : State) : Host.Outcome State Fault Refusal :=
  s.act (fun c => if rx.toNat < 12 ∧ c.rxEn rx.toNat then c.rxLoseLock rx.toNat else c)

/-- Even parity: 1 where the number of ones in bits 4 to 30 is odd. -/
def parityOf (w : Nat) : Nat := (List.range 27).foldl (fun n i => if w.testBit (i + 4) then 1 - n else n) 0

/-- Bits 4 to 31 of a subframe in place: the audio bits 23:0 of a sample, V, U = 0, C and even parity (R379, R382). -/
def subBits (v : Word) (vbit cbit : Bool) : Nat :=
  let w := (v.toNat / 256) * 16 + ofFlag vbit * 2 ^ 28 + ofFlag cbit * 2 ^ 30
  w + parityOf w * 2 ^ 31

/-- Bit `pos` of a channel status block. -/
def csBit (cs : List Byte) (pos : Nat) : Bool := (cs.getD (pos / 8) 0).getLsbD (pos % 8)

/-- A MADI subframe: channel `i` of the frame that stands at position `pos` of the block (MADI). -/
def madiSub (i pos : Nat) (cs : List Byte) (v : Word) : Word :=
  BitVec.ofNat 32 (ofFlag (i == 0) + 2 + 4 * (i % 2) + 8 * ofFlag (pos == 0) + subBits v false (csBit cs pos))

/-- The subframes of the frame that begins now (R382): in S/MUX mode channel 2k carries the sample presented at the boundary
before and channel 2k + 1 the one presented at this one. An armed transmitter sends zeros (R369). -/
def Chip.madiLine (c : Chip) (m : Nat) (x : TxPort) (smux : Bool) : List Word :=
  let n := (c.portChans 4 m).2
  let now (i : Nat) : Word := if c.portEn 4 m then (c.outCh (0x4300 + 64 * m + i)).presented.v else 0
  let was (i : Nat) : Word := if c.portEn 4 m then x.before.getD i 0 else 0
  (List.range (if smux then 2 * n else n)).map (fun j =>
    madiSub j x.pos x.cs (if smux then (if j % 2 = 0 then was (j / 2) else now (j / 2)) else now j))

def execMadiFrameStart (tx : BitVec 2) (delay : Word) (s : State) : Host.Outcome State Fault Refusal :=
  s.act (fun c =>
    let m := tx.toNat
    let cfg := c.reg (Reg.SAP_MADITX_CFG m)
    match c.eng.rate with
    | none => c
    | some r =>
      let smux := c.smux cfg
      if !(c.portEn 4 m || c.portArmed 4 m) || (smux && c.tickN % 2 == 1) then c
      else if 1000000000 * (if smux then 2 else 1) < 4 * delay.toNat * r.hz then (c.setTxPort (8 + m) { c.txPort (8 + m) with line := [] }).slip 4 m
      else
        let x := c.txNext (8 + m)
        c.setTxPort (8 + m) { x with line := c.madiLine m x smux })

/-! ## Cue ports -/

def execCueCfg (ch : BitVec 4) (s : State) : Host.Outcome State Fault Refusal :=
  s.act (fun c =>
    let r := c.reqOf ch.toNat
    let p := r.p 0 1
    let en := r.p 1 1 == 1
    c.runNow ch.toNat 0x0C01
      (firstFail [r.lenIs 8, (r.noTick && r.noHandle && decide (p < 2) && decide (r.p 1 1 ≤ 1) && within (r.p 2 2) 2 100 &&
        within (r.p 4 2) 5 120 && r.z 6 2, rBadParam), (!(en && c.regBit Reg.CLK_GATE_FORCE 1), rBadState)])
      (fun c =>
        let c1 := c.setReg (Reg.CUE_CFG p) (putFld (putFld (putFld 0 31 31 (ofFlag en)) 23 16 (r.p 4 2)) 7 0 (r.p 2 2))
        let c2 := if en then c1.setBit Reg.CLK_GATE_STAT 18 true
          else (c1.setReg (Reg.CUE_STAT p) 0x3F00).setCue p Cue.reset
        c2.done ch.toNat []))

def execCueStatus (ch : BitVec 4) (s : State) : Host.Outcome State Fault Refusal :=
  s.act (fun c =>
    let r := c.reqOf ch.toNat
    c.runNow ch.toNat 0x0C02
      (firstFail [r.lenIs 4, (r.noTick && r.noHandle && decide (r.p 0 1 < 2) && r.z 1 3, rBadParam)])
      (fun c => c.done ch.toNat (c.reg4 (Reg.CUE_STAT (r.p 0 1)))))

/-- A reading of DET_N (R387): DEBOUNCE consecutive readings at the new level are accepted. -/
def Chip.cueDetect (c : Chip) (p : Nat) (plugged : Bool) : Chip :=
  let x := c.cue p
  if c.regBit (Reg.CUE_STAT p) 31 = plugged then c.setCue p { x with detRun := 0 }
  else if x.detRun + 1 < c.regFld (Reg.CUE_CFG p) 7 0 then c.setCue p { x with detRun := x.detRun + 1 }
  else
    let c1 := (c.setCue p { x with detRun := 0 }).setBit (Reg.CUE_STAT p) 31 plugged
    if plugged then
      let c2 := c1.cueEvent p 0
      if c2.cueDrives then c2.cueClassify p else c2
    else
      let c2 := (c1.modReg (Reg.CUE_STAT p) (fun v => putFld (putFld v 21 18 0) 17 14 0)).setCue p Cue.reset
      (c2.cueEvent p 1).cueType p 0 0 0

/-- The window code of a resistance to ground in Ω (R386). -/
def cueWindow (r : Nat) : Nat :=
  if r < 60 then 0 else if within r 110 160 then 1 else if within r 200 290 then 2 else if within r 400 560 then 3
  else if within r 800 50000 then 4 else if 100000 < r then 5 else 6

/-- A millisecond of classification (R387). -/
def Chip.cueClassTick (c : Chip) (p a b : Nat) : Chip :=
  let c1 := c.setCue p { c.cue p with classMs := (c.cue p).classMs + 1 }
  if a = 4 then c1.cueType p 3 0 0
  else if b = 4 then c1.cueType p 3 1 1
  else if a = 0 ∧ b = 0 then c1.cueType p 2 0 0
  else c1

/-- A millisecond of a headset's buttons with the microphone line's code (R388). -/
def Chip.cueButtons (c : Chip) (p code : Nat) : Chip :=
  let x := c.cue p
  let cur := c.regFld (Reg.CUE_STAT p) 17 14
  let x0 := if cur ≠ 0 then { x with heldMs := x.heldMs + 1 } else { x with heldMs := 0 }
  if 6 ≤ code then c.setCue p x0
  else
    let st := if code ≤ 3 then code else 4
    let mask := if st = 4 then 0 else 2 ^ st
    let run := if x.seen = st then x.run + 1 else 1
    let c1 := c.setCue p { x0 with seen := st, run := run }
    if mask ≠ cur ∧ c.regFld (Reg.CUE_CFG p) 7 0 ≤ run then
      ((c1.setCue p { x0 with seen := st, run := run, heldMs := 0 }).modReg (Reg.CUE_STAT p)
        (fun v => putFld (putFld v 17 14 mask) 21 18 0)).cueEvent p 3
    else c1

def execCueMeasure (port : BitVec 1) (plugged : Bool) (s1 s2 : Word) (s : State) : Host.Outcome State Fault Refusal :=
  s.act (fun c =>
    let p := port.toNat
    if !c.regBit (Reg.CUE_CFG p) 31 || c.regBit Reg.CLK_GATE_FORCE 1 then c
    else
      let c1 := c.cueDetect p plugged
      if !c1.cueDrives then c1
      else
        let a := cueWindow s1.toNat
        let b := cueWindow s2.toNat
        let t := c1.regFld (Reg.CUE_STAT p) 30 28
        let order := c1.regFld (Reg.CUE_STAT p) 27 27
        let rd1 (c : Chip) : Chip := if a < 6 then c.setFld (Reg.CUE_STAT p) 13 11 a else c
        let rd2 (c : Chip) : Chip := if b < 6 then c.setFld (Reg.CUE_STAT p) 10 8 b else c
        if t = 1 then (rd2 (rd1 c1)).cueClassTick p a b
        else if t = 3 then (if order = 0 then (rd1 c1).cueButtons p a else (rd2 c1).cueButtons p b)
        else rd2 (rd1 c1))

def execCueClassifyTimeout (port : BitVec 1) (s : State) : Host.Outcome State Fault Refusal :=
  s.act (fun c =>
    let p := port.toNat
    if c.regFld (Reg.CUE_STAT p) 30 28 = 1 ∧ 500 ≤ (c.cue p).classMs ∧ c.regBit Reg.CLK_GATE_FORCE 1 = false then c.cueType p 4 0 0 else c)

def execCueButtonStuck (port : BitVec 1) (s : State) : Host.Outcome State Fault Refusal :=
  s.act (fun c =>
    let p := port.toNat
    let cur := c.regFld (Reg.CUE_STAT p) 17 14
    if cur ≠ 0 ∧ c.regFld (Reg.CUE_STAT p) 21 18 = 0 ∧ 1000 * c.regFld (Reg.CUE_CFG p) 23 16 ≤ (c.cue p).heldMs ∧
        c.regBit Reg.CLK_GATE_FORCE 1 = false then
      (c.setFld (Reg.CUE_STAT p) 21 18 cur).cueEvent p 4
    else c)

end Sys2Proof.Machine
end

