-- ==== Sys2Proof/Machine/Tick.lean ====
section
/-! DEFINITION. The rows of the tick, of suspension and of the rate (R46 to R88). -/
namespace Sys2Proof.Machine
open Sys2Proof

/-! ## The phases of a tick -/

def execTickBoundary (cycles : Half) (clks : Word) (s : State) : Host.Outcome State Fault Refusal :=
  s.act (fun c => c.boundary cycles.toNat clks.toNat)

def execForcedLegEntry (leg : BitVec 2) (s : State) : Host.Outcome State Fault Refusal :=
  s.act (fun c => c.legStart leg.toNat)

def execLegEnd (leg : BitVec 2) (s : State) : Host.Outcome State Fault Refusal :=
  s.act (fun c => c.legEnd leg.toNat)

/-- WINDOW_END (R167): the entries of the window from position `first` on are not issued; each that a region is owed is counted,
the lowest address last (R199). A missing transfer to an output endpoint is an underrun of its commit (R170). -/
def execWindowEnd (exch : BitVec 6) (win : BitVec 3) (first : Half) (s : State) : Host.Outcome State Fault Refusal :=
  s.act (fun c =>
    let x := exch.toNat
    let w := win.toNat
    let l := (c.windowOf x w).drop first.toNat
    let owed (e : Nat × SchedEntry) : Bool := x != 0 || decide (e.2.dst < 32768)
    if c.traversed && decide (x < 37) then
      (sortBy (fun e => 65535 - e.2.dst) (l.filter owed)).foldl (fun c e => c.late 2 0 (e.2.dst % 65536))
        (c.addSkips x w (l.map (fun e => (e.1, owed e))))
    else c)

/-- SCHEDULE_TILE_FETCH (R168): tile `tile` of an exchange's schedule store is fetched for a window; `bad` says that it was
disturbed as it was read. A tile holds 32 entries. -/
def execScheduleTileFetch (exch : BitVec 6) (win : BitVec 3) (tile : Half) (bad : Bool) (s : State) : Host.Outcome State Fault Refusal :=
  s.act (fun c =>
    let x := exch.toNat
    let k := (x, tile.toNat)
    let rest := c.chain.refetch.filter (fun e => e != k)
    if !c.traversed || decide (37 ≤ x) then c
    else if !bad && !c.mem.fails .sched (schedTile x tile.toNat) then { c with chain := { c.chain with refetch := rest } }
    else
      let c1 := c.tileCheck 5 0 (exchRegion x) tile.toNat
      if c.chain.refetch.contains k then
        let idx := ((c.windowOf x win.toNat).filter (fun e => e.1 / 32 == tile.toNat)).map (fun e => (e.1, true))
        ({ c1 with chain := { c1.chain with refetch := rest } }).addSkips x win.toNat idx
      else { c1 with chain := { c1.chain with refetch := rest ++ [k] } })

def execCommitWindow (s : State) : Host.Outcome State Fault Refusal :=
  s.act (fun c => c.commitWindow)

/-! ## SUSPEND, RESUME and SET_RATE -/

def execSuspend (ch : BitVec 4) (s : State) : Host.Outcome State Fault Refusal :=
  s.act (fun c =>
    let r := c.reqOf ch.toNat
    c.runTick ch.toNat 0x0110 (c.chkSuspend (c.due (c.effTick r)) r))

def execResume (ch : BitVec 4) (s : State) : Host.Outcome State Fault Refusal :=
  s.act (fun c => c.runTick ch.toNat 0x0111 (c.chkResume (c.reqOf ch.toNat)))

def execSetRate (ch : BitVec 4) (s : State) : Host.Outcome State Fault Refusal :=
  s.act (fun c =>
    let r := c.reqOf ch.toNat
    c.runTick ch.toNat 0x0112 (c.chkSetRate (c.due (c.effTick r)) r))

/-! ## At boundaries -/

def execCommandEffect (s : State) : Host.Outcome State Fault Refusal := s.act (fun c => c.commandEffect)

def execSuspendHoldEnd (s : State) : Host.Outcome State Fault Refusal := s.act (fun c => c.holdEnds)

def execRateFadeEnd (s : State) : Host.Outcome State Fault Refusal := s.act (fun c => c.rateFadeEnd)

def execFirstNewRateTick (wait : BitVec 12) (clks : Word) (s : State) : Host.Outcome State Fault Refusal :=
  s.act (fun c => c.firstNewTick wait.toNat clks.toNat)

end Sys2Proof.Machine
end

