-- ==== Sys2Proof/Machine/Crypto.lean ====
section
/-! DEFINITION. SHA-512 and the verification of Ed25519 signatures (R285: RFC 8032, section 5.1, and FIPS 180-4). -/
namespace Sys2Proof.Machine
open Sys2Proof

/-! ## SHA-512 -/

/-- The round constants. -/
def shaK : List DWord :=
  [0x428a2f98d728ae22, 0x7137449123ef65cd, 0xb5c0fbcfec4d3b2f, 0xe9b5dba58189dbbc] ++
  [0x3956c25bf348b538, 0x59f111f1b605d019, 0x923f82a4af194f9b, 0xab1c5ed5da6d8118] ++
  [0xd807aa98a3030242, 0x12835b0145706fbe, 0x243185be4ee4b28c, 0x550c7dc3d5ffb4e2] ++
  [0x72be5d74f27b896f, 0x80deb1fe3b1696b1, 0x9bdc06a725c71235, 0xc19bf174cf692694] ++
  [0xe49b69c19ef14ad2, 0xefbe4786384f25e3, 0x0fc19dc68b8cd5b5, 0x240ca1cc77ac9c65] ++
  [0x2de92c6f592b0275, 0x4a7484aa6ea6e483, 0x5cb0a9dcbd41fbd4, 0x76f988da831153b5] ++
  [0x983e5152ee66dfab, 0xa831c66d2db43210, 0xb00327c898fb213f, 0xbf597fc7beef0ee4] ++
  [0xc6e00bf33da88fc2, 0xd5a79147930aa725, 0x06ca6351e003826f, 0x142929670a0e6e70] ++
  [0x27b70a8546d22ffc, 0x2e1b21385c26c926, 0x4d2c6dfc5ac42aed, 0x53380d139d95b3df] ++
  [0x650a73548baf63de, 0x766a0abb3c77b2a8, 0x81c2c92e47edaee6, 0x92722c851482353b] ++
  [0xa2bfe8a14cf10364, 0xa81a664bbc423001, 0xc24b8b70d0f89791, 0xc76c51a30654be30] ++
  [0xd192e819d6ef5218, 0xd69906245565a910, 0xf40e35855771202a, 0x106aa07032bbd1b8] ++
  [0x19a4c116b8d2d0c8, 0x1e376c085141ab53, 0x2748774cdf8eeb99, 0x34b0bcb5e19b48a8] ++
  [0x391c0cb3c5c95a63, 0x4ed8aa4ae3418acb, 0x5b9cca4f7763e373, 0x682e6ff3d6b2b8a3] ++
  [0x748f82ee5defb2fc, 0x78a5636f43172f60, 0x84c87814a1f0ab72, 0x8cc702081a6439ec] ++
  [0x90befffa23631e28, 0xa4506cebde82bde9, 0xbef9a3f7b2c67915, 0xc67178f2e372532b] ++
  [0xca273eceea26619c, 0xd186b8c721c0c207, 0xeada7dd6cde0eb1e, 0xf57d4f7fee6ed178] ++
  [0x06f067aa72176fba, 0x0a637dc5a2c898a6, 0x113f9804bef90dae, 0x1b710b35131c471b] ++
  [0x28db77f523047d84, 0x32caab7b40c72493, 0x3c9ebe0a15c9bebc, 0x431d67c49c100d4c] ++
  [0x4cc5d4becb3e42b6, 0x597f299cfc657e2a, 0x5fcb6fab3ad6faec, 0x6c44198c4a475817]

/-- The initial hash value. -/
def shaH0 : List DWord :=
  [0x6a09e667f3bcc908, 0xbb67ae8584caa73b, 0x3c6ef372fe94f82b, 0xa54ff53a5f1d36f1] ++
  [0x510e527fade682d1, 0x9b05688c2b3e6c1f, 0x1f83d9abfb41bd6b, 0x5be0cd19137e2179]

/-- The number of a byte list, most significant byte first. -/
def shaNum (b : List Byte) : Nat := b.foldl (fun n x => 256 * n + x.toNat) 0

/-- The `n` bytes of a number, most significant first. -/
def shaBytes (n v : Nat) : List Byte := (leBytes n v).reverse

/-- A list cut into pieces of `n`; `k` is at least the number of pieces. -/
def chunks {α : Type} (n : Nat) (l : List α) : Nat → List (List α)
  | 0 => []
  | k + 1 => if l.isEmpty then [] else l.take n :: chunks n (l.drop n) k

/-- The message schedule, newest word first, extended by `k` words. -/
def shaExpand (w : List DWord) : Nat → List DWord
  | 0 => w
  | k + 1 =>
    let s0 (x : DWord) : DWord := x.rotateRight 1 ^^^ x.rotateRight 8 ^^^ (x >>> 7)
    let s1 (x : DWord) : DWord := x.rotateRight 19 ^^^ x.rotateRight 61 ^^^ (x >>> 6)
    shaExpand ((s1 (w.getD 1 0) + w.getD 6 0 + s0 (w.getD 14 0) + w.getD 15 0) :: w) k

/-- One round over the eight working variables. -/
def shaRound (v : List DWord) (kw : DWord) : List DWord :=
  let a := v.getD 0 0
  let b := v.getD 1 0
  let c := v.getD 2 0
  let e := v.getD 4 0
  let f := v.getD 5 0
  let g := v.getD 6 0
  let s1 : DWord := e.rotateRight 14 ^^^ e.rotateRight 18 ^^^ e.rotateRight 41
  let t1 : DWord := v.getD 7 0 + s1 + ((e &&& f) ^^^ (~~~e &&& g)) + kw
  let s0 : DWord := a.rotateRight 28 ^^^ a.rotateRight 34 ^^^ a.rotateRight 39
  let t2 : DWord := s0 + ((a &&& b) ^^^ (a &&& c) ^^^ (b &&& c))
  [t1 + t2, a, b, c, v.getD 3 0 + t1, e, f, g]

/-- One block of 128 bytes. -/
def shaBlock (h : List DWord) (b : List Byte) : List DWord :=
  let w0 := ((chunks 8 b 16).map (fun x => BitVec.ofNat 64 (shaNum x))).reverse
  let w := (shaExpand w0 64).reverse
  let v := (List.zipWith (fun (k x : DWord) => k + x) shaK w).foldl shaRound h
  List.zipWith (fun (x y : DWord) => x + y) h v

/-- SHA-512. -/
def sha512 (m : List Byte) : List Byte :=
  let z := (239 - m.length % 128) % 128
  let p := m ++ [0x80] ++ List.replicate z 0 ++ shaBytes 16 (8 * m.length)
  ((chunks 128 p (p.length / 128)).foldl shaBlock shaH0).flatMap (fun x => shaBytes 8 x.toNat)

/-! ## The curve -/

/-- The field prime, the order of the base point and the curve constant d. -/
def edP : Nat := 2 ^ 255 - 19
def edL : Nat := 2 ^ 252 + 27742317777372353535851937790883648493
def edD : Nat := 37095705934669439343138083508754565189542113879843219016388785533085940283555

/-- A power modulo p, by the bits of the exponent; `k` bits are taken. -/
def powMod (b e : Nat) : Nat → Nat
  | 0 => 1
  | k + 1 =>
    let h := powMod b (e / 2) k
    let s := h * h % edP
    if e % 2 = 1 then s * b % edP else s

/-- The inverse modulo p. -/
def edInv (x : Nat) : Nat := powMod x (edP - 2) 255

/-- A point in extended coordinates (X, Y, Z, T). -/
structure EdPoint where
  x : Nat
  y : Nat
  z : Nat
  t : Nat
deriving DecidableEq, Repr

def EdPoint.zero : EdPoint := { x := 0, y := 1, z := 1, t := 0 }

/-- Addition (RFC 8032, section 5.1.4). -/
def EdPoint.add (p q : EdPoint) : EdPoint :=
  let a := (p.y + edP - p.x) * (q.y + edP - q.x) % edP
  let b := (p.y + p.x) * (q.y + q.x) % edP
  let c := p.t * 2 % edP * edD % edP * q.t % edP
  let d := p.z * 2 * q.z % edP
  let e := b + edP - a
  let f := d + edP - c
  let g := d + c
  let h := b + a
  { x := e * f % edP, y := g * h % edP, z := f * g % edP, t := e * h % edP }

/-- The multiple n·P; `k` bits of n are taken. -/
def EdPoint.mul (p : EdPoint) (n : Nat) : Nat → EdPoint
  | 0 => EdPoint.zero
  | k + 1 =>
    let h := EdPoint.mul p (n / 2) k
    let s := h.add h
    if n % 2 = 1 then s.add p else s

/-- Two points are the same point. -/
def EdPoint.same (p q : EdPoint) : Bool :=
  p.x * q.z % edP == q.x * p.z % edP && p.y * q.z % edP == q.y * p.z % edP

/-- Decodes a point; none when its encoding is not canonical or names no point (RFC 8032, section 5.1.3). -/
def edDecode (b : List Byte) : Option EdPoint :=
  let n := leNat b
  let y := n % 2 ^ 255
  let sign := n / 2 ^ 255
  if edP ≤ y then none
  else
    let y2 := y * y % edP
    let u := (y2 + edP - 1) % edP
    let v := (edD * y2 + 1) % edP
    let v3 := v * v % edP * v % edP
    let v7 := v3 * v3 % edP * v % edP
    let x0 := u * v3 % edP * powMod (u * v7 % edP) ((edP - 5) / 8) 255 % edP
    let vx := v * (x0 * x0 % edP) % edP
    let root : Option Nat := if vx = u then some x0
      else if vx = (edP - u) % edP then some (x0 * powMod 2 ((edP - 1) / 4) 255 % edP) else none
    match root with
    | none => none
    | some x =>
      if x = 0 ∧ sign = 1 then none
      else
        let x' := if x % 2 = sign then x else edP - x
        some { x := x', y := y, z := 1, t := x' * y % edP }

/-- The base point. -/
def edBase : EdPoint :=
  let x := 15112221349535400772501151409588531511454012693041857206046113283949847762202
  let y := 46316835694926478169428394003475163141307993866256225615783033603165251855960
  { x := x, y := y, z := 1, t := x * y % edP }

/-- A signature of 64 bytes over a message verifies against a public key of 32 bytes (R285). -/
def edVerify (key msg sig : List Byte) : Bool :=
  let r := sig.take 32
  let s := leNat (sig.drop 32)
  match edDecode key, edDecode r with
  | some a, some rp =>
    if edL ≤ s ∨ sig.length ≠ 64 ∨ key.length ≠ 32 then false
    else
      let k := leNat (sha512 (r ++ key ++ msg)) % edL
      ((edBase.mul s 256).mul 8 4).same ((rp.add (a.mul k 256)).mul 8 4)
  | _, _ => false

end Sys2Proof.Machine
end

