-- ==== Sys2Proof/Machine/Param.lean ====
section
/-! DEFINITION. The rows of parameters, gains and tail streams (R232 to R259). -/
namespace Sys2Proof.Machine
open Sys2Proof

def execParamWrite (ch : BitVec 4) (s : State) : Host.Outcome State Fault Refusal :=
  s.act (fun c => c.runTick ch.toNat 0x0301 (c.chkParamWrite (c.reqOf ch.toNat)))

/-- The words of a symbol, and whether its tile fails its check or carries the mark (R258). -/
def Chip.symWords (c : Chip) (s : Symbol) : Chip × List Word × Bool :=
  let words (sp : Space) (a : Nat) (region : Nat) (n : Nat) : Chip × List Word × Bool :=
    let bad := c.mem.fails sp (a / 256)
    let c1 := if bad then c.tileCheck 4 0 region (a / 256 % n) else c
    (c1, (List.range s.words).map (fun i => memWord (c.mem.bytes sp) (a + 4 * i)), bad || marked (c.mem.entry sp (a / 256)))
  if s.kind = 0 then words .back (131072 * c.physOf s.owner + s.loc) (s.owner / 128) 512
  else if s.kind = 1 then words .region (4194304 * (s.owner % 4) + s.loc) (s.owner % 4) 16384
  else if s.kind = 2 then (c, [((c.cell (c.physOf s.owner)).gain s.loc).tgt], false)
  else
    let d := match c.tapsLive.find? (fun t => t.region == s.owner % 4 && t.tap == s.loc) with
      | some t => t.delay
      | none => 0
    (c, [BitVec.ofNat 32 d], false)

def execParamRead (ch : BitVec 4) (s : State) : Host.Outcome State Fault Refusal :=
  s.act (fun c =>
    let n := ch.toNat
    let r := c.reqOf n
    let sym := symOf c.liveSyms r.handle
    c.runNow n 0x0302 (firstFail [r.lenIs 0, (r.noTick, rBadParam), (sym.isSome, rHandleUnknown)])
      (fun c =>
        match sym with
        | some y =>
          let x := c.symWords y
          if x.2.2 then x.1.refuse n rCheckFail else x.1.done n (x.2.1.flatMap (fun w => leBytes 4 w.toNat))
        | none => c))

def execGainSet (ch : BitVec 4) (s : State) : Host.Outcome State Fault Refusal :=
  s.act (fun c => c.runTick ch.toNat 0x0303 (c.chkGainSet (c.reqOf ch.toNat)))

def execGainCfg (ch : BitVec 4) (s : State) : Host.Outcome State Fault Refusal :=
  s.act (fun c => c.runTick ch.toNat 0x0304 (c.chkGainCfg (c.reqOf ch.toNat)))

def execGainGet (ch : BitVec 4) (s : State) : Host.Outcome State Fault Refusal :=
  s.act (fun c =>
    let n := ch.toNat
    let r := c.reqOf n
    let sym := (symOf c.liveSyms r.handle).filter (fun y => y.kind == 2)
    c.runNow n 0x0305 (firstFail [r.lenIs 0, (r.noTick, rBadParam), (sym.isSome, rHandleUnknown)])
      (fun c =>
        match sym with
        | some y =>
          let g := (c.cell (c.physOf y.owner)).gain y.loc
          c.done n (leBytes 4 g.cur.toNat ++ leBytes 4 g.tgt.toNat ++ leBytes 4 g.floor.toNat ++ leBytes 2 g.tmo.toNat ++ leBytes 2 g.tmoCnt.toNat)
        | none => c))

/-! ## Tail streams -/

def execTailBind (ch : BitVec 4) (s : State) : Host.Outcome State Fault Refusal :=
  s.act (fun c =>
    let r := c.reqOf ch.toNat
    c.runTick ch.toNat 0x0306 (c.chkTailBind (c.due (c.effTick r)) (c.tailsFit ch.toNat r) r))

def execTailUnbind (ch : BitVec 4) (s : State) : Host.Outcome State Fault Refusal :=
  s.act (fun c =>
    let r := c.reqOf ch.toNat
    c.runTick ch.toNat 0x0307 (c.chkTailUnbind (c.due (c.effTick r)) r))

/-- Moves one tile of a stream: DRAM to ring, verified, or ring to DRAM (R250, R252); `bad` when its read from DRAM is
disturbed. -/
def Chip.tailMove (c : Chip) (region : Nat) (t : Tail) (bad : Bool) (j : Nat) : Chip :=
  let ring := 16384 * region + t.ringTile j
  let dram := t.dramTile j
  if t.write then
    let bad := c.mem.fails .region ring
    let mk := bad || marked (c.mem.entry .region ring)
    let c1 := if bad then c.tileCheck 3 0 region (t.ringTile j) else c
    { c1 with mem := c1.mem.putTile .dram dram (c1.mem.tile .region ring) mk }
  else
    let x := c.engineReadDram dram bad
    { x.1 with mem := x.1.mem.putTile .region ring x.2.1 x.2.2 }

/-- The tiles of group g. -/
def Tail.groupTiles (t : Tail) (g : Nat) : List Nat := (List.range t.tiles).map (fun i => g * t.tiles + i)

/-- TAIL_PERIOD: the next period of a stream begins (R250): a read group two periods old is complete in its ring, and a
write group one period old goes to DRAM. Streams make no moves in suspended ticks. -/
def execTailPeriod (region : BitVec 2) (turn : TailTurn) (s : State) : Host.Outcome State Fault Refusal :=
  s.act (fun c =>
    let k := 64 * region.toNat + turn.stream.toNat
    match c.tail k with
    | some t =>
      if t.ticks < 32 * t.periods || !c.traversed then c
      else
        let q := t.periods
        let lag := if t.write then 1 else 2
        let c1 := if q < lag then c else (t.groupTiles (q - lag)).zipIdx.foldl
          (fun c e => c.tailMove region.toNat t (turn.bad.any (fun b => b.toNat == e.2)) e.1) c
        c1.setTail k (some { t with periods := q + 1 })
    | none => c)

/-- TAIL_GROUP_LATE: a group misses its deadline (R252): the tiles of a read group from `first` on enter the ring with the
mark, and a write group is in DRAM with the mark. -/
def execTailGroupLate (region : BitVec 2) (stream : BitVec 6) (first : Half) (s : State) : Host.Outcome State Fault Refusal :=
  s.act (fun c =>
    let r := region.toNat
    let k := 64 * r + stream.toNat
    match c.tail k with
    | some t =>
      let lag := if t.write then 4 else 3
      if t.periods < lag then c
      else
        let js := (t.groupTiles (t.periods - lag)).drop (if t.write then 0 else first.toNat)
        let c1 := js.foldl (fun c j =>
          if t.write then
            (let d := t.dramTile j
             { c with mem := c.mem.putTile .dram d (c.mem.tile .dram d) true })
          else
            (let x := c.freeTile
             { x.2 with mem := x.2.mem.putTile .region (16384 * r + t.ringTile j) x.1 true })) c
        let c2 := (((c1.bump Reg.ENG_TAIL_LATE).setFld Reg.ENG_TAIL_LATE 23 16 k).setBit Reg.ENG_TAIL_LATE 24 t.write).event
          Reg.ENG_PARAM_EVENT 2 17 (decide (1 ≤ c1.level 2))
        c2.late 2 (if t.write then 2 else 1) (0xFF00 + k)
    | none => c)

end Sys2Proof.Machine
end

