-- ==== Sys2Proof/Machine/Update.lean ====
section
/-! DEFINITION. Firmware images and slots, the update and field book opcodes, and the executive swap (R532 to R544). -/
namespace Sys2Proof.Machine
open Sys2Proof

/-! ## The QSPI NOR (R532) -/

/-- What a byte of the NOR reads as before anything programs it (log entry 15). -/
def nor0 : Nat → Byte := fun _ => 0xFF

/-- `n` bytes of the NOR. -/
def Chip.nor (c : Chip) (a n : Nat) : List Byte := (List.range n).map (fun i => Map.get nor0 c.sys.qspi (a + i))

/-- Programs bytes of the NOR. -/
def norWrite (m : Map Byte) (a : Nat) : List Byte → Map Byte
  | [] => m
  | b :: r => norWrite (Map.put nor0 m a b) (a + 1) r

/-- The first byte of a firmware slot: 0 A, 1 B. -/
def fwBase (slot : Nat) : Nat := 0x100000 + 0x200000 * slot

/-- Erases a slot: its bytes read as nothing had programmed them. -/
def norErase (m : Map Byte) (slot : Nat) : Map Byte :=
  m.filter (fun e => !(decide (fwBase slot ≤ e.1) && decide (e.1 < fwBase slot + 0x200000)))

/-! ## Images (R533, R534) -/

/-- The header of the image in a slot. -/
def Chip.fwHeader (c : Chip) (slot : Nat) : List Byte := c.nor (fwBase slot) 256

/-- EXEC_VERSION and SVN of the image in a slot. -/
def Chip.fwVersion (c : Chip) (slot : Nat) : List Byte := bytesFrom (c.fwHeader slot) 12 4
def Chip.fwSvn (c : Chip) (slot : Nat) : Nat := leField (c.fwHeader slot) 20 1

/-- The fields of a header hold the values of R533. -/
def fwHeaderOk (h : List Byte) : Bool :=
  let len := leField h 8 4
  leField h 0 4 == 0x57465A43 && leField h 4 2 == 1 && leField h 6 2 == 256 && leField h 16 2 == 0x0200 && leField h 18 1 == 0xB1 &&
  len % 256 == 0 && within len 256 786432 && decide (leField h 24 1 ≤ 1) &&
  zeroBytes h 19 1 && zeroBytes h 21 3 && zeroBytes h 25 7 && zeroBytes h 160 96

/-- The firmware pointer record (R535): ACTIVE, TRY and MIN_SVN. An invalid one reads as A, none and 0 (R524). -/
structure FwPtr where
  active : Nat
  try_ : Option Nat
  minSvn : Nat
deriving DecidableEq, Repr

/-- The place of the pointer record and of the key slots (R530). -/
def fbPtr : Nat := 0x100
def fbKeys : Nat := 0x140

def Chip.fwPtr (c : Chip) : FwPtr :=
  let b := c.fb fbPtr 64
  let t := leField b 7 1
  if crcGood b && leField b 0 4 == 0x54535746 && leField b 4 2 == 1 && decide (leField b 6 1 ≤ 1) && (decide (t ≤ 1) || t == 255) then
    { active := leField b 6 1, try_ := if t = 255 then none else some t, minSvn := leField b 8 1 }
  else { active := 0, try_ := none, minSvn := 0 }

/-- The bytes of a pointer record. -/
def FwPtr.bytes (p : FwPtr) : List Byte :=
  withCrc (leBytes 4 0x54535746 ++ leBytes 2 1 ++ leBytes 1 p.active ++ leBytes 1 (p.try_.getD 255) ++ leBytes 1 p.minSvn) 64

/-- The result code of a slot (R534); `bad` says that a QSPI read does not complete. -/
def Chip.fwResult (c : Chip) (slot : Nat) (bad : Bool) : Nat :=
  let h := c.fwHeader slot
  let body := c.nor (fwBase slot + 256) (leField h 8 4)
  if bad then 5
  else if !fwHeaderOk h then 2
  else if sha512 body ≠ bytesFrom h 32 64 ∨
      edVerify (leBytes 32 (Config.romKey (leField h 24 1)).toNat) (h.take 96) (bytesFrom h 96 64) = false then 3
  else if leField h 20 1 < c.fwPtr.minSvn then 4
  else 1

/-- The reason of a result code (R544). -/
def fwReason (k : Nat) : Nat := if k = 1 then rOK else if k = 3 ∨ k = 4 then rSignature else rCheckFail

/-! ## What runs -/

/-- SLOT and TRIAL of GCTL_BOOT. -/
def Chip.runSlot (c : Chip) : Nat := c.regFld Reg.GCTL_BOOT 25 25
def Chip.trial (c : Chip) : Bool := c.regBit Reg.GCTL_BOOT 26

/-- The operations of R539 in progress on another channel than `ch`. -/
def Chip.swapBusy (c : Chip) (ch : Nat) : Bool :=
  let ops := [0x0201, 0x0403, 0x0707, 0x0205, 0x0903, 0x0609, 0x0112]
  c.cmd.chans.any (fun e => e.1 != ch && e.2.st == .taken && e.2.work != .answered &&
    (ops.contains (parseReq e.2.req).op || (parseReq e.2.req).op / 256 == 0x0B)) ||
  c.eng.change.isSome || c.graph.retire.isSome || c.pair.resync.isSome

/-! ## FW_WRITE and FW_VERIFY -/

def Chip.chkFwWrite (c : Chip) (r : Req) : Nat :=
  let a := r.p 8 8
  let n := r.p 16 4
  firstFail [r.lenIs 24,
    (r.noTick && r.noHandle && decide (r.p 0 1 ≤ 1) && r.z 1 7 && a % 256 == 0 && n % 256 == 0 &&
      within n 256 2097152 && r.z 20 4, rBadParam),
    (!c.trial && !c.swapBars r, rBadState), (decide (a + n ≤ c.dramUsable), rBadParam), (r.p 0 1 != c.runSlot, rSlotActive)]

/-- The slot is erased and programmed. On a failure it is left invalid: how much of the data stands behind a first word
that is still erased is a free value. -/
def Chip.fwProgram (c : Chip) (ch : Nat) (r : Req) (bad : Bool) : Chip :=
  let slot := r.p 0 1
  let x := c.dramRead (r.p 8 8) (r.p 16 4)
  let erased := norErase x.1.sys.qspi slot
  if bad || x.2.2 then
    let f := x.1.free
    let b := (x.2.1.drop 4).take (f.1.toNat % (r.p 16 4))
    ({ f.2 with sys := { f.2.sys with qspi := norWrite erased (fwBase slot + 4) b } }).refuse ch rCheckFail
  else ({ x.1 with sys := { x.1.sys with qspi := norWrite erased (fwBase slot) x.2.1 } }).done ch []

def execFwWrite (ch : BitVec 4) (bad : Bool) (s : State) : Host.Outcome State Fault Refusal :=
  s.act (fun c =>
    let r := c.reqOf ch.toNat
    c.runNow ch.toNat 0x0B10 (c.chkFwWrite r) (fun c => c.fwProgram ch.toNat r bad))

/-- The payload of FW_VERIFY, given with SIGNATURE and CHECK_FAIL too. -/
def Chip.fwPayload (c : Chip) (slot k : Nat) : List Byte :=
  let h := c.fwHeader slot
  leBytes 1 k ++ bytesFrom h 20 1 ++ bytesFrom h 24 1 ++ [0] ++ bytesFrom h 12 4 ++ bytesFrom h 8 4 ++ leBytes 4 0

/-- The checks of an opcode that names a slot in byte 0 of four. -/
def Chip.chkSlot (c : Chip) (r : Req) (ok : Bool) : Nat :=
  firstFail [r.lenIs 4, (r.noTick && r.noHandle && decide (r.p 0 1 ≤ 1) && ok, rBadParam), (!c.swapBars r, rBadState)]

def execFwVerify (ch : BitVec 4) (bad : Bool) (s : State) : Host.Outcome State Fault Refusal :=
  s.act (fun c =>
    let r := c.reqOf ch.toNat
    c.runNow ch.toNat 0x0B11 (c.chkSlot r (r.z 1 3)) (fun c =>
      let k := c.fwResult (r.p 0 1) bad
      c.answer ch.toNat (fwReason k) (if k = 1 then c.eng.tick else noTick) (c.fwPayload (r.p 0 1) k)))

/-! ## EXEC_SWAP (R537 to R539) -/

/-- The checks of an EXEC_SWAP: the slot is read and verified before its acceptance. -/
def Chip.chkSwap (c : Chip) (ch : Nat) (r : Req) (bad : Bool) : Nat :=
  let k := fwReason (c.fwResult (r.p 0 1) bad)
  let x := c.tickReason r (r.len == 4) (r.noHandle && decide (r.p 0 1 ≤ 1) && r.z 1 3) (!c.swapBusy ch) true
    [(r.p 0 1 != c.runSlot, rBadParam), (k != rSignature, rSignature)]
  if x ≠ rOK then x else k

def execExecSwap (ch : BitVec 4) (bad : Bool) (s : State) : Host.Outcome State Fault Refusal :=
  s.act (fun c => c.runTick ch.toNat 0x0B12 (c.chkSwap ch.toNat (c.reqOf ch.toNat) bad))

/-- HELD returns to 0 on every channel (R270). -/
def Chip.unhold (c : Chip) : Chip :=
  (List.range 8).foldl (fun c k => c.cmdEvent k 3) { c with cmd := { c.cmd with held := false }, sys := { c.sys with swap := none } }

/-- The new executive runs: GCTL_BOOT takes its SLOT, TRIAL and RUN_SVN, and the command is answered. -/
def Chip.swapDone (c : Chip) (slot ch : Nat) : Chip :=
  let c1 := c.modReg Reg.GCTL_BOOT (fun x =>
    putFld (putFld (putFld x 25 25 slot) 26 26 (ofFlag (slot != c.fwPtr.active))) 7 0 (c.fwSvn slot))
  let c2 := ({ c1 with sys := { c1.sys with bank := !c1.sys.bank } }).unhold
  c2.answer ch rOK (BitVec.ofNat 64 (c.chan ch).effTick) (c.fwVersion slot)

def execExecHandover (taken : Bool) (s : State) : Host.Outcome State Fault Refusal :=
  s.act (fun c =>
    match c.sys.swap with
    | some (slot, ch) =>
      if c.cmd.held then (if taken then c.swapDone slot ch else c)
      else if c.atBoundary && !c.atFadeEnd && decide ((c.chan ch).effTick ≤ c.tickN) && !taken then
        { c with cmd := { c.cmd with held := true, sched := c.cmd.sched.filter (fun e => e.op != 0x0B12) } }
      else c
    | none => c)

def execHandoverTimeout (s : State) : Host.Outcome State Fault Refusal :=
  s.act (fun c =>
    match c.sys.swap with
    | some (_, ch) => if c.cmd.held then c.unhold.refuse ch rCheckFail else c
    | none => c)

/-! ## FW_SLOT_SET, FB_WRITE and KEY_SET -/

def Chip.chkSlotSet (c : Chip) (r : Req) (bad : Bool) : Nat :=
  let m := r.p 1 1
  let k := c.chkSlot r (decide (m ≤ 1) && decide (r.p 2 1 ≤ 1) && (m == 0 || r.p 2 1 == 0) && r.z 3 1)
  if k ≠ rOK then k
  else firstFail [(m == 0 || r.p 0 1 != c.runSlot, rSlotActive), (c.fwResult (r.p 0 1) bad == 1, rSignature)]

/-- The pointer record after a FW_SLOT_SET. -/
def Chip.ptrAfter (c : Chip) (r : Req) : FwPtr :=
  let p := c.fwPtr
  let s := r.p 0 1
  if r.p 1 1 = 0 then { active := s, try_ := none, minSvn := if r.p 2 1 = 1 then max p.minSvn (c.fwSvn s) else p.minSvn }
  else { p with try_ := some s }

def Chip.slotSet (c : Chip) (ch : Nat) (r : Req) (rec : Bool) : Chip :=
  let w := c.fbWrite fbPtr (c.ptrAfter r).bytes (if rec then some 0 else none)
  if w.2 then
    ((if r.p 1 1 = 0 ∧ r.p 0 1 = c.runSlot then w.1.setBit Reg.GCTL_BOOT 26 false else w.1).done ch [])
  else w.1.refuse ch rCheckFail

def execFwSlotSet (ch : BitVec 4) (bad rec : Bool) (s : State) : Host.Outcome State Fault Refusal :=
  s.act (fun c =>
    let r := c.reqOf ch.toNat
    c.runNow ch.toNat 0x0B13 (c.chkSlotSet r bad) (fun c => c.slotSet ch.toNat r rec))

def Chip.chkFbWrite (c : Chip) (r : Req) : Nat :=
  let a := r.p 0 4
  let n := r.p 4 2
  let e := a + 64 * n
  firstFail [(r.len == 16 + 64 * n, rBadLength),
    (r.noTick && r.noHandle && a % 64 == 0 && within n 1 15 && r.z 6 10 &&
      ((decide (0x380 ≤ a) && decide (e ≤ 0x4C0)) || (decide (0x20000 ≤ a) && decide (e ≤ 0x40000))), rBadParam),
    (!c.swapBars r, rBadState)]

/-- Writes records and answers with the outcome. -/
def Chip.writeAnswer (c : Chip) (ch off : Nat) (b : List Byte) (bad : Option Nat) : Chip :=
  let w := c.fbWrite off b bad
  if w.2 then w.1.done ch [] else w.1.refuse ch rCheckFail

def execFbWrite (ch : BitVec 4) (bad : Option Byte) (s : State) : Host.Outcome State Fault Refusal :=
  s.act (fun c =>
    let r := c.reqOf ch.toNat
    c.runNow ch.toNat 0x0B20 (c.chkFbWrite r) (fun c =>
      c.writeAnswer ch.toNat (r.p 0 4) (bytesFrom r.par 16 (64 * r.p 4 2)) (bad.map BitVec.toNat)))

/-- The public key in a slot, and an empty slot (R283). -/
def Chip.keySlot (c : Chip) (k : Nat) : List Byte := c.fb (fbKeys + 32 * k) 32
def Chip.keyEmpty (c : Chip) (k : Nat) : Bool := (c.keySlot k).all (· == 0)

/-- The record that holds a key slot, with the slot's key replaced. -/
def Chip.keyRecord (c : Chip) (k : Nat) (key : List Byte) : List Byte :=
  if k % 2 = 0 then key ++ c.keySlot (k + 1) else c.keySlot (k - 1) ++ key

def Chip.chkKeySet (c : Chip) (r : Req) : Nat :=
  let k := r.p 0 1
  let empties := r.z 4 32
  let last := (List.range 4).all (fun i => i == k || c.keyEmpty i)
  firstFail [r.lenIs 36, (r.noTick && r.noHandle && decide (k < 4) && r.z 1 3, rBadParam),
    (!(empties && ((c.cmd.session.isOpen && c.cmd.session.slot == k) || last)) && !c.swapBars r, rBadState)]

def execKeySet (ch : BitVec 4) (bad : Bool) (s : State) : Host.Outcome State Fault Refusal :=
  s.act (fun c =>
    let r := c.reqOf ch.toNat
    let k := r.p 0 1
    c.runNow ch.toNat 0x0B21 (c.chkKeySet r) (fun c =>
      c.writeAnswer ch.toNat (fbKeys + 64 * (k / 2)) (c.keyRecord k (bytesFrom r.par 4 32)) (if bad then some 0 else none)))

end Sys2Proof.Machine
end

