-- ==== Sys2Proof/Machine/CmdLife.lean ====
section
/-! DEFINITION. The life of a channel and of a command: ring, abort, take, acceptance, response and cancel (R261 to R282, R299,
R300). -/
namespace Sys2Proof.Machine
open Sys2Proof

/-! ## The host's side (R261 to R272) -/

/-- A channel register of a host access: the channel answers. -/
def Chip.chUp (c : Chip) (ch : Nat) : Bool := c.pfUp (chPf1 ch)

/-- A write that has no effect (R266). -/
def Chip.ignored (c : Chip) (ch : Nat) : Chip := c.bump (Reg.CMD_IGNORED ch)

/-- RING = 1 (R264, R266). -/
def Chip.ring (c : Chip) (ch : Nat) : Chip :=
  if !c.chUp ch then c
  else if c.chanBusy ch then c.ignored ch
  else
    let c1 := c.modChan ch (fun k => { k with st := .ringing, limit := c.regFld (Reg.CMD_TIMEOUT ch) 13 0 })
    { c1 with cmd := { c1.cmd with rings := c1.cmd.rings ++ [ch] } }

def execCmdRing (ch : BitVec 3) (s : State) : Host.Outcome State Fault Refusal := s.act (fun c => c.ring ch.toNat)

/-- A channel leaves the RINGING ones. -/
def Chip.unring (c : Chip) (ch : Nat) : Chip :=
  { c with cmd := { c.cmd with rings := c.cmd.rings.filter (fun k => k != ch) } }

/-- ABORT = 1 (R266, R268). -/
def Chip.abort (c : Chip) (ch : Nat) : Chip :=
  if !c.chUp ch then c
  else if (c.chan ch).st = .ringing then
    let r := parseReq (c.reqBytes ch 32)
    ((((c.unring ch).writeRsp ch r { reason := rTimeout, applied := noTick, payload := [] }).clearReq ch).setBit
      (Reg.CMD_TIMEOUT ch) 31 false)
  else c.ignored ch

def execCmdAbort (ch : BitVec 3) (s : State) : Host.Outcome State Fault Refusal := s.act (fun c => c.abort ch.toNat)

def execCmdIgnoredWrite (ch : BitVec 3) (kind : BitVec 2) (s : State) : Host.Outcome State Fault Refusal :=
  s.act (fun c =>
    let n := ch.toNat
    let hit := if kind.toNat ≤ 1 then c.chanBusy n else if kind.toNat = 2 then (c.chan n).st != .ringing else true
    if c.chUp n && hit then c.ignored n else c)

/-- LIMIT_US is running out on a RINGING channel (R267, R270). -/
def Chip.takeTimeout (c : Chip) (ch : Nat) : Chip :=
  if (c.chan ch).st = .ringing ∧ c.regBit (Reg.CMD_TIMEOUT ch) 31 = false ∧ c.cmd.held = false then
    let a := Reg.CMD_TMO_CNT (chPf1 ch)
    let c1 := ((c.setBit (Reg.CMD_TIMEOUT ch) 31 true).cmdEvent ch 2)
    let c2 := (c1.bump a).setFld a 18 16 ch
    c2.raise .mbxTimeout blkCMD (c2.reg a)
  else c

def execCmdTakeTimeout (ch : BitVec 3) (s : State) : Host.Outcome State Fault Refusal :=
  s.act (fun c => c.takeTimeout ch.toNat)

/-- A write of CMD_TIMEOUT. -/
def Chip.limitWrite (c : Chip) (ch : Nat) (v : Word) : Chip :=
  if c.chUp ch && within (fld v 13 0) 20 10000 then c.setFld (Reg.CMD_TIMEOUT ch) 13 0 (fld v 13 0) else c

def execCmdTimeoutWrite (ch : BitVec 3) (v : Word) (s : State) : Host.Outcome State Fault Refusal :=
  s.act (fun c => c.limitWrite ch.toNat v)

/-- The session ends (R287), and DBG_EN with it (R543). -/
def Chip.endSession (c : Chip) : Chip :=
  ({ c with cmd := { c.cmd with session := { c.cmd.session with isOpen := false, slot := 0 } } }).setBit Reg.GCTL_DEBUG 0 false

/-- The registers of a channel return to their reset values; a TAKEN command goes on without a response (R269). -/
def Chip.chanReset (c : Chip) (ch : Nat) : Chip :=
  let k := c.chan ch
  let zero (a : Nat) (c : Chip) : Chip := c.setReg a (regReset a)
  let c1 := (c.clearReq ch).putWords (Reg.CMD_RSP ch) 0 (List.replicate 256 0)
  let c2 := zero (Reg.CMD_ACK ch) (zero (Reg.CMD_TIMEOUT ch) (zero (Reg.CMD_EVENT ch) (zero (Reg.CMD_INT_EN ch) (zero (Reg.CMD_IGNORED ch) c1))))
  (c2.unring ch).setChan ch (if k.st = .taken then { k with orphan := true, lastSeq := 0, limit := 0 } else Chan.reset)

/-- A function level reset or a hot reset (R269, R287). -/
def Chip.flr (c : Chip) (pf1 : Bool) : Chip :=
  let c1 := (List.range 4).foldl (fun c i => c.chanReset (if pf1 then 4 + i else i)) c
  if pf1 then c1.endSession else c1

def execFunctionLevelReset (pf1 : Bool) (s : State) : Host.Outcome State Fault Refusal :=
  s.act (fun c => if c.pfUp pf1 then c.flr pf1 else c)

/-! ## The take (R265, R271, R277, R279) -/

/-- The header checks in their order (R279). `b` is the request as copied. -/
def Chip.headerReason (c : Chip) (ch : Nat) (b : List Byte) : Nat :=
  let r := parseReq b
  firstFail [(decide (r.len ≤ 992), rBadLength),
    (!r.hasCrc || leField b 24 4 == (crc32c (noCrcField (b.take (32 + r.len)))).toNat, rCheckFail),
    (decide (r.flags < 8) && zeroBytes b 20 4 && zeroBytes b 28 4, rBadParam),
    ((opRow r.op).isSome, rUnknownOpcode),
    ((chPf1 ch || !(r.noMirror || (opRow r.op).any (fun o => o.secure))) &&
      (!chPf1 ch || c.cmd.session.isOpen || r.op == 0x0B01 || r.op == 0x0B02), rNotSecure)]

/-- The executive takes commands. -/
def Chip.execRuns (c : Chip) : Bool := c.sys.execReady && c.sys.execAlive && !c.cmd.held

/-- The request that rang first is taken. -/
def Chip.take (c : Chip) : Chip :=
  match c.cmd.rings with
  | ch :: _ =>
    if !c.execRuns then c
    else
      let len := (parseReq (c.reqBytes ch 32)).len
      let b := c.reqBytes ch (32 + min len 992)
      let r := parseReq b
      let k := c.headerReason ch b
      let ack : Word := BitVec.ofNat 32 (r.seq * 65536 + k)
      let c1 := ((((c.unring ch).clearReq ch).setReg (Reg.CMD_ACK ch) ack).setBit (Reg.CMD_TIMEOUT ch) 31 false).cmdEvent ch 0
      if k ≠ rOK then c1.writeRsp ch r { reason := k, applied := noTick, payload := [] }
      else
        let c2 := c1.modChan ch (fun x => { x with st := .taken, req := b, work := .fresh, rsp := none, orphan := false, effTick := 0 })
        if opTicks r.op then { c2 with cmd := { c2.cmd with takes := c2.cmd.takes ++ [ch] } } else c2
  | [] => c

def execCmdTake (s : State) : Host.Outcome State Fault Refusal := s.act (fun c => c.take)

/-! ## The response -/

/-- What a response that is written brings with it: a session opens or ends (R284, R287). -/
def Chip.afterRsp (c : Chip) (r : Req) (x : Resp) : Chip :=
  if x.reason ≠ rOK then c
  else if r.op = 0x0B03 then c.endSession
  else if r.op = 0x0B02 then { c with cmd := { c.cmd with session := { c.cmd.session with isOpen := true, slot := r.p 0 1 } } }
  else c

/-- The response of a channel is written; that of a command of the partner's goes to the partner, and one that FLR left
behind nowhere (R263, R269, R452). -/
def Chip.respond (c : Chip) (ch : Nat) : Chip :=
  let k := c.chan ch
  match k.rsp with
  | some x =>
    if k.st != .taken || !c.execRuns then c
    else if 8 ≤ ch then
      { (c.freeChan ch) with pair := { c.pair with results := c.pair.results ++ [(ch, x.reason, x.applied.toNat, x.payload)] } }
    else if k.orphan then (c.freeChan ch).afterRsp (parseReq k.req) x
    else (c.writeRsp ch (parseReq k.req) x).afterRsp (parseReq k.req) x
  | none => c

def execCmdResponse (ch : BitVec 4) (s : State) : Host.Outcome State Fault Refusal := s.act (fun c => c.respond ch.toNat)

/-! ## Checks at acceptance -/

/-- The checks of PAIR_HANDOVER (R468): H is its effect tick, and with AT_TICK clear the earliest that it may be. -/
def Chip.handoverTick (c : Chip) (r : Req) : Nat := if r.hasTick && r.atTick != 0 then r.atTick else c.firstBoundary + 3

def Chip.chkHandover (c : Chip) (r : Req) : Nat :=
  let st := c.pairState
  let b := c.pair.beat
  let settled := if c.pair.owner then (match b with
    | some x => x.settled
    | none => 0) else c.graph.settled
  let stage := if c.pair.owner then (match b with
    | some x => x.stage
    | none => 0) else c.pwr.stage
  firstFail [(r.len == 0, rBadLength), (r.noHandle, rBadParam),
    (st != 2 && c.pair.releaseAt.isNone && c.phaseWithin 8 && !c.rateBlocks r, rBadState), (st == 3, rPartnerAbsent),
    (settled == 15, rNotSettled), (decide (stage < 2), rShedActive), (!c.tooFar r, rBadParam),
    (decide (c.firstBoundary + 3 ≤ c.handoverTick r), rLate), (decide (c.cmd.sched.length < 256), rNoResource)]

/-- SYS_NOP: any parameters (R299). -/
def Chip.chkNop (c : Chip) (r : Req) : Nat := c.tickReason r true r.noHandle true true []

/-- The first reason that refuses a command which takes effect at a tick. -/
def Chip.checkOf (c : Chip) (ch : Nat) (r : Req) : Nat :=
  match r.op / 256 with
  | 1 => if r.op = 0x0101 then c.chkNop r else if r.op = 0x0110 then c.chkSuspend (c.due (c.effTick r)) r
    else if r.op = 0x0111 then c.chkResume r else c.chkSetRate (c.due (c.effTick r)) r
  | 2 => if r.op = 0x0202 then c.chkCommit (c.due (c.effTick r)) r else c.chkRetire r
  | 3 => if r.op = 0x0301 then c.chkParamWrite r else if r.op = 0x0303 then c.chkGainSet r else if r.op = 0x0304 then c.chkGainCfg r
    else if r.op = 0x0306 then c.chkTailBind (c.due (c.effTick r)) (c.tailsFit ch r) r else c.chkTailUnbind (c.due (c.effTick r)) r
  | 4 => if r.op = 0x0401 then c.chkStakeSet r else c.chkStakeLoad r
  | 5 => if r.op = 0x0501 then c.chkPortCfg r else if r.op = 0x0502 then c.chkPortEnable r else if r.op = 0x0503 then c.chkPortDisable r
    else if r.op = 0x0504 then c.chkPortSlots r else if r.op = 0x0505 then c.chkStartArm r else if r.op = 0x0506 then c.chkStart r
    else if r.op = 0x0508 then c.chkAesCfg r else c.chkMadiCfg r
  | 6 => if r.op = 0x0601 then c.chkMacCfg r else if r.op = 0x0602 then c.chkMacEnable r else if r.op = 0x0603 then c.chkGroupFilter r
    else if r.op = 0x0604 then c.chkStreamRxCfg r else if r.op = 0x0605 then c.chkStreamTxCfg r else if r.op = 0x0606 then c.chkStreamEnable r
    else if r.op = 0x0607 then c.chkStreamDisable r else c.chkPtpCfg r
  | 7 => if r.op = 0x0701 then c.chkRefCfg r else if r.op = 0x0702 then c.chkRefEnable r else if r.op = 0x0703 then c.chkDatumCfg r
    else if r.op = 0x0704 then c.chkFreqAdj r else c.chkStep r
  | 8 => if r.op = 0x0801 then c.chkDriveCfg r else if r.op = 0x0802 then c.chkDriveProtect r else if r.op = 0x0803 then c.chkDriveEnable r
    else if r.op = 0x0804 then c.chkDriveDisable r else c.chkDriveClear r
  | 9 => c.chkHandover r
  | _ => c.chkSwap ch r false

/-! ## Acceptance (R63 to R66, R278, R281) -/

/-- A request with its effect tick fixed. -/
def Req.fixed (r : Req) (t : Nat) : Req := { r with flags := r.flags ||| 1, atTick := t }

/-- The opcodes whose response waits for their effect tick or for later (R67). -/
def waitOps : List Nat := [0x0101, 0x0112, 0x0205, 0x0902, 0x0B12]

/-- The payload of a response written at acceptance. -/
def Chip.acceptPayload (c : Chip) (r : Req) : List Byte :=
  if r.op = 0x0202 then leBytes 8 (r.atTick + r.p 0 4)
  else if r.op = 0x0506 then leBytes 8 r.atTick
  else if r.op = 0x0705 then c.stepPayload r
  else if r.op = 0x0803 then c.drivePayload r
  else []

/-- What acceptance itself changes: the bank is scheduled, a start pulse is due, a release or a swap is requested (R203,
R371, R465, R539). -/
def Chip.acceptStage (c : Chip) (ch : Nat) (r : Req) : Chip :=
  if r.op = 0x0202 then (match c.graph.bank with
    | .loaded g => c.setBank (.scheduled g)
    | _ => c)
  else if r.op = 0x0506 then
    (if (c.due r.atTick).regBit Reg.SAP_START_CFG 29 then { c with sap := { c.sap with pulse := some r.atTick } } else c)
  else if r.op = 0x0902 then { c with pair := { c.pair with releaseAt := some r.atTick, takeAck := false, handover := some ch } }
  else if r.op = 0x0B12 then { c with sys := { c.sys with swap := some (r.p 0 1, ch) } }
  else c

/-- The command of a channel is accepted with effect tick `t` (R66): it is scheduled, and answered unless its response
waits. A copy of the partner's command is not answered. -/
def Chip.acceptAt (c : Chip) (ch : Nat) (b : List Byte) (t : Nat) (remote : Bool) : Chip :=
  let r := (parseReq b).fixed t
  let waits := waitOps.contains r.op && !remote
  let e : Sched :=
    { ch := ch, op := r.op, seq := r.seq, tick := t, req := b, syms := (c.cmdSyms r).getD [],
      table := if r.op = 0x0404 then c.stakeStaged r else [], waits := waits, noMirror := r.noMirror, remote := remote }
  let pay := c.acceptPayload r
  let c1 := c.acceptStage ch r
  let c2 := { c1 with cmd := { c1.cmd with sched := c1.cmd.sched ++ [e] } }
  if remote then c2
  else if waits then (c2.modChan ch (fun k => { k with work := .accepted, effTick := t })).unqueue ch
  else c2.answer ch rOK (BitVec.ofNat 64 t) pay

/-- COMMAND_ACCEPT (R63, R278, R281): the command at the head of those taken is checked again as things stand, and
accepted, mirrored, forwarded or refused. -/
def Chip.acceptCmd (c : Chip) (ch : Nat) : Chip :=
  let k := c.chan ch
  let r := parseReq k.req
  if !(k.st == .taken && k.work == .checked && opTicks r.op && c.sys.execReady && c.sys.execAlive && c.cmd.takes.head? == some ch) then c
  else
    let reason := c.checkOf ch r
    if reason ≠ rOK then c.refuse ch reason
    else if r.op = 0x0902 then
      (if c.pair.owner then c.acceptAt ch k.req (c.handoverTick r) false else (c.sendForward ch).unqueue ch)
    else
      match c.route r with
      | .alone => (c.gapFor r).acceptAt ch k.req (c.effTick r) false
      | .mirror => (if r.hasTick && r.atTick != 0 then c else { c with nfree := c.nfree + 1 }).sendCopy ch (c.effTick r)
      | .forward => c.sendForward ch
      | .refused => c.refuse ch rPairRefused

def execCommandAccept (ch : BitVec 4) (s : State) : Host.Outcome State Fault Refusal := s.act (fun c => c.acceptCmd ch.toNat)

/-! ## SYS opcodes (R299, R300) -/

def execSysNop (ch : BitVec 4) (s : State) : Host.Outcome State Fault Refusal :=
  s.act (fun c => c.runTick ch.toNat 0x0101 (c.chkNop (c.reqOf ch.toNat)))

/-- The payload of SYS_INFO. -/
def Chip.sysInfo (c : Chip) : List Byte :=
  c.reg4 Reg.GCTL_ID ++ c.fwVersion c.runSlot ++ c.fb 0 8 ++ leBytes 1 c.runSlot ++ leBytes 1 (ofFlag c.pairId) ++
  leBytes 1 (ofFlag c.cmd.session.isOpen) ++ [0] ++ leBytes 4 (c.sys.uptime / 1000) ++ leBytes 8 c.tickN ++ leBytes 8 c.imageId.toNat ++
  leBytes 24 0

/-- No parameters and AT_TICK clear. -/
def Req.plain (r : Req) : Nat := firstFail [r.lenIs 0, (r.noTick && r.noHandle, rBadParam)]

def execSysInfo (ch : BitVec 4) (s : State) : Host.Outcome State Fault Refusal :=
  s.act (fun c => c.runNow ch.toNat 0x0102 (c.reqOf ch.toNat).plain (fun c => c.done ch.toNat c.sysInfo))

def execSysTime (ch : BitVec 4) (s : State) : Host.Outcome State Fault Refusal :=
  s.act (fun c =>
    let r := c.reqOf ch.toNat
    c.runNow ch.toNat 0x0103 (firstFail [r.lenIs 0, (r.noTick && r.noHandle, rBadParam), (c.eng.rate.isSome, rBadState)])
      (fun c => c.modChan ch.toNat (fun k => { k with work := .accepted, effTick := c.firstBoundary })))

/-- An entry of SYS_SCHED's list. -/
def Sched.bytes (s : Sched) : List Byte :=
  leBytes 2 s.op ++ leBytes 1 (s.ch % 8) ++ [0] ++ leBytes 2 s.seq ++ leBytes 2 0 ++ leBytes 8 s.tick

/-- The payload of SYS_SCHED for a channel, or for all with 0xFF. -/
def Chip.schedList (c : Chip) (k : Nat) : List Byte :=
  let l := (sortSched c.cmd.sched).filter (fun e => k == 255 || e.ch % 8 == k)
  let m := l.take 61
  leBytes 2 l.length ++ leBytes 2 m.length ++ m.flatMap Sched.bytes

def execSysSched (ch : BitVec 4) (s : State) : Host.Outcome State Fault Refusal :=
  s.act (fun c =>
    let r := c.reqOf ch.toNat
    let k := r.p 0 1
    c.runNow ch.toNat 0x0104
      (firstFail [r.lenIs 4, (r.noTick && r.noHandle && (decide (k < 8) || k == 255) && r.z 1 3, rBadParam)])
      (fun c => c.done ch.toNat (c.schedList k)))

/-- The commands a SYS_CANCEL names. -/
def Chip.cancelSet (c : Chip) (r : Req) : List Sched :=
  c.cmd.sched.filter (fun e => e.ch % 8 == r.p 0 1 && e.seq == r.p 2 2 && e.tick == r.p 4 8)

/-- A command that was mirrored. -/
def Sched.mirrored (e : Sched) : Bool := opMirrored e.op && !e.noMirror

/-- The cancel is mirrored: a command that it names was (R300). -/
def Chip.cancelMirrors (c : Chip) (r : Req) : Bool := (c.cancelSet r).any (fun e => e.mirrored)

/-- A cancel that did not stand is undone: the entries that were `gone` return to their places among those that stood
`before`, if their tick has not begun, with what their acceptance had changed (R300, R453). -/
def Chip.uncancel (c : Chip) (before gone : List Sched) : Chip :=
  let back := gone.filter (fun e => decide (c.tickN < e.tick))
  let l := before.filter (fun e => c.cmd.sched.contains e || back.contains e) ++ c.cmd.sched.filter (fun e => !before.contains e)
  back.foldl (fun c e => c.acceptStage e.ch ((parseReq e.req).fixed e.tick)) { c with cmd := { c.cmd with sched := l } }

/-- The route of a cancel (R281, R300). -/
def Chip.cancelRoute (c : Chip) (r : Req) : Route :=
  if !c.cancelMirrors r || !c.pairEn || r.noMirror then .alone
  else if c.pair.owner then (if c.synced then .mirror else .alone)
  else if c.synced then .forward
  else .refused

/-- Commands are cancelled: a bank returns to the loaded state, and a channel whose response waits is answered (R300). -/
def Chip.cancelled (c : Chip) (l : List Sched) : Chip :=
  let c1 := l.foldl (fun c e => c.discard e) c
  { c1 with cmd := { c1.cmd with sched := c1.cmd.sched.filter (fun e => !l.contains e) } }

/-- The cancel is carried out and answered. -/
def Chip.cancelNow (c : Chip) (ch : Nat) (r : Req) : Chip := (c.cancelled (c.cancelSet r)).done ch (leBytes 2 (c.cancelSet r).length)

def Chip.chkCancel (c : Chip) (ch : Nat) (r : Req) : Nat :=
  firstFail [r.lenIs 12, (r.noTick && r.noHandle && decide (r.p 0 1 < 8) && r.z 1 1, rBadParam),
    (chPf1 ch || decide (r.p 0 1 < 4), rNotSecure), (!(c.cancelMirrors r && c.pair.resync.isSome), rBadState),
    (!(c.cancelSet r).isEmpty, rBadParam), (decide (c.firstBoundary ≤ r.p 4 8), rLate)]

def execSysCancel (ch : BitVec 4) (s : State) : Host.Outcome State Fault Refusal :=
  s.act (fun c =>
    let n := ch.toNat
    let r := c.reqOf n
    let k := c.chan n
    if k.st == .taken && k.work == .checked && r.op == 0x0105 then
      (if c.firstBoundary ≤ r.p 4 8 then c.cancelNow n r else c.refuse n rLate)
    else
      c.runNow n 0x0105 (c.chkCancel n r) (fun c =>
        match c.cancelRoute r with
        | .alone => (if c.cancelMirrors r && c.pairEn then c.setGap else c).cancelNow n r
        | .mirror => c.sendCopy n 0
        | .forward => c.sendForward n
        | .refused => c.refuse n rPairRefused))

end Sys2Proof.Machine
end

