-- ==== Sys2Proof/Machine/Mailbox.lean ====
section
/-! DEFINITION. The secure session (R283 to R288, R302) and the inner mailboxes (R289 to R293). -/
namespace Sys2Proof.Machine
open Sys2Proof

/-! ## The session -/

/-- Sets the session. -/
def Chip.setSession (c : Chip) (x : Session) : Chip := { c with cmd := { c.cmd with session := x } }

/-- A challenge: a nonce from the random source, which is a free value, the chip identifier and ENG_TICK. -/
def Chip.challenge (c : Chip) : List Byte × Chip :=
  let r := (List.range 8).foldl (fun (a : List Byte × Chip) _ =>
    let f := a.2.free
    (a.1 ++ leBytes 4 f.1.toNat, f.2)) (([] : List Byte), c)
  (r.1 ++ c.fb 0 8 ++ leBytes 8 c.tickN, r.2)

def execAuthChallenge (ch : BitVec 4) (s : State) : Host.Outcome State Fault Refusal :=
  s.act (fun c =>
    let r := c.reqOf ch.toNat
    c.runNow ch.toNat 0x0B01
      (firstFail [r.lenIs 0, (r.noTick && r.noHandle, rBadParam), (!c.cmd.session.lockout && !c.swapBars r, rBadState)])
      (fun c =>
        let x := c.challenge
        (x.2.setSession { x.2.cmd.session with challenge := some x.1 }).done ch.toNat x.1))

/-- The checks of AUTH_RESPONSE before the signature (R302). -/
def Chip.chkAuth (c : Chip) (r : Req) : Nat :=
  firstFail [r.lenIs 68, (r.noTick && r.noHandle && decide (r.p 0 1 < 4) && r.z 1 3, rBadParam),
    (c.cmd.session.challenge.isSome && !c.swapBars r, rBadState), (!c.keyEmpty (r.p 0 1), rBadParam)]

/-- The signature is checked, which uses the challenge up (R284 to R286). -/
def Chip.authCheck (c : Chip) (ch : Nat) (r : Req) : Chip :=
  let x := c.cmd.session
  if edVerify (c.keySlot (r.p 0 1)) (x.challenge.getD []) (bytesFrom r.par 4 64) then
    (c.setSession { x with challenge := none, fails := 0 }).done ch []
  else
    (c.setSession { x with challenge := none, fails := min 255 (x.fails + 1), lockout := x.lockout || decide (3 ≤ x.fails) }).refuse ch
      rCheckFail

def execAuthResponse (ch : BitVec 4) (s : State) : Host.Outcome State Fault Refusal :=
  s.act (fun c =>
    let r := c.reqOf ch.toNat
    c.runNow ch.toNat 0x0B02 (c.chkAuth r) (fun c => c.authCheck ch.toNat r))

def execAuthClose (ch : BitVec 4) (s : State) : Host.Outcome State Fault Refusal :=
  s.act (fun c =>
    let r := c.reqOf ch.toNat
    c.runNow ch.toNat 0x0B03
      (firstFail [r.lenIs 0, (r.noTick && r.noHandle, rBadParam), (c.cmd.session.isOpen && !c.swapBars r, rBadState)])
      (fun c => c.done ch.toNat []))

def execChallengeExpiry (s : State) : Host.Outcome State Fault Refusal :=
  s.act (fun c => c.setSession { c.cmd.session with challenge := none })

def execAuthLockoutEnd (s : State) : Host.Outcome State Fault Refusal :=
  s.act (fun c => c.setSession { c.cmd.session with lockout := false })

/-! ## Doorbells -/

/-- The number of a receiver among the bells: regions 0 to 3, then the 32 clusters. -/
def bellKey (cluster : Bool) (unit : Nat) : Nat := if cluster then 4 + unit else unit % 4

def bell0 : Nat → Word := fun _ => 0

def Chip.bells (c : Chip) (k : Nat) : Word := Map.get bell0 c.cmd.bells k
def Chip.bellMask (c : Chip) (k : Nat) : Word := Map.get bell0 c.cmd.bellMasks k
def Chip.bellFlag (c : Chip) (k : Nat) : Word := Map.get bell0 c.cmd.bellFlags k

/-- The timeout flags to the senders of a receiver's doorbell bits. -/
def Chip.setFlags (c : Chip) (k : Nat) (v : Word) : Chip :=
  { c with cmd := { c.cmd with bellFlags := Map.put bell0 c.cmd.bellFlags k v } }

/-- The doorbell bits and the mask register of a receiver take a value. DESIGN CHOICE (log entry 51): a timeout flag
stands while its bit is pending, so it falls with a take and with a mask bit. -/
def Chip.setBells (c : Chip) (k : Nat) (v m : Word) : Chip :=
  ({ c with cmd := { c.cmd with bells := Map.put bell0 c.cmd.bells k v, bellMasks := Map.put bell0 c.cmd.bellMasks k m } }).setFlags k
    (c.bellFlag k &&& v &&& ~~~m)

/-- DOORBELL_RING: the bit is set, also after a take of it in the same clock. -/
def execDoorbellRing (cluster : Bool) (unit bit : BitVec 5) (taken : Bool) (s : State) : Host.Outcome State Fault Refusal :=
  s.act (fun c =>
    let k := bellKey cluster unit.toNat
    let c := if taken then c.setBells k (putBit (c.bells k) bit.toNat false) (c.bellMask k) else c
    c.setBells k (putBit (c.bells k) bit.toNat true) (c.bellMask k))

/-- DOORBELL_TAKE: the receiver's access to its doorbell and mask registers. -/
def execDoorbellTake (cluster : Bool) (unit : BitVec 5) (access : BellAccess) (s : State) :
    Host.Outcome State Fault Refusal :=
  s.act (fun c =>
    let k := bellKey cluster unit.toNat
    match access with
    | .take b => c.setBells k (putBit (c.bells k) b.toNat false) (c.bellMask k)
    | .mask m => c.setBells k (c.bells k) m)

/-- MBX_TIMEOUT at region level: kind 0 a region's doorbell, 1 a cluster's, 2 a wake event (R291, R293). -/
def Chip.mbxCount (c : Chip) (kind region cluster index : Nat) : Chip :=
  let w : Word := putFld (putFld (putFld (putFld (putFld 0 31 30 kind) 27 16 c.tickN) 15 14 region) 13 11 cluster) 10 6 index
  let c1 := ((c.bump Reg.ENG_MBX_CNT).setReg Reg.ENG_MBX_LAST w).event Reg.ENG_MBX_EVENT 0 17 (decide (1 ≤ c.level 8))
  c1.raise .mbxTimeout blkENG w

/-- The command that needed the work is refused before its acceptance (R282). -/
def Chip.workFailed (c : Chip) (ch : Nat) : Chip :=
  let k := c.chan ch
  if k.st == .taken && (k.work == .fresh || k.work == .checked) then c.refuse ch rTimeout else c

def execDoorbellTimeout (cluster : Bool) (unit bit : BitVec 5) (ch : Option (BitVec 4)) (s : State) : Host.Outcome State Fault Refusal :=
  s.act (fun c =>
    let u := unit.toNat
    let k := bellKey cluster u
    let b := bit.toNat
    if (c.bells k).getLsbD b && !(c.bellMask k).getLsbD b && !(c.bellFlag k).getLsbD b then
      let c := c.setFlags k (putBit (c.bellFlag k) b true)
      let c1 := if cluster then c.mbxCount 1 (u / 8) (u % 8) bit.toNat else c.mbxCount 0 (u % 4) 0 bit.toNat
      match ch with
      | some n => c1.workFailed n.toNat
      | none => c1
    else c)

end Sys2Proof.Machine
end

