-- ==== Sys2Proof/Machine/Pair.lean ====
section
/-! DEFINITION. The rows of the Povin link, the warden, the mirror and the resynchronisation (R443 to R469, R531). -/
namespace Sys2Proof.Machine
open Sys2Proof

/-! ## The link (R443 to R451) -/

/-- The state without heartbeats (R451). -/
def Chip.aloneState (c : Chip) : Nat := if c.pair.ownIn then 4 else 1

/-- FLT_FAULTN.PAIR_ID follows the pair (R463, R508). -/
def Chip.pairClash (c : Chip) (b : Bool) : Chip := (c.setBit Reg.FLT_FAULTN 1 b).faultN

def Chip.linkUp (c : Chip) (gctlId : Word) (chipId : DWord) (pairId : Bool) : Chip :=
  if !(c.pairEn && c.sys.up) then c
  else
    let same := pairId == c.pairId
    let bad := same || gctlId != c.reg Reg.GCTL_ID
    let at_ := if bad then none else c.pair.takeAt
    let p := { c.pair with linkUp := true, incompat := bad, sameId := same, partnerId := chipId, takeAt := at_ }
    let c1 := ({ c with pair := p }).setReg Reg.PAIR_PARTNER_ID gctlId
    (if bad then c1.setPairState 5 else if c1.pairState = 5 then c1.setPairState c1.aloneState else c1).pairClash same

def execPovinLinkUp (gctlId : Word) (chipId : DWord) (pairId : Bool) (s : State) : Host.Outcome State Fault Refusal :=
  s.act (fun c => c.linkUp gctlId chipId pairId)

def Chip.linkDown (c : Chip) : Chip :=
  if !(c.pairEn && c.pair.linkUp) then c
  else
    let c1 := { c with pair := { c.pair with linkUp := false, incompat := false, sameId := false } }
    (c1.setPairState c1.aloneState).pairClash false

def execPovinLinkDown (s : State) : Host.Outcome State Fault Refusal := s.act (fun c => c.linkDown)

def execPovinFrameError (coding : Bool) (s : State) : Host.Outcome State Fault Refusal :=
  s.act (fun c => if c.pair.linkUp then c.linkErr (ofFlag coding) else c)

def Chip.frameIn (c : Chip) (frame : List Byte) (arrival : Word) (drive : List Word) : Chip :=
  if !(c.pairEn && c.pair.linkUp && !c.pair.incompat) then c
  else
    match readBeat frame with
    | some b => c.takeBeat b arrival drive
    | none => c.linkErr 0

def execHeartbeatReceived (frame : List Byte) (arrival : Word) (drive : List Word) (s : State) : Host.Outcome State Fault Refusal :=
  s.act (fun c => c.frameIn frame arrival drive)

/-! ## The warden (R448, R459 to R465) -/

def execOwnPoint (left : Bool) (s : State) : Host.Outcome State Fault Refusal :=
  s.act (fun c => if c.pairEn && c.eng.ticking then { c with pair := { c.pair with left := left } } else c)

def execPartnerPoint (ownIn : Bool) (s : State) : Host.Outcome State Fault Refusal :=
  s.act (fun c => if c.pairEn && c.eng.ticking then c.partnerPoint ownIn else c)

def execTakeover (s : State) : Host.Outcome State Fault Refusal :=
  s.act (fun c => if c.atBoundary then c.takeover else c)

def execOwnershipRelease (s : State) : Host.Outcome State Fault Refusal :=
  s.act (fun c => if c.mustRelease then c.release else c)

def execPlannedRelease (s : State) : Host.Outcome State Fault Refusal :=
  s.act (fun c => if c.atBoundary && !c.atFadeEnd then c.plannedRelease else c)

/-! ## The mirror (R452, R453) -/

/-- An answer leaves for the partner: results under their channel, acknowledgements under 16 plus it. -/
def Chip.sendAnswer (c : Chip) (k reason tick : Nat) : Chip :=
  { c with pair := { c.pair with results := c.pair.results ++ [(k, reason, tick, [])] } }

/-- How the acknowledgement of the owner's channel `ch` is undone. -/
def Chip.setUndo (c : Chip) (ch : Nat) (u : Option Undo) : Chip :=
  { c with pair := { c.pair with undo := c.pair.undo.filter (fun e => e.1 != ch) ++ (u.map (fun x => (ch, x))).toList } }

/-- A mirrored opcode that acts at its acceptance, carried out on the standby; its channel here is `k`. Its reason, how it is
undone, its payload and the chip. -/
def Chip.copyNow (c : Chip) (k : Nat) (r : Req) : Nat × Undo × List Byte × Chip :=
  if r.op = 0x0203 then
    (let x := c.chkGraphDiscard r
     (x, .bank c.graph.bank, [], if x = rOK then c.setBank .empty else c))
  else if r.op = 0x0403 then
    (let d := c.saveStakes 16 (r.p 0 1) none
     let p := (d.chan 16).rsp
     ((p.map (fun p => p.reason)).getD rOK, .book c.sys.fieldBook, (p.map (fun p => p.payload)).getD [], d.setChan 16 Chan.reset))
  else
    (let x := c.chkCancel k r
     let l := (c.cancelSet r).filter (fun e => e.mirrored)
     (x, .cancel c.cmd.sched l, leBytes 2 l.length, if x = rOK then c.cancelled l else c))

/-- A copy arrives at the standby: it is checked, and scheduled, carried out or loaded, and answered. -/
def Chip.copyIn (c : Chip) (ch : Nat) (packet : List Byte) (tick : Nat) : Chip :=
  let k := ch ^^^ 8
  let r := parseReq packet
  if !c.execLive then c
  else if c.pair.owner || !c.synced then c.sendAnswer (16 + ch) rPairRefused 0
  else
    let mark (t : Nat) (pay : List Byte) (c : Chip) : Chip := if k < 8 then
        ({ c with pair := { c.pair with forwards := c.pair.forwards.map (fun (m : Mirrored) =>
            if m.ch = k then { m with acked := true, tick := t, pay := pay } else m) } }).unqueue k
      else c
    if opTicks r.op then
      (let x := c.checkOf k (r.fixed tick)
       let d := c.acceptAt k packet tick true
       if x = rOK then ((mark tick (c.acceptPayload (r.fixed tick)) d).setUndo ch (d.cmd.sched.getLast?.map .entry)).sendAnswer (16 + ch) rOK tick
       else (c.setUndo ch none).sendAnswer (16 + ch) x tick)
    else if r.op = 0x0201 then
      (let x := c.chkGraphLoad r
       if x = rOK then (mark c.tickN [] (c.setBank (.loading (16 + ch) (r.p 0 8) (r.p 8 4)))).setUndo ch none
       else (c.setUndo ch none).sendAnswer (16 + ch) x 0)
    else
      (let x := c.copyNow k r
       if x.1 = rOK then ((mark c.tickN x.2.2.1 x.2.2.2).setUndo ch (some x.2.1)).sendAnswer (16 + ch) rOK c.tickN
       else (x.2.2.2.setUndo ch none).sendAnswer (16 + ch) x.1 0)

def execMirrorCopyReceived (ch : BitVec 4) (packet : List Byte) (tick : DWord) (s : State) : Host.Outcome State Fault Refusal :=
  s.act (fun c => c.copyIn ch.toNat packet tick.toNat)

/-- The copy of a channel is no longer outstanding. -/
def Chip.dropCopy (c : Chip) (ch : Nat) : Chip :=
  { c with pair := { c.pair with copies := c.pair.copies.filter (fun (m : Mirrored) => m.ch != ch) } }

/-- The standby has answered: the owner accepts the command, goes on with it, or refuses it. What its checks compare with the
chip is compared again at the acceptance (R63, R66, R239, R372). -/
def Chip.ackIn (c : Chip) (ch reason : Nat) : Chip :=
  let k := c.chan ch
  let r := parseReq k.req
  if !(c.execLive && k.st == .taken && k.work == .mirrored && c.pair.copies.any (fun m => m.ch == ch)) then c
  else
    let c1 := c.dropCopy ch
    if reason ≠ rOK then (if r.op = 0x0201 then c1.setBank .empty else c1).refuse ch rPairRefused
    else if opTicks r.op then
      (if k.effTick < c.firstBoundary then c1.refuse ch (if r.hasTick && r.atTick != 0 then rLate else rPairRefused)
       else
         let x := c.checkOf ch (r.fixed k.effTick)
         if x = rOK then c1.acceptAt ch k.req k.effTick false else c1.refuse ch x)
    else if r.op = 0x0201 then c1.done ch (leBytes 8 c1.graph.bank.imageId.toNat)
    else c1.modChan ch (fun x => { x with work := .checked })

def execMirrorAckReceived (ch : BitVec 4) (reason : Half) (s : State) : Host.Outcome State Fault Refusal :=
  s.act (fun c => c.ackIn ch.toNat reason.toNat)

/-- What this chip acknowledged last for the owner's channel `ch` is undone (R452, R453). -/
def Chip.withdraw (c : Chip) (ch : Nat) : Chip :=
  let c1 := c.setUndo ch none
  let u : Option Undo := (c.pair.undo.find? (fun e => e.1 == ch)).map (fun e => e.2)
  match u with
  | some (.entry e) => if c.cmd.sched.contains e then (c1.unsched e).discard e else c1
  | some (.cancel before gone) => c1.uncancel before gone
  | some (.bank b) => c1.setBank b
  | some (.book m) => { c1 with sys := { c1.sys with fieldBook := m } }
  | none => c1

/-- No answer within the limit (R453). -/
def Chip.ackTimeout (c : Chip) (ch : Nat) (late : Bool) : Chip :=
  if c.pair.owner then
    let k := c.chan ch
    if !late && k.st == .taken && k.work == .mirrored then
      let c1 := ((c.dropCopy ch).linkErr 2).setPairState 2
      (if (parseReq k.req).op = 0x0201 then c1.setBank .empty else c1).refuse ch rPairRefused
    else c
  else
    let k := ch ^^^ 8
    let c1 := c.withdraw ch
    let c2 := match c1.graph.bank with
      | .loading n _ _ => if n = 16 + ch then c1.setBank .empty else c1
      | _ => c1
    let c3 := { c2 with pair := { c2.pair with forwards := c2.pair.forwards.map (fun (m : Mirrored) => if m.ch = k then { m with acked := false } else m) } }
    if late || !c3.synced then c3 else c3.setPairState 2

def execMirrorAckTimeout (ch : BitVec 4) (late : Bool) (s : State) : Host.Outcome State Fault Refusal :=
  s.act (fun c => c.ackTimeout ch.toNat late)

/-- A command of the standby's arrives at the owner, which handles it as one of its own (R281, R452). -/
def Chip.forwardIn (c : Chip) (ch : Nat) (packet : List Byte) : Chip :=
  let k := 8 + ch
  let op := (parseReq packet).op
  if !c.pair.owner then c.sendAnswer k (refusedCode op) 0
  else if (c.chan k).st = .taken then c
  else
    let c1 := c.setChan k { Chan.reset with st := .taken, req := packet }
    if opTicks op then { c1 with cmd := { c1.cmd with takes := c1.cmd.takes ++ [k] } } else c1

def execMirrorForwardReceived (ch : BitVec 3) (packet : List Byte) (s : State) : Host.Outcome State Fault Refusal :=
  s.act (fun c => c.forwardIn ch.toNat packet)

/-- The owner's result answers a forwarded command. A code that R303 does not list is no result. -/
def Chip.resultIn (c : Chip) (ch reason : Nat) (applied : DWord) (payload : List Byte) : Chip :=
  let k := c.chan ch
  if !reasonCodes.contains reason then c
  else
  let c1 := { c with pair := { c.pair with forwards := c.pair.forwards.filter (fun m => m.ch != ch) } }
  if k.st == .taken && k.work == .forwarded then c1.answer ch reason applied payload else c1

def execForwardResultReceived (ch : BitVec 3) (reason : Half) (applied : DWord) (payload : List Byte) (s : State) :
    Host.Outcome State Fault Refusal :=
  s.act (fun c => c.resultIn ch.toNat reason.toNat applied payload)

/-! ## Bulk frames and the resynchronisation (R454, R466) -/

/-- The alignment begins: the ramp and the stop of a SET_RATE, with the number that the first tick takes. -/
def Chip.alignTo (c : Chip) (code tick : Nat) : Chip :=
  match Rate.ofCode code, c.eng.change with
  | some x, none =>
    let k : RateChange := { t := c.tickN + 1, rate := x, ch := 16, stopped := false, oldRate := c.eng.rate, align := some tick }
    { c with eng := { c.eng with change := some k } }
  | _, _ => c

/-- An item that stays until the commit. -/
def Chip.keepBulk (c : Chip) (x : BulkItem) : Chip :=
  { c with pair := { c.pair with bulk := c.pair.bulk ++ [x], bulkAt := c.tickN, resync := if c.pair.resync.isSome then c.pair.resync else some { ch := none } } }

def Chip.bulkIn (c : Chip) (x : BulkItem) : Chip :=
  if c.pair.owner || !c.pair.linkUp then c
  else
    match x with
    | .image a b => c.dramWrite a.toNat b
    | .align rate tick =>
      let c1 := c.alignTo rate.toNat tick.toNat
      { c1 with pair := { c1.pair with resync := some { ch := none } } }
    | _ => c.keepBulk x

def execBulkFrameReceived (item : BulkItem) (s : State) : Host.Outcome State Fault Refusal := s.act (fun c => c.bulkIn item)

/-- A dither state advanced by ticks. -/
def ditherSteps : Nat → DWord → DWord
  | 0, x => x
  | n + 1, x => ditherSteps n (ditherStep x)

/-- What an item of the copy sets at C_r. -/
def Chip.applyBulk (c : Chip) (x : BulkItem) : Chip :=
  match x with
  | .graph b => (c.goLive (readGraph b) 0).setBank c.graph.bank
  | .tile m t b mark =>
    let n := t.toNat
    if m = 0 then c.portWrite (n / 128) { back := false, addr := 256 * (n % 128), bytes := b, whole := some mark }
    else if m = 1 then c.portWrite (n / 512) { back := true, addr := 256 * (n % 512), bytes := b, whole := some mark }
    else { c with mem := c.mem.putTile .region n b mark }
  | .symbol h ws => (match symOf c.liveSyms h.toNat with
    | some s => if s.kind = 2 then c else c.paramPut s 0 ws
    | none => c)
  | .gain h tgt fl up dn tmo => (match symOf c.liveSyms h.toNat with
    | some s => c.modGain s.owner s.loc (fun g =>
        { g with cur := tgt, tgt := tgt, floor := fl, stepUp := up, stepDn := dn, tmo := tmo, tmoCnt := tmo })
    | none => c)
  | .stake es =>
    let put (t : Map Half) (e : Half × Half) : Map Half := match stakeIdx e.1.toNat with
      | some k => Map.put stake0 t k e.2
      | none => t
    { c with graph := { c.graph with stake := es.foldl put c.graph.stake } }
  | .reg a v => c.setReg a.toNat v
  | .drvCfg m b => c.setDrvMod m.toNat { c.drvMod m.toNat with cfg := b }
  | .media v => { c with dtm := { c.dtm with mediaNext := some v } }
  | .tail id desc origin =>
    (let r : Req := { op := 0, len := 0, seq := 0, flags := 0, atTick := 0, handle := 0, par := leBytes 8 1 ++ desc }
     let e := r.tailEntry 0
     let n := c.tickN - origin.toNat
     c.setTail (64 * (e.1 / 64) + id.toNat) (some { e.2 with ticks := n, periods := n / 32 }))
  | .dither ep st tick => c.modOut ep.toNat (fun o => { o with dither := ditherSteps (c.tickN - tick.toNat) st })
  | .image _ _ => c
  | .align _ _ => c

/-- The graph comes first, and everything else over it. -/
def isGraphItem : BulkItem → Bool
  | .graph _ => true
  | _ => false

/-- The node record (R531). -/
def fbNode : Nat := 0x1C0
def Chip.nodeRecord (c : Chip) : List Byte :=
  withCrc (leBytes 4 0x45444F4E ++ leBytes 2 1 ++ leBytes 2 0 ++ leBytes 8 c.pair.partnerId.toNat ++ leBytes 8 c.imageId.toNat) 64

/-- The return to SYNCED on either chip: MIRROR_GAP clears, and the node record is written (R466, R531). -/
def Chip.resyncEnd (c : Chip) (bad : Bool) : Chip :=
  let c1 := ({ c with pair := { c.pair with resync := none, resynced := true, bulk := [] } }).setBit Reg.PAIR_STAT 21 false
  ((c1.setPairState 3).fbWrite fbNode c1.nodeRecord (if bad then some 0 else none)).1

/-- C_r (R466). -/
def Chip.resyncCommit (c : Chip) (bad : Bool) : Chip :=
  match c.pair.resync with
  | none => c
  | some x =>
    if !c.atBoundary then c
    else
      match x.ch with
      | some n =>
        let settle := match c.graph.live with
          | some g => g.settle
          | none => 0
        (c.resyncEnd bad).done n (leBytes 8 (c.tickN + settle))
      | none =>
        if c.tickN < c.pair.bulkAt + 2 || c.eng.change.isSome then c else
        let l := c.pair.bulk.filter isGraphItem ++ c.pair.bulk.filter (fun i => !isGraphItem i)
        (l.foldl (fun c i => c.applyBulk i) c).resyncEnd bad

def execResyncCommit (bad : Bool) (s : State) : Host.Outcome State Fault Refusal := s.act (fun c => c.resyncCommit bad)

/-! ## PAIR opcodes (R468) -/

/-- PAIR_STAT as it reads. -/
def Chip.pairStat (c : Chip) : Word :=
  let f (i : Nat) : Bool := match c.pair.beat with
    | some b => b.flag i
    | none => false
  let settled := match c.pair.beat with
    | some b => b.settled
    | none => 0
  let bit (x : Word) (e : Nat × Bool) : Word := putBit x e.1 e.2
  putFld ([(27, c.pair.owner), (26, c.eligible), (25, f 1), (24, c.pair.ownIn), (23, c.pair.owner), (22, c.pair.linkUp),
    (20, c.pair.resync.isSome), (19, c.pair.releaseAt.isSome), (18, c.sys.execAlive), (17, f 2), (16, c.pair.diverged)].foldl bit
      (c.reg Reg.PAIR_STAT)) 15 12 settled

def Chip.pairPayload (c : Chip) : List Byte :=
  let num (f : Beat → Nat) : Nat := match c.pair.beat with
    | some b => f b
    | none => 0
  leBytes 4 c.pairStat.toNat ++ c.reg4 Reg.PAIR_PHASE ++ c.reg4 Reg.PAIR_PARTNER_ID ++ leBytes 8 c.pair.partnerId.toNat ++
  leBytes 8 (num (fun b => b.tick.toNat)) ++ leBytes 8 c.imageId.toNat ++ leBytes 8 (num (fun b => b.image.toNat)) ++
  leBytes 8 (c.pair.releaseAt.getD 0) ++ leBytes 2 (c.regFld Reg.PAIR_HB_CNT 15 0) ++ leBytes 2 (c.regFld Reg.PAIR_DIV_CNT 15 0) ++
  leBytes 2 (c.regFld Reg.PAIR_TAKE_CNT 15 0) ++ leBytes 1 (num (fun b => b.flags)) ++ leBytes 1 (num (fun b => b.engine)) ++ leBytes 4 0

def execPairStatus (ch : BitVec 4) (s : State) : Host.Outcome State Fault Refusal :=
  s.act (fun c => c.runNow ch.toNat 0x0901 (c.reqOf ch.toNat).plain (fun c => c.done ch.toNat c.pairPayload))

def execPairHandover (ch : BitVec 4) (s : State) : Host.Outcome State Fault Refusal :=
  s.act (fun c => c.runTick ch.toNat 0x0902 (c.chkHandover (c.reqOf ch.toNat)))

def Chip.chkResync (c : Chip) (r : Req) : Nat :=
  let loading := match c.graph.bank with
    | .loading _ _ _ => true
    | _ => false
  let rate := c.eng.change.isSome || c.cmd.sched.any (fun e => e.op == 0x0112)
  let retire := c.graph.retire.isSome || c.cmd.sched.any (fun e => e.op == 0x0205)
  let st := c.pairState
  firstFail [r.lenIs 0, (r.noTick && r.noHandle, rBadParam),
    (c.pair.owner && !loading && c.graph.fade.isNone && !retire && !rate && c.pair.resync.isNone && !c.swapBars r, rBadState),
    (st == 2 || st == 3, rPartnerAbsent)]

def execPairResync (ch : BitVec 4) (standby : Half) (s : State) : Host.Outcome State Fault Refusal :=
  s.act (fun c =>
    let n := ch.toNat
    c.runNow n 0x0903 (c.chkResync (c.reqOf n)) (fun c =>
      if standby ≠ 0 then c.answer n rBadState noTick (leBytes 2 standby.toNat)
      else ({ c with pair := { c.pair with resync := some { ch := some n } } }).modChan n (fun k => { k with work := .accepted })))

/-! ## The executive's liveness (R464, R505) -/

/-- The liveness bit is set; the traps that waited for the executive are recorded, the earliest first. -/
def Chip.liveness (c : Chip) : Chip :=
  if !c.sys.execStarted then c
  else
    let c1 := { c with
      sys := { c.sys with execAlive := true, liveMs := 0, uptime := c.sys.uptime + 1 }
      flt := { c.flt with waiting := [] } }
    c.flt.waiting.foldl (fun c t => c.logTrap t) c1

def execLivenessUpdate (s : State) : Host.Outcome State Fault Refusal := s.act (fun c => c.liveness)

/-- 3 ms without an update. -/
def Chip.wdogExpiry (c : Chip) : Chip :=
  if c.sys.execStarted && c.sys.execAlive then
    let c1 := ({ c with sys := { c.sys with execAlive := false, liveMs := 3 } }).bump Reg.FLT_WDOG_CNT
    c1.raise .execWdog blkWARDEN (c1.reg Reg.FLT_WDOG_CNT)
  else c

def execExecWdogExpiry (s : State) : Host.Outcome State Fault Refusal := s.act (fun c => c.wdogExpiry)

/-! ## The signatures' registers (R469) -/

/-- TAKE of PAIR_SIG_TAKE. -/
def Chip.sigTake (c : Chip) : Chip :=
  match c.pair.matched with
  | some (x, p) =>
    let c1 := (c.setReg Reg.PAIR_SIG_TICK_LO (x.tick.setWidth 32)).setReg Reg.PAIR_SIG_TICK_HI ((x.tick >>> 32).setWidth 32)
    (List.range 9).foldl (fun c i => (c.setReg (Reg.PAIR_SIG_OWN i) (x.sigs.getD i 0)).setReg (Reg.PAIR_SIG_PTR i) (p.getD i 0)) c1
  | none => c

def execPairSigTake (s : State) : Host.Outcome State Fault Refusal := s.act (fun c => if c.pfUp false then c.sigTake else c)

end Sys2Proof.Machine
end

