-- ==== Sys2Proof/Machine/Boot.lean ====
section
/-! DEFINITION. Resets, straps and the boot sequence (R521 to R527, R552, R554), the executive's start, and the test and
debug port (R540 to R543). -/
namespace Sys2Proof.Machine
open Sys2Proof

/-! ## The boot ROM (R524) -/

/-- Step 1: IDENT and CALIB; VCORE_NOM is 750 mV without a valid CALIB (R551). -/
def Chip.bootIdent (c : Chip) : Chip :=
  let okI := crcGood (c.fb 0 64)
  let okC := crcGood (c.fb 0x40 192)
  let nom := if okC then leNat (c.fb 0x40 2) else 750
  ((c.setBit Reg.GCTL_BOOT 24 okI).setBit Reg.GCTL_BOOT 23 okC).setFld Reg.PWR_VCORE 31 16 nom

/-- Step 2: the newer valid copy of the stake table, and BOOT_RATE (R227, R228). -/
def Chip.bootStakes (c : Chip) : Chip × Rate :=
  match c.stakeNewer with
  | some b => (c.loadStakes (stakeTable (c.stakeBytes b) b), (Rate.ofCode (leField (c.stakeBytes b) 12 1)).getD .r48)
  | none => (c, .r48)

/-- Step 3: the holdover model. -/
def Chip.bootModel (c : Chip) : Chip :=
  match Model.ofRecord (c.fb fbModel 64) with
  | some m => (({ c with dtm := { c.dtm with model := m } }).setBit Reg.DTM_STATE 5 m.valid).setBit Reg.GCTL_BOOT 21 true
  | none => c

/-- Classes dropped at a shed stage, by the first of them (R222). -/
def dropAt (stage : Nat) : Nat := if stage < 2 then 4 else if stage = 2 then 3 else 2

/-- Steps 4 and 5: the DATUM PLL in the family of BOOT_RATE with the model's correction, and ticks from ENG_TICK 0. -/
def Chip.bootTicks (c : Chip) (r : Rate) (clks : Nat) : Chip :=
  let c1 := (((c.setBit Reg.DTM_STATE 14 (!r.fam48)).evalCorr).timePass clks).setFld Reg.GCTL_BOOT 31 28 2
  ({ c1 with
    eng := { c1.eng with engine := .staked, rate := some r, ticking := true, tick := 0, phase := .entry }
    graph := { c1.graph with dropFrom := dropAt c1.pwr.stage }
    dtm := { c1.dtm with bound := c1.dtm.time } }).cellFreq

/-- The port boot block (R385, R530). -/
def Chip.bootBlock (c : Chip) : List Byte := c.fb 0x380 320
def bootBlockOk (b : List Byte) : Bool := leField b 0 4 == 0x54524F50 && leField b 4 2 == 1 && crcHeadGood b

/-- Step 6: the ports of a valid block are configured, and enabled at the first tick as R368 allows. -/
def Chip.bootPorts (c : Chip) : Chip :=
  let b := c.bootBlock
  if !bootBlockOk b then c
  else
    let bit (o i : Nat) : Bool := (leField b o 1).testBit i
    let tdm (c : Chip) (i : Nat) : Chip :=
      let e := bytesFrom b (16 + 16 * i) 16
      if tdmParamsOk e then
        let c1 := c.setReg (Reg.SAP_TDM_CFG i) (tdmCfgWord e)
        if (leField e 0 1).testBit 7 then c1.portEnable 0 i else c1
      else c
    let madi (c : Chip) (k o sh i : Nat) : Chip :=
      let c1 := c.modReg (portCfg k i) (fun x => putBit (putBit x 29 (bit o (4 + i))) 28 (bit 276 (sh + i)))
      if bit o i then c1.portEnable k i else c1
    let cs (c : Chip) (on : Bool) (k : Nat) : Chip := if on then c.putCs k [1] else c
    let c0 := (List.range 4).foldl (fun c i => cs c (bit 275 i) (8 + i))
      ((List.range 8).foldl (fun c i => cs c (bit 273 i) i) (c.setBit Reg.GCTL_BOOT 22 true))
    let c1 := (List.range 16).foldl tdm c0
    let c2 := (List.range 8).foldl (fun c i => if bit 272 i then c.portEnable 1 i else c) c1
    let c3 := (List.range 8).foldl (fun c i => if bit 273 i then c.portEnable 2 i else c) c2
    let c4 := (List.range 4).foldl (fun c i => madi c 3 274 0 i) c3
    (List.range 4).foldl (fun c i => madi c 4 275 4 i) c4

/-- A valid reference block names its references in order (R327). -/
def refBlockOk (b : List Byte) : Bool :=
  leField b 272 4 == 0x53464552 && leField b 276 2 == 1 && crcHeadGood b &&
  fbRefOrder.zipIdx.all (fun e => leField b (16 * e.2) 1 == e.1)

/-- The saved references of a rank above 0 are configured and enabled under R309, once the boot ports run. -/
def Chip.bootRefs (c : Chip) : Chip :=
  let b := c.fb fbRefs 320
  if !refBlockOk b then c
  else
    (fbRefOrder.zipIdx.foldl (fun c e =>
      let q : Req := { op := 0x0701, len := 16, seq := 0, flags := 0, atTick := 0, handle := 0, par := bytesFrom b (16 * e.2) 16 }
      if q.p 3 1 = 0 ∨ 8 ≤ q.p 3 1 then c else (c.putRefParams q).refEnable e.1) c).select

/-- The slots that the boot ROM tries, in order (R535). -/
def FwPtr.order (p : FwPtr) : List Nat :=
  match p.try_ with
  | some t => [t, p.active]
  | none => [p.active, 1 - p.active]

/-- Steps 7 to 9: the firmware pointer, the image and the executive. `badA` and `badB` say that a QSPI read of the slot
does not complete, and `rec` that the pointer record fails its read-back. -/
def Chip.bootImage (c : Chip) (badA badB rec : Bool) : Chip :=
  let p := c.fwPtr
  let c1 := if p.try_.isSome then (c.fbWrite fbPtr ({ p with try_ := none } : FwPtr).bytes (if rec then some 0 else none)).1 else c
  let res (s : Nat) : Nat := c.fwResult s (if s = 0 then badA else badB)
  let order := p.order
  let first := order.headD 0
  let tried := if res first = 1 then [first] else order
  let c2 := tried.foldl (fun c s => if s = 0 then c.setFld Reg.GCTL_BOOT 11 8 (res s) else c.setFld Reg.GCTL_BOOT 15 12 (res s)) c1
  match tried.find? (fun s => res s == 1) with
  | some s =>
    let c3 := c2.modReg Reg.GCTL_BOOT (fun x =>
      putFld (putFld (putFld (putFld (putFld x 31 28 4) 27 27 (ofFlag (p.try_.isNone && s != p.active))) 26 26
        (ofFlag (p.try_ == some s))) 25 25 s) 7 0 (c.fwSvn s))
    { c3 with sys := { c3.sys with execStarted := true, bank := false } }
  | none => c2.setFld Reg.GCTL_BOOT 31 28 6

/-- The boot sequence up to the start of the executive (R524): `clks` TIME clocks pass up to the first boundary. -/
def Chip.boot (c : Chip) (clks : Nat) (badA badB rec : Bool) : Chip :=
  let c1 := ((c.setFld Reg.GCTL_BOOT 31 28 1).pairStrap).bootIdent
  let s := c1.bootStakes
  let c2 := (((s.1.bootModel).bootTicks s.2 clks).bootPorts).bootRefs
  let c3 := if c2.pairEn then c2 else c2.setOwner true
  (c3.presentOuts false).bootImage badA badB rec

/-! ## Resets -/

/-- RESET_N falls (R522, R554). -/
def execResetNAssert (s : State) : Host.Outcome State Fault Refusal :=
  s.act (fun c => let c1 := c.chipReset
                  { c1 with sys := { c1.sys with resetN := false } }.faultN)

/-- The rising edge of RESET_N samples the straps, and FBRC and the windows of the XO monitor start afresh (R346, R348, R521). -/
def execResetNRelease (straps : BitVec 6) (s : State) : Host.Outcome State Fault Refusal :=
  s.act (fun c =>
    if c.sys.resetN then c
    else ({ c with sys := { c.sys with resetN := true, straps := straps.toNat &&& 0x37 }, clk := Clk.reset }).setReg Reg.CLK_STAT 0)

/-- PERST_N falls, and the channels of both functions are reset and the session ends (R269, R287, R522), or it rises again. -/
def execPerstNAssert (low : Bool) (s : State) : Host.Outcome State Fault Refusal :=
  s.act (fun c => let c1 := if low then (c.flr false).flr true else c
                  { c1 with sys := { c1.sys with perstN := !low } })

/-- A rail lies below its power-good threshold: a reset as at power-on (R552). -/
def execRailPowerFail (s : State) : Host.Outcome State Fault Refusal :=
  s.act (fun c =>
    { Chip.reset with
      sys := { Sys.reset with
        railsGood := false, resetN := c.sys.resetN, perstN := c.sys.perstN, tapTest := c.sys.tapTest, tapIr := c.sys.tapIr, tapBsr := c.sys.tapBsr, straps := c.sys.straps,
        fieldBook := c.sys.fieldBook, qspi := c.sys.qspi }
      pair := { Pair.reset with ownIn := c.pair.ownIn }
      nfree := c.nfree
      regs := [] })

/-- Every rail lies above its threshold: AON leaves its reset (R346, R552). -/
def execRailPowerGood (s : State) : Host.Outcome State Fault Refusal :=
  s.act (fun c =>
    if c.sys.railsGood then c
    else ({ c with sys := { c.sys with railsGood := true }, clk := Clk.reset }).setBit Reg.CLK_RESET_CAUSE 0 true)

/-! ## The executive -/

/-- EXEC_READY (R526): the executive has trained the DRAM and written every tile as zeros. `trained` is false where the
training fails, and `ranks` says that each channel has two ranks. -/
def Chip.execReadyNow (c : Chip) (trained ranks : Bool) : Chip :=
  if !c.sys.up || !c.sys.execStarted || c.sys.execReady || c.regFld Reg.GCTL_BOOT 31 28 != 4 then c
  else
    let slow := ofFlag c.eng.cell1000
    let st (k : Nat) : Word := putFld (putFld (putFld (putFld 0 7 7 (ofFlag ranks)) 6 6 slow) 5 5 slow) 2 0 k
    if !trained then c.setReg Reg.DDR_STAT (st 4)
    else
      let c1 := (c.setReg Reg.DDR_STAT (st 1)).setFld Reg.GCTL_BOOT 31 28 5
      ({ c1 with
        mem := { c1.mem with dram := [], dramChk := [] }
        sys := { c1.sys with execReady := true, execAlive := true, liveMs := 0, uptime := 0 } }).mediaFromTime

def execExecReady (trained ranks : Bool) (s : State) : Host.Outcome State Fault Refusal :=
  s.act (fun c => c.execReadyNow trained ranks)

/-- The restarted control cores are ready (R506). -/
def execExecRestartDone (s : State) : Host.Outcome State Fault Refusal :=
  s.act (fun c =>
    if c.sys.up && c.sys.execStarted && !c.sys.execReady && c.regFld Reg.GCTL_BOOT 31 28 == 5 then
      ({ c with sys := { c.sys with execReady := true, uptime := 0 } }).liveness
    else c)

/-! ## The test access port (R540 to R543) -/

/-- EXTEST, CLAMP and HIGHZ hold the chip in reset (R541). -/
def tapIsTest (i : TapIr) : Bool := i == .extest || i == .clamp || i == .highz

/-- The instruction register takes an instruction; SAMPLE/PRELOAD and EXTEST take the boundary-scan register with it (R540). -/
def Chip.tapLoad (c : Chip) (i : TapIr) (bsr : List Bool) : Chip :=
  { c with sys := { c.sys with tapIr := i, tapBsr := if i = .sample ∨ i = .extest then bsr else c.sys.tapBsr } }

/-- Test-Logic-Reset leaves IDCODE in the instruction register, as IEEE 1149.1 has it (PRESUMED, log entry 55). -/
def execTapTestMode (scan : TapScan) (s : State) : Host.Outcome State Fault Refusal :=
  s.act (fun c =>
    match scan.ir with
    | some i =>
      if tapIsTest i then
        let c1 := (c.tapLoad i scan.bsr).chipReset
        { c1 with sys := { c1.sys with tapTest := true } }.faultN
      else c.tapLoad i scan.bsr
    | none => { c with sys := { c.sys with tapTest := false, tapIr := .idcode } })

/-- KEY_LOAD writes a key only while all four slots are empty and SECURE_EN = 1 (R542). -/
def execKeyLoad (slot : BitVec 8) (key : BitVec 256) (s : State) : Host.Outcome State Fault Refusal :=
  s.act (fun c =>
    let k := slot.toNat
    if decide (k < 4) && c.secureEn && c.sys.railsGood && (List.range 4).all (fun i => c.keyEmpty i) then
      (c.fbWrite (fbKeys + 64 * (k / 2)) (c.keyRecord k (leBytes 32 key.toNat)) none).1
    else c)

/-- A host write of GCTL_DEBUG: a 1 takes effect during a session only (R543). -/
def Chip.debugWrite (c : Chip) (on : Bool) : Chip :=
  if on && !c.cmd.session.isOpen then c else c.setBit Reg.GCTL_DEBUG 0 on

def execDebugEnableWrite (on : Bool) (s : State) : Host.Outcome State Fault Refusal :=
  s.act (fun c => if c.pfUp false then c.debugWrite on else c)

/-- The PCIe link is lost: the session ends (R287). -/
def execPcieLinkLoss (s : State) : Host.Outcome State Fault Refusal := s.act (fun c => c.endSession)

end Sys2Proof.Machine
end

