-- ==== Sys2Proof/Machine/Arbiter.lean ====
section
/-! DEFINITION. Arbitration: the region memory ports (R21, R171, R172), the ports of the bus matrix (R482) and the requests that the
DRAM controller holds (R472 to R474). DESIGN CHOICE (log entry 57): a port makes its grants when a command says that one of
them has completed, in the order of its ranks, up to the one the command names. -/
namespace Sys2Proof.Machine
open Sys2Proof

/-- Round robin: the first number above the one served last, or else the lowest. -/
def nextAfter (last : Option Nat) (l : List Nat) : Option Nat :=
  match last with
  | none => l.min?
  | some k =>
    match (l.filter (fun n => decide (k < n))).min? with
    | some n => some n
    | none => l.min?

/-! ## Region memory ports -/

def portQ0 : Nat → PortQ := fun _ => PortQ.reset
def last0 : Nat → Option Nat := fun _ => none

/-- The grants that a requester has waited through. -/
def PortQ.waited (q : PortQ) (a : Asker) : Nat := ((q.waits.find? (fun e => e.1 == a)).map (fun e => e.2)).getD 0

/-- The rank of a requester: one that has waited through 256 grants goes before all that have not (R172). -/
def PortQ.rankOf (q : PortQ) (a : Asker) : Nat := if 256 ≤ q.waited a then 0 else a.rank

/-- The requester granted next: of the highest rank, in round-robin order of the clusters and, at the cluster, of its cells
(R171). -/
def PortQ.winner (q : PortQ) (l : List Asker) : Option Asker :=
  let best := l.filter (fun a => some (q.rankOf a) == (l.map q.rankOf).min?)
  match nextAfter q.cluster (best.map (fun a => a.cell / 16)) with
  | none => none
  | some k =>
    let here := best.filter (fun a => a.cell / 16 == k)
    match nextAfter (Map.get last0 q.cell k) (here.map (fun a => a.cell)) with
    | none => none
    | some n => here.find? (fun a => a.cell == n)

/-- One grant: everyone else who asks has waited through one more. -/
def PortQ.grant (q : PortQ) (l : List Asker) (a : Asker) : PortQ :=
  { waits := (l.filter (fun b => b != a)).map (fun b => (b, q.waited b + 1)), granted := q.granted ++ [a],
    cluster := some (a.cell / 16), cell := Map.put last0 q.cell (a.cell / 16) (some a.cell) }

/-- Grants until `a` has been granted; the number is at least that of the requesters. -/
def PortQ.grantTo (a : Asker) : Nat → List Asker → PortQ → PortQ
  | 0, _, q => q
  | n + 1, l, q =>
    if q.granted.contains a then q
    else
      match q.winner l with
      | none => q
      | some b => PortQ.grantTo a n (l.filter (fun e => e != b)) (q.grant l b)

/-- What a cell asks of its region's memory port. -/
def Cell.asks (x : Cell) (i : Nat) : List Asker :=
  (match x.streamer with
    | some t => if t.cfg.region then t.refills.map (fun r => { rank := 1, cell := i, slot := r.1 }) else []
    | none => []) ++
  (x.moves.filter (fun m => m.region)).map (fun m => { rank := if m.bg then 3 else 2, cell := i, slot := m.slot })

/-- What the cells of region `r` ask of its memory port. -/
def Chip.asks (c : Chip) (r : Nat) : List Asker :=
  (List.range 128).flatMap (fun k => (c.cell (128 * r + k)).asks (128 * r + k))

/-- A move that was asked of the port of region `r` has completed. -/
def Chip.portServe (c : Chip) (r : Nat) (a : Asker) : Chip :=
  let l := c.asks r
  let q := Map.get portQ0 c.ports.region r
  let q1 := { q with granted := q.granted.filter (fun g => l.contains g) }
  let q2 := PortQ.grantTo a l.length (l.filter (fun e => !q1.granted.contains e)) q1
  let q3 := { q2 with granted := q2.granted.filter (fun g => g != a) }
  { c with ports := { c.ports with region := Map.put portQ0 c.ports.region r q3 } }

/-! ## Ports of the bus matrix -/

/-- The QoS that an initiator carries (R481). -/
def Chip.busQos (c : Chip) (init : Nat) : Nat :=
  if init = 0 then 6
  else if init = 1 then 8
  else if init = 2 then (match c.dmaRunning with
    | some (_, a) => fld a.cfg 26 24
    | none => 0)
  else if init ≤ 6 then 15
  else if init = 7 then 10
  else 12

/-- The rank of an initiator at the chip port of a region: the executive, DMA, the host (R171). -/
def chipRank (init : Nat) : Nat := if init = 1 then 0 else if init = 2 then 1 else 2

/-- The number of the port that an initiator's address reaches: 0 DRAM, 1 to 4 the region memories, 5 the register blocks, 6 the
executive memory, 7 the field book, 8 the quad-SPI NOR, 9 the default target. -/
def Chip.busPort (c : Chip) (init addr : Nat) : Nat :=
  match c.busTarget init addr with
  | some (.dram _) => 0
  | some (.region a) => 1 + a / 2 ^ 22 % 4
  | some (.regs _) => 5
  | some (.exec _) => 6
  | some (.fieldBook _) => 7
  | some (.qspi _) => 8
  | none => 9

def row0 : Nat → Option Nat := fun _ => none

/-- A request of a tile hits an open row. -/
def Chip.rowOpen (c : Chip) (t : Nat) : Bool := Map.get row0 c.ddr.rows (Config.dramBank t) == some (Config.dramRow t)

/-- The elements for which `p` holds, where there is one; else all. -/
def prefer {α : Type} (p : α → Bool) (l : List α) : List α := if l.any p then l.filter p else l

/-- The initiator that port `k` grants of those that wait with their addresses, the oldest first (R482). -/
def Chip.busWinner (c : Chip) (k : Nat) (l : List (Nat × Nat)) : Option Nat :=
  let inits := l.map (fun e => e.1)
  if k = 0 then
    ((prefer (fun e => c.rowOpen (e.2 / 256)) (prefer (fun e => decide (12 ≤ c.busQos e.1)) l)).head?).map (fun e => e.1)
  else if 1 ≤ k ∧ k ≤ 4 then
    inits.find? (fun n => some (chipRank n) == (inits.map chipRank).min?)
  else
    nextAfter (Map.get last0 c.ports.bus k) (inits.filter (fun n => some (c.busQos n) == (inits.map c.busQos).max?))

/-- What waits at the ports of the matrix, the oldest first, by initiator and address: a free value (log entry 57). -/
def Chip.busWaits (c : Chip) : List (Nat × Nat) := (Config.busWaiting c.nfree).filter (fun e => decide (e.1 < 9))

/-- The port that the first of some waiting transactions reaches grants one of those that wait there. -/
def Chip.busGrant (c : Chip) (l : List (Nat × Nat)) : Chip :=
  match l with
  | [] => c
  | e :: _ =>
    let k := c.busPort e.1 e.2
    { c with ports := { c.ports with bus := Map.put last0 c.ports.bus k (c.busWinner k (l.filter (fun f => c.busPort f.1 f.2 == k))) } }

/-! ## The requests of the DRAM controller -/

/-- The QoS of a request: one below 12 that has waited 20 µs is treated as QoS 11 (R472). -/
def Chip.reqQos (c : Chip) (r : DramReq) : Nat := if r.qos < 12 ∧ r.since + 10000 ≤ c.dtm.clocks then 11 else r.qos

/-- The write entry of a tile that has not been issued (R473). -/
def openEntry (l : List DramReq) (t : Nat) : Option DramReq := l.find? (fun r => r.write && r.tile == t && !r.issued)

/-- A tile has a write entry. -/
def hasEntry (l : List DramReq) (t : Nat) : Bool := l.any (fun r => r.write && r.tile == t)

/-- The requests that may be issued next: neither issued nor behind another request of their tile, and no read that a write entry
serves (R473, R474). -/
def issuable : List DramReq → List Nat → List DramReq
  | [], _ => []
  | r :: l, held =>
    if held.contains r.tile then issuable l held
    else if r.issued then (if r.write then issuable l (r.tile :: held) else issuable l held)
    else r :: issuable l (r.tile :: held)

/-- The request that is issued next (R472). -/
def Chip.dramNext (c : Chip) : Option DramReq :=
  (prefer (fun r => c.rowOpen r.tile) (prefer (fun r => decide (12 ≤ c.reqQos r)) (issuable c.ddr.reqs []))).head?

/-- A request is issued: its row is open then. An issued write of the same tile has been written by then. -/
def Chip.dramIssue (c : Chip) (r : DramReq) : Chip :=
  { c with ddr := { c.ddr with
      reqs := c.ddr.reqs.map (fun q => if q.num == r.num then { q with issued := true } else q)
      rows := Map.put row0 c.ddr.rows (Config.dramBank r.tile) (some (Config.dramRow r.tile)) } }

/-- Issues requests until request `n` has been issued; the number is at least that of the requests. -/
def Chip.dramIssueTo (c : Chip) (n : Nat) : Nat → Chip
  | 0 => c
  | k + 1 =>
    if c.ddr.reqs.any (fun r => r.num == n && r.issued) then c
    else
      match c.dramNext with
      | none => c
      | some r => (c.dramIssue r).dramIssueTo n k

/-- Room for one more request: 128 reads and 64 write entries (R472). -/
def Chip.dramRoom (c : Chip) (write : Bool) : Bool :=
  decide ((c.ddr.reqs.filter (fun r => r.write == write)).length < if write then 64 else 128)

/-- A request enters the queue behind the others. -/
def Chip.dramPush (c : Chip) (a : DramAccess) (write : Bool) (parts : List DramAccess) : Chip :=
  let t := a.addr.toNat / 256
  let r : DramReq :=
    { num := c.ddr.nreq, qos := c.busQos a.init.toNat, tile := t, init := a.init.toNat, since := c.dtm.clocks, issued := false,
      write := write, old := if write then c.mem.tile .dram t else [], oldChk := if write then c.mem.entry .dram t else 0, parts := parts }
  { c with ddr := { c.ddr with reqs := c.ddr.reqs ++ [r], nreq := c.ddr.nreq + 1 } }

/-- A write joins the entry of its tile that has not been issued; the entry takes the higher QoS. -/
def Chip.dramJoin (c : Chip) (e : DramReq) (a : DramAccess) : Chip :=
  { c with ddr := { c.ddr with reqs := c.ddr.reqs.map (fun q =>
      if q.num == e.num then { q with qos := max q.qos (c.busQos a.init.toNat), parts := q.parts ++ [a] } else q) } }

/-- An access reaches the controller: none where there is no room for its request. What a write entry holds is what a read of its tile
gets, so the bytes are in the memory at once, merged into the tile as R179 says (R473, R474). -/
def Chip.dramArrive (c : Chip) (a : DramAccess) : Option Chip :=
  let t := a.addr.toNat / 256
  if a.bytes.isEmpty then (if c.dramRoom false then some (c.dramPush a false []) else none)
  else
    match openEntry c.ddr.reqs t with
    | some e => some ((c.dramJoin e a).tileWrite .dram a.addr.toNat a.bytes a.mark)
    | none => if c.dramRoom true then some ((c.dramPush a true [a]).tileWrite .dram a.addr.toNat a.bytes a.mark) else none

/-- Accesses reach the controller in order; the first for which there is no room, and those behind it, wait outside. An address beyond
the usable DRAM is the default target's. -/
def Chip.dramArrivals (c : Chip) : List DramAccess → Chip
  | [] => c
  | a :: l =>
    if a.addr.toNat < c.dramUsable then
      match c.dramArrive a with
      | some d => d.dramArrivals l
      | none => c
    else c.dramArrivals l

/-- The request leaves the queue. -/
def Chip.dramDrop (c : Chip) (n : Nat) : Chip :=
  { c with ddr := { c.ddr with reqs := c.ddr.reqs.filter (fun r => r.num != n) } }

/-- Request `n` completes: the requests that go before it have been issued, and an earlier write of its tile has been written. -/
def Chip.dramServe (c : Chip) (n : Nat) : Chip :=
  let c1 := match c.ddr.reqs.find? (fun r => r.num == n) with
    | some r => { c with ddr := { c.ddr with reqs := c.ddr.reqs.filter (fun q => !(q.tile == r.tile && q.write && q.issued && decide (q.num < n))) } }
    | none => c
  (c1.dramIssueTo n c1.ddr.reqs.length).dramDrop n

/-- The tile of a discarded write entry is again what it was before the entry; a later entry of the tile, which was filled from it, stays
(R473, R478). -/
def Chip.dramUndo (c : Chip) (r : DramReq) : Chip :=
  if hasEntry c.ddr.reqs r.tile then
    { c with ddr := { c.ddr with reqs := c.ddr.reqs.map (fun q =>
        if q.write && q.tile == r.tile then { q with old := r.old, oldChk := r.oldChk } else q) } }
  else { c with mem := c.mem.set .dram (memWrite c.mem.dram (256 * r.tile) r.old) (Map.put chk0 c.mem.dramChk r.tile r.oldChk) }

/-- The oldest read request of an initiator for a tile. -/
def readOf (l : List DramReq) (init t : Nat) : Option DramReq := l.find? (fun r => !r.write && r.init == init && r.tile == t)

/-- The write entry that holds a write, or that the write joins. -/
def entryOf (l : List DramReq) (a : DramAccess) : Option DramReq :=
  match l.find? (fun r => r.write && r.tile == a.addr.toNat / 256 && r.parts.contains a) with
  | some e => some e
  | none => openEntry l (a.addr.toNat / 256)

end Sys2Proof.Machine
end

