-- ==== Sys2Proof/Machine/Operands.lean ====
section
/-! DEFINITION. The instruction word of a cell, field by field (R101, R104, R108), and which words are
illegal whatever the context (R102). -/
namespace Sys2Proof.Machine
open Sys2Proof

/-- One port as its ten bits: enable, width, pointer, register, update (R104). -/
def encPort : Option MemPort → Nat
  | none => 0
  | some q => 512 + 256 * ofFlag q.wide + 32 * q.ptr.toNat + 2 * q.reg.toNat + ofFlag q.upd

/-- The MEM field: port X in bits 31:22, port Y in bits 21:12, port W in bits 11:2 (R104). -/
def encPorts (m : MemPorts) : Nat := encPort m.x * 2 ^ 22 + encPort m.y * 2 ^ 12 + encPort m.w * 2 ^ 2

/-- The 64-bit word of the fields of R101. -/
def encWord (grp fn ra rb rc rd aux low : Nat) : DWord :=
  BitVec.ofNat 64 (grp * 2 ^ 60 + fn * 2 ^ 56 + ra * 2 ^ 52 + rb * 2 ^ 48 + rc * 2 ^ 44 + rd * 2 ^ 40
    + aux * 2 ^ 36 + low)

/-- The word of a CHAIN function: SLOT in bits 37:32 (R101, R108). -/
def encChain (fn ra rd slot : Nat) (m : MemPorts) : DWord :=
  BitVec.ofNat 64 (7 * 2 ^ 60 + fn * 2 ^ 56 + ra * 2 ^ 52 + rd * 2 ^ 40 + slot * 2 ^ 32 + encPorts m)

/-- The word of a TLOAD (fn 0) or TSTORE (fn 1): AUX[2:0] slot, AUX[3] register form, IMM[31] SRC. -/
def encMove (fn slot : Nat) (region : Bool) (t : TileIdx) : DWord :=
  match t with
  | .imm n => encWord 6 fn 0 0 0 0 slot (2 ^ 31 * ofFlag region + n.toNat)
  | .reg ra => encWord 6 fn ra.toNat 0 0 0 (8 + slot) (2 ^ 31 * ofFlag region)

/-- The bits a function's row names, GRP and FN included (R108); none for an unlisted function. -/
def namedBits (grp fn : Nat) : Option Nat :=
  let top := 0xFF * 2 ^ 56
  let ra := 0xF * 2 ^ 52
  let rb := 0xF * 2 ^ 48
  let rc := 0xF * 2 ^ 44
  let rd := 0xF * 2 ^ 40
  let aux (m : Nat) := m * 2 ^ 36
  let mem := 0xFFFFFFFC
  match grp, fn with
  | 0, 0 => some top
  | 0, 1 => some (top + 0xFFF)
  | 0, 2 | 0, 3 | 0, 4 | 0, 5 => some (top + ra + 0xFFF)
  | 0, 6 => some (top + ra)
  | 0, 7 => some (top + ra + aux 3 + 0xFFFFFFF)
  | 0, 8 | 0, 9 => some top
  | 1, 0 | 1, 1 | 1, 2 | 1, 3 | 1, 4 => some (top + ra + rb + aux 7 + mem)
  | 2, 0 | 2, 1 | 2, 2 => some (top + ra + rb + rc + rd + aux 7 + mem)
  | 2, 3 | 2, 4 => some (top + ra + rb + aux 15 + mem)
  | 3, 0 => some (top + 3 * 2 ^ 52 + rd + aux 15 + mem)
  | 3, 1 => some (top + 1 * 2 ^ 52 + rd + aux 15 + mem)
  | 3, 2 => some (top + 3 * 2 ^ 52 + mem)
  | 3, 3 => some (top + 3 * 2 ^ 52 + rb + mem)
  | 3, 4 | 3, 5 => some (top + 3 * 2 ^ 52 + aux 15 + mem)
  | 3, 6 | 3, 7 => some (top + 3 * 2 ^ 52 + 3 * 2 ^ 48 + mem)
  | 3, 8 => some (top + 3 * 2 ^ 52 + rd + aux 3 + mem)
  | 3, 9 => some (top + 3 * 2 ^ 52 + rb + aux 3 + mem)
  | 4, 0 | 4, 6 | 4, 7 => some (top + ra + rd + mem)
  | 4, 1 | 4, 2 | 4, 3 | 4, 4 | 4, 5 | 4, 8 | 4, 9 | 4, 10 | 4, 11 | 4, 12 => some (top + ra + rb + rd + mem)
  | 4, 13 => some (top + ra + rb + rc + rd + mem)
  | 5, 0 => some (top + rd + 0xFFFFFFFF)
  | 5, 1 | 5, 2 => some (top + 7 * 2 ^ 40 + 0x7FF)
  | 5, 3 => some (top + 7 * 2 ^ 40 + 0x8FFF)
  | 5, 4 => some (top + 7 * 2 ^ 40 + 0xFFF)
  | 6, 0 | 6, 1 => some (top + ra + aux 15 + 2 ^ 31 + 0x3FFF)
  | 6, 2 => some (top + 0xFF)
  | 6, 3 => some (top + aux 7 + 2 ^ 31 + 0xFF0000 + 0x3FFF)
  | 6, 4 | 6, 5 => some top
  | 7, 0 => some (top + rd + 0x3F * 2 ^ 32 + mem)
  | 7, 1 => some (top + rd + 0x3F * 2 ^ 32 + mem)
  | 7, 2 | 7, 3 => some (top + ra + 0x3F * 2 ^ 32 + mem)
  | 7, 4 => some (top + ra + rd + 0x3F * 2 ^ 32 + mem)
  | 8, 0 => some (top + ra + 0x3F)
  | 8, 1 => some (top + rd + 0x3F)
  | _, _ => none

/-- A port of the MEM field is malformed: disabled with a field set, or 64 bits wide with an odd register. -/
def portBad (q : Nat) : Bool :=
  let en := bits q 9 9
  let wide := bits q 8 8
  let reg := bits q 4 1
  if en = 0 then decide (q ≠ 0) else decide (wide = 1) && decide (reg % 2 = 1)

/-- A named field holds a value outside the range its row gives (R102, R108). -/
def rangeBad (w : Nat) : Bool :=
  let grp := bits w 63 60
  let fn := bits w 59 56
  let ra := bits w 55 52
  let rb := bits w 51 48
  let rd := bits w 43 40
  let aux := bits w 39 36
  let slot := bits w 37 32
  let imm := bits w 31 0
  let hasMem := decide (grp = 1) || decide (grp = 2) || decide (grp = 3) || decide (grp = 4) || decide (grp = 7)
  (hasMem && (portBad (bits imm 31 22) || portBad (bits imm 21 12) || portBad (bits imm 11 2))) ||
  match grp, fn with
  | 0, 7 => if aux.testBit 1 then decide (bits imm 27 12 ≠ 0) else decide (ra ≠ 0)
  | 1, 4 => decide (rb % 2 = 1)
  | 1, _ => decide (ra % 2 = 1) || decide (rb % 2 = 1)
  | 3, 0 => decide (8 < aux)
  | 3, 1 => decide (8 < aux) || decide (rd % 2 = 1)
  | 3, 8 | 3, 9 => decide (2 < bits aux 1 0)
  | 5, 3 => !lenLegal (bits imm 11 0) (imm.testBit 15)
  | 6, 0 | 6, 1 =>
    if aux.testBit 3 then decide (bits imm 13 0 ≠ 0)
    else decide (ra ≠ 0) || (decide (bits imm 31 31 = 0) && decide (511 < bits imm 13 0))
  | 6, 3 =>
    decide (aux % 2 = 1) ||
      decide ((if bits imm 31 31 = 0 then 511 else 16383) < bits imm 13 0 + bits imm 23 16)
  | 7, 1 => decide (rd % 2 = 1) || decide (slot % 2 = 1)
  | 7, 3 => decide (ra % 2 = 1) || decide (slot % 2 = 1)
  | 8, 0 => decide (39 < bits imm 5 0)
  | 8, 1 => decide (43 < bits imm 5 0)
  | _, _ => false

/-- A word that is illegal whatever the context and the registers (R102): an unlisted function, a non-zero
reserved bit, or a named field out of its range. -/
def wordIllegal (w : DWord) : Bool :=
  let n := w.toNat
  match namedBits (bits n 63 60) (bits n 59 56) with
  | none => true
  | some m => decide (n &&& (2 ^ 64 - 1 - m) ≠ 0) || rangeBad n

/-- A branch, RETB, LOOP or BWAIT may not stand in the delay slots of a branch or of RETB (R114). -/
def Cell.noDelay (x : Cell) : Bool := x.branch.isNone

/-- The traverse executes (R135). -/
def Cell.trav (x : Cell) : Bool := x.ctx == .traverse

/-- The background executes (R135). -/
def Cell.back (x : Cell) : Bool := x.ctx == .background

end Sys2Proof.Machine
end

