-- ==== Sys2Proof/Machine/Flags.lean ====
section
/-! DEFINITION. The results and SR flags of cell arithmetic: accumulators (R94 to R100), extraction (R96,
R97), saturating ALU results (R108), gain slots (R144 to R146). -/
namespace Sys2Proof.Machine
open Sys2Proof

/-- An exact accumulator result stored modulo 2⁸⁰; the flag is SR.AV (R94). -/
def accStore (n : Int) : AccWord × Nat :=
  (BitVec.ofInt 80 n, if n < -(2 ^ 79) ∨ 2 ^ 79 - 1 < n then 2 ^ srAV else 0)

/-- The exponent e of R95. -/
def yScale (q30 : Bool) : Int := if q30 then 1024 else 512

/-- Extraction of an accumulator with scale s; the flag is SR.SV (R96, R97). -/
def extract (a : AccWord) (s : Nat) (sat : Bool) : Word × Nat :=
  let n := roundEven a.toInt (2 ^ (40 + s))
  if sat then
    let r := sat32 n
    (r.1, if r.2 then 2 ^ srSV else 0)
  else (BitVec.ofInt 32 n, 0)

/-- A result of the ALU that saturates when `sat`; the flag is SR.SV (R108). -/
def aluSat (n : Int) (sat : Bool) : Word × Nat :=
  if sat then
    let r := sat32 n
    (r.1, if r.2 then 2 ^ srSV else 0)
  else (BitVec.ofInt 32 n, 0)

/-- One accumulation: `sum` is added to the accumulator taken under CLR and R112, poison ORed in (R99, R141). -/
def Cell.accum (x : Cell) (clr : Bool) (i : Nat) (sum : Int) (p : Bool) : Eff :=
  let a := x.macIn clr i
  let r := accStore (a.v.toInt + sum)
  { Eff.none with res := [toA i { v := r.1, p := a.p || p }], flags := r.2 }

/-- A MACC function on pair p: the exact sums enter both accumulators, and so does the poison of all
multiplicands (R99, R100, R141). -/
def Cell.maccEff (x : Cell) (aux : BitVec 3) (re im : Int) (p : Bool) : Eff :=
  let pr := 2 * ofFlag (aux.getLsbD 0)
  let e := yScale (aux.getLsbD 1)
  let clr := aux.getLsbD 2
  (x.accum clr pr (re * e) p).and (x.accum clr (pr + 1) (im * e) p)

/-- A dual MACD function: each accumulator has its own product and poison (R99, R100, R141). -/
def Cell.macdEff (x : Cell) (aux : BitVec 3) (s0 s1 : Int) (ra rb rc rd : Nat) : Eff :=
  let pr := 2 * ofFlag (aux.getLsbD 0)
  let e := yScale (aux.getLsbD 1)
  let clr := aux.getLsbD 2
  let a := x.rd ra
  let b := x.rd rb
  let c := x.rd rc
  let d := x.rd rd
  (x.accum clr pr (s0 * (a.v.toInt * b.v.toInt) * e) (a.p || b.p)).and
    (x.accum clr (pr + 1) (s1 * (c.v.toInt * d.v.toInt) * e) (c.p || d.p))

/-- One step of a gain slot, upward or downward (R145). -/
def GainSlot.stepVal (g : GainSlot) : Word :=
  let cur : Int := g.cur.toNat
  let tgt : Int := g.tgt.toNat
  let r (k : Int) : Int := clampInt 0 maxS32 (roundEven (cur * k) (2 ^ 28))
  if cur < tgt then
    let n := if cur < g.floor.toNat then (g.floor.toNat : Int) else r g.stepUp.toNat
    BitVec.ofInt 32 (if n < tgt then n else tgt)
  else
    let n0 := r g.stepDn.toNat
    let n := if n0 < g.floor.toNat then 0 else n0
    BitVec.ofInt 32 (if tgt < n then n else tgt)

/-- A crossing triggers a GAIN: X = 0 or a change of sign, X not poisoned (R145). -/
def GainSlot.crosses (g : GainSlot) (x : Sample) : Bool :=
  !x.p && (x.v == 0 || x.v.msb != g.prev)

/-- The GAIN triggers (R145): a crossing, or TMO_CNT = 0, with X not poisoned. -/
def GainSlot.triggers (g : GainSlot) (x : Sample) : Bool :=
  g.crosses x || (!x.p && g.tmoCnt == 0)

/-- The gain slot after one GAIN execution (R145). -/
def GainSlot.execute (g : GainSlot) (x : Sample) : GainSlot :=
  let g1 := if g.triggers x && g.cur != g.tgt then { g with cur := g.stepVal, tmoCnt := g.tmo } else g
  if x.p then g1 else { g1 with prev := x.v.msb }

/-- The GAIN takes a step only because TMO_CNT reached 0 (R145). -/
def GainSlot.timeoutStep (g : GainSlot) (x : Sample) : Bool :=
  g.triggers x && g.cur != g.tgt && !g.crosses x

end Sys2Proof.Machine
end

