-- ==== Sys2Proof/Machine/CellInstr.lean ====
section
/-! DEFINITION. The meanings of the cell instructions (R89 to R146): one definition per row. Each issues its
word in the named cell, if that is the word the cell fetched, and computes its effect from the values
visible at issue. -/
namespace Sys2Proof.Machine
open Sys2Proof

/-! ## Shared forms -/

/-- Group CTRL: a word without ports. -/
def Chip.ctrl (c : Chip) (cell : BitVec 9) (fn ra low : Nat) (legal : Bool) (e : Eff) : Chip :=
  c.issue cell.toNat (encWord 0 fn ra 0 0 0 0 low) legal e

/-- A conditional branch (R108, R110, R114, R142): two delay slots, taken or not; a poisoned register sets
SR.CP. -/
def Chip.branchIf (c : Chip) (cell : BitVec 9) (fn : Nat) (ra : BitVec 4) (t : BitVec 12) (test : Word → Bool) : Chip :=
  let x := c.cell cell.toNat
  let s := x.rd ra.toNat
  c.ctrl cell fn ra.toNat t.toNat x.noDelay
    { Eff.none with turn := some (if test s.v then .target t else .fall), flags := if s.p then 2 ^ srCP else 0 }

/-- A MACC function: x and y are register pairs, Yr + jYi the second (R98 to R100); `f` gives the exact real
and imaginary sums, negated by `neg`. -/
def Chip.macc (c : Chip) (cell : BitVec 9) (fn : Nat) (ra rb : BitVec 4) (aux : BitVec 3) (mem : MemPorts)
    (neg : Bool) (f : Int → Int → Int → Int → Int × Int) : Chip :=
  let x := c.cell cell.toNat
  let xr := x.rd ra.toNat
  let xi := x.rd (ra.toNat + 1)
  let yr := x.rd rb.toNat
  let yi := x.rd (rb.toNat + 1)
  let r := f xr.v.toInt xi.v.toInt yr.v.toInt yi.v.toInt
  let k : Int := if neg then -1 else 1
  c.issue cell.toNat (encWord 1 fn ra.toNat rb.toNat 0 0 aux.toNat (encPorts mem))
    (ra.toNat % 2 == 0 && rb.toNat % 2 == 0 && portsLegal mem)
    ((x.maccEff aux (k * r.1) (k * r.2) (xr.p || xi.p || yr.p || yi.p)).and (x.ports mem))

/-- A dual MACD function (R99): the signs of its two products. -/
def Chip.macd (c : Chip) (cell : BitVec 9) (fn : Nat) (ra rb rc rd : BitVec 4) (aux : BitVec 3) (mem : MemPorts)
    (s0 s1 : Int) : Chip :=
  let x := c.cell cell.toNat
  c.issue cell.toNat (encWord 2 fn ra.toNat rb.toNat rc.toNat rd.toNat aux.toNat (encPorts mem)) (portsLegal mem)
    ((x.macdEff aux s0 s1 ra.toNat rb.toNat rc.toNat rd.toNat).and (x.ports mem))

/-- A single MACD function (R99): accumulator A(2p + AUX[3]). -/
def Chip.mac1 (c : Chip) (cell : BitVec 9) (fn : Nat) (ra rb : BitVec 4) (aux : BitVec 4) (mem : MemPorts) (sg : Int) : Chip :=
  let x := c.cell cell.toNat
  let a := x.rd ra.toNat
  let b := x.rd rb.toNat
  let i := 2 * ofFlag (aux.getLsbD 0) + ofFlag (aux.getLsbD 3)
  c.issue cell.toNat (encWord 2 fn ra.toNat rb.toNat 0 0 aux.toNat (encPorts mem)) (portsLegal mem)
    ((x.accum (aux.getLsbD 2) i (sg * (a.v.toInt * b.v.toInt) * yScale (aux.getLsbD 1)) (a.p || b.p)).and (x.ports mem))

/-- A group ACC word with its effect and ports. -/
def Chip.accOp (c : Chip) (cell : BitVec 9) (fn ra rb rd aux : Nat) (mem : MemPorts) (legal : Bool) (e : Eff) : Chip :=
  let x := c.cell cell.toNat
  c.issue cell.toNat (encWord 3 fn ra rb 0 rd aux (encPorts mem)) (legal && portsLegal mem) (e.and (x.ports mem))

/-- An exact result for an accumulator (R94). -/
def accRes (i : Nat) (n : Int) (p : Bool) : Eff :=
  let r := accStore n
  { Eff.none with res := [toA i { v := r.1, p := p }], flags := r.2 }

/-- A group ALU word: D[RD] takes `v` with poison `p`, seen by the next instruction; `fl` are SR bits. -/
def Chip.alu (c : Chip) (cell : BitVec 9) (fn ra rb rc rd : Nat) (mem : MemPorts) (v : Word) (p : Bool) (fl : Nat) : Chip :=
  let x := c.cell cell.toNat
  c.issue cell.toNat (encWord 4 fn ra rb rc rd 0 (encPorts mem)) (portsLegal mem)
    (({ Eff.none with res := [toD 0 rd { v := v, p := p }], flags := fl }).and (x.ports mem))

/-- A two-operand ALU function without flags (R108, R141). -/
def Chip.alu2 (c : Chip) (cell : BitVec 9) (fn : Nat) (ra rb rd : BitVec 4) (mem : MemPorts) (f : Word → Word → Word) : Chip :=
  let x := c.cell cell.toNat
  let a := x.rd ra.toNat
  let b := x.rd rb.toNat
  c.alu cell fn ra.toNat rb.toNat 0 rd.toNat mem (f a.v b.v) (a.p || b.p) 0

/-- A sum or difference that saturates when MR.DSAT is 1 (R108). -/
def Chip.aluSum (c : Chip) (cell : BitVec 9) (fn : Nat) (ra rb rd : BitVec 4) (mem : MemPorts) (f : Int → Int → Int) : Chip :=
  let x := c.cell cell.toNat
  let a := x.rd ra.toNat
  let b := x.rd rb.toNat
  let r := aluSat (f a.v.toInt b.v.toInt) x.dsat
  c.alu cell fn ra.toNat rb.toNat 0 rd.toNat mem r.1 (a.p || b.p) r.2

/-- A SET function of group IMM: a special register with one delay slot, its poison cleared (R110, R141). -/
def Chip.setSpec (c : Chip) (cell : BitVec 9) (fn : Nat) (n : BitVec 3) (imm spec : Nat) (legal : Bool) : Chip :=
  c.issue cell.toNat (encWord 5 fn 0 0 0 n.toNat 0 imm) legal
    { Eff.none with res := [toSpec spec (BitVec.ofNat 32 imm) false] }

/-- The tile a move names and whether the move has an index fault (R126): a poisoned index register, or a
backing tile above 511 taken from a register. -/
def Cell.moveTile (x : Cell) (region : Bool) (t : TileIdx) : Nat × Bool :=
  match t with
  | .imm n => (n.toNat, false)
  | .reg ra =>
    let s := x.rd ra.toNat
    let n := fld s.v 13 0
    (n, s.p || (!region && decide (511 < n)))

/-- Every word of a slot is 0 and poisoned (R126). -/
def Cell.clearSlot (x : Cell) (s : Nat) : Cell :=
  (List.range 64).foldl (fun y k => y.setWord (64 * s + k) { v := 0, p := true }) x

/-- A TLOAD or TSTORE (R121 to R126, R129): it stalls while its slot is busy or two moves are in flight; a
streamer-owned slot or an immediate backing tile above 511 makes it illegal; an index fault moves nothing,
sets SR.CP and leaves a TLOAD's slot 0 and poisoned. -/
def Chip.moveOp (c : Chip) (cell : BitVec 9) (store : Bool) (slot : BitVec 3) (region : Bool) (t : TileIdx) : Chip :=
  let i := cell.toNat
  let x := c.cell i
  let s := slot.toNat
  let m := x.moveTile region t
  let immBad := match t with
    | .imm n => !region && decide (511 < n.toNat)
    | .reg _ => false
  let legal := !x.owned s && !immBad
  let stall := x.busy s || decide (2 ≤ x.moves.length)
  let e : Eff := if m.2 then { Eff.none with flags := 2 ^ srCP } else Eff.none
  let start (c : Chip) : Chip :=
    if m.2 then (if store then c else c.modCell i (fun x => x.clearSlot s))
    else c.modCell i (fun x => { x with moves := x.moves ++ [{ bg := x.ctx == .background, store := store, slot := s, region := region, tile := m.1 }] })
  c.issueWith i (encMove (ofFlag store) s region t) stall legal start e

/-- A streamer at its start (R128): the first two tiles on their way to its two slots. -/
def streamerOf (g : StreamerCfg) : Streamer :=
  { cfg := g, next := 2 % g.count, olderHigh := false, refills := [(g.slot, 0), (g.slot + 1, 1 % g.count)],
    stopping := false, restart := none }

/-- Publishing D registers on consecutive slots (R141, R142, R164): a write in a later leg than the slot's,
or to a slot of no leg, is discarded and counted; one in an earlier leg does not count as written. -/
def Chip.publish (c : Chip) (i s : Nat) (v : Sample) : Chip :=
  let x := c.cell i
  let now := match c.eng.phase with
    | .leg k => k
    | _ => 4
  match c.slotLeg i s with
  | none => c.late 1 1 (c.slotAddr i s)
  | some k =>
    if k < now then c.late 1 1 (c.slotAddr i s)
    else c.modCell i (fun y =>
      let q := y.pub s
      y.setPub s { q with s := { v := v.v, p := v.p || x.sr.getLsbD srCP }, written := decide (k = now) })


/-! ## Group CTRL -/

/-- NOP does nothing (R108). -/
def execNop (cell : BitVec 9) (s : State) : Host.Outcome State Fault Refusal :=
  s.act (fun c =>
    c.ctrl cell 0 0 0 true Eff.none)

/-- BR: the target follows two delay slots (R108, R110, R114). -/
def execBr (cell : BitVec 9) (t : BitVec 12) (s : State) : Host.Outcome State Fault Refusal :=
  s.act (fun c =>
    let x := c.cell cell.toNat
    c.ctrl cell 1 0 t.toNat x.noDelay { Eff.none with turn := some (.target t) })

/-- BRZ: a conditional branch on D[RA] (R108). -/
def execBrz (cell : BitVec 9) (ra : BitVec 4) (t : BitVec 12) (s : State) : Host.Outcome State Fault Refusal :=
  s.act (fun c =>
    c.branchIf cell 2 ra t (fun w => w == 0))

/-- BRNZ: a conditional branch on D[RA] (R108). -/
def execBrnz (cell : BitVec 9) (ra : BitVec 4) (t : BitVec 12) (s : State) : Host.Outcome State Fault Refusal :=
  s.act (fun c =>
    c.branchIf cell 3 ra t (fun w => w != 0))

/-- BRN: a conditional branch on D[RA] (R108). -/
def execBrn (cell : BitVec 9) (ra : BitVec 4) (t : BitVec 12) (s : State) : Host.Outcome State Fault Refusal :=
  s.act (fun c =>
    c.branchIf cell 4 ra t (fun w => w.msb))

/-- BRNN: a conditional branch on D[RA] (R108). -/
def execBrnn (cell : BitVec 9) (ra : BitVec 4) (t : BitVec 12) (s : State) : Host.Outcome State Fault Refusal :=
  s.act (fun c =>
    c.branchIf cell 5 ra t (fun w => !w.msb))

/-- BRIND: branch to D[RA] bits 11:0; a poisoned register sets SR.CP (R108, R142). -/
def execBrind (cell : BitVec 9) (ra : BitVec 4) (s : State) : Host.Outcome State Fault Refusal :=
  s.act (fun c =>
    let x := c.cell cell.toNat
    let s := x.rd ra.toNat
    c.ctrl cell 6 ra.toNat 0 x.noDelay
      { Eff.none with turn := some (.target (s.v.setWidth 12)), flags := if s.p then 2 ^ srCP else 0 })

/-- LOOP: starts a loop level; with count 0 execution continues after the end index (R115, R142). DESIGN CHOICE (log entry 46):
at index 4,095 the i + 1 of the check of LE is 4,096, so every such LOOP is illegal. -/
def execLoop (cell : BitVec 9) (lvl : BitVec 1) (cnt : LoopCount) (le : BitVec 12) (s : State) : Host.Outcome State Fault Refusal :=
  s.act (fun c =>
    let x := c.cell cell.toNat
    let n := lvl.toNat
    let start := x.pc + 1
    let legal := x.noDelay && decide (x.pc.toNat + 1 ≤ le.toNat)
    let go (k : BitVec 16) (p : Bool) (ra aux low : Nat) : Chip :=
      c.issue cell.toNat (encWord 0 7 ra 0 0 0 aux low) legal
        { Eff.none with loop := some (n, start, le, k), flags := if p then 2 ^ srCP else 0,
                        skip := if k = 0 then some (le + 1) else none }
    match cnt with
    | .imm k => go k false 0 n (k.toNat * 4096 + le.toNat)
    | .reg ra =>
      let s := x.rd ra.toNat
      go (s.v.setWidth 16) s.p ra.toNat (2 + n) le.toNat)

/-- RETB: ends the traverse share of the leg after two delay slots (R54, R135, R138). -/
def execRetb (cell : BitVec 9) (s : State) : Host.Outcome State Fault Refusal :=
  s.act (fun c =>
    let x := c.cell cell.toNat
    c.ctrl cell 8 0 0 (x.trav && x.noDelay) { Eff.none with turn := some .retb })

/-- BWAIT: the background records the following index, and waits for the next tick entry (R135, R139, R142, R150, R571). -/
def execBwait (cell : BitVec 9) (s : State) : Host.Outcome State Fault Refusal :=
  s.act (fun c =>
    let i := cell.toNat
    let x := c.cell i
    let w := encWord 0 9 0 0 0 0 0 0
    if c.issues i w then
      if x.back && x.noDelay then
        c.modCell i (fun x =>
          let y := (x.retire Eff.none).1.flush
          { (y.stick y.sr) with bpc := y.pc, bsr := y.srRead &&& 0xFFFFFFF7, bbranch := none, bgSaved := true,
                                bg := .waiting, ctx := .idle, branch := none, bgWrote := [] })
      else c.illegal i
    else c)

/-! ## Groups MACC and MACD -/

/-- CMAC (R99). -/
def execCmac (cell : BitVec 9) (ra rb : BitVec 4) (aux : BitVec 3) (mem : MemPorts) (s : State) : Host.Outcome State Fault Refusal :=
  s.act (fun c =>
    c.macc cell 0 ra rb aux mem false (fun xr xi yr yi => (xr * yr - xi * yi, xr * yi + xi * yr)))

/-- CMACJ (R99). -/
def execCmacj (cell : BitVec 9) (ra rb : BitVec 4) (aux : BitVec 3) (mem : MemPorts) (s : State) : Host.Outcome State Fault Refusal :=
  s.act (fun c =>
    c.macc cell 1 ra rb aux mem false (fun xr xi yr yi => (xr * yr + xi * yi, xi * yr - xr * yi)))

/-- CMSU (R99). -/
def execCmsu (cell : BitVec 9) (ra rb : BitVec 4) (aux : BitVec 3) (mem : MemPorts) (s : State) : Host.Outcome State Fault Refusal :=
  s.act (fun c =>
    c.macc cell 2 ra rb aux mem true (fun xr xi yr yi => (xr * yr - xi * yi, xr * yi + xi * yr)))

/-- CMSUJ (R99). -/
def execCmsuj (cell : BitVec 9) (ra rb : BitVec 4) (aux : BitVec 3) (mem : MemPorts) (s : State) : Host.Outcome State Fault Refusal :=
  s.act (fun c =>
    c.macc cell 3 ra rb aux mem true (fun xr xi yr yi => (xr * yr + xi * yi, xi * yr - xr * yi)))

/-- CMACR: RA is any register (R98, R99). -/
def execCmacr (cell : BitVec 9) (ra rb : BitVec 4) (aux : BitVec 3) (mem : MemPorts) (s : State) : Host.Outcome State Fault Refusal :=
  s.act (fun c =>
    let x := c.cell cell.toNat
    let a := x.rd ra.toNat
    let yr := x.rd rb.toNat
    let yi := x.rd (rb.toNat + 1)
    c.issue cell.toNat (encWord 1 4 ra.toNat rb.toNat 0 0 aux.toNat (encPorts mem))
      (rb.toNat % 2 == 0 && portsLegal mem)
      ((x.maccEff aux (a.v.toInt * yr.v.toInt) (a.v.toInt * yi.v.toInt) (a.p || yr.p || yi.p)).and (x.ports mem)))

/-- MAC2 (R99). -/
def execMac2 (cell : BitVec 9) (ra rb rc rd : BitVec 4) (aux : BitVec 3) (mem : MemPorts) (s : State) : Host.Outcome State Fault Refusal :=
  s.act (fun c =>
    c.macd cell 0 ra rb rc rd aux mem 1 1)

/-- MSU2 (R99). -/
def execMsu2 (cell : BitVec 9) (ra rb rc rd : BitVec 4) (aux : BitVec 3) (mem : MemPorts) (s : State) : Host.Outcome State Fault Refusal :=
  s.act (fun c =>
    c.macd cell 1 ra rb rc rd aux mem (-1) (-1))

/-- MAS2 (R99). -/
def execMas2 (cell : BitVec 9) (ra rb rc rd : BitVec 4) (aux : BitVec 3) (mem : MemPorts) (s : State) : Host.Outcome State Fault Refusal :=
  s.act (fun c =>
    c.macd cell 2 ra rb rc rd aux mem 1 (-1))

/-- MAC1 (R99). -/
def execMac1 (cell : BitVec 9) (ra rb : BitVec 4) (aux : BitVec 4) (mem : MemPorts) (s : State) : Host.Outcome State Fault Refusal :=
  s.act (fun c =>
    c.mac1 cell 3 ra rb aux mem 1)

/-- MSU1 (R99). -/
def execMsu1 (cell : BitVec 9) (ra rb : BitVec 4) (aux : BitVec 4) (mem : MemPorts) (s : State) : Host.Outcome State Fault Refusal :=
  s.act (fun c =>
    c.mac1 cell 4 ra rb aux mem (-1))

/-! ## Group ACC -/

/-- EXT (R96, R97, R108). -/
def execExt (cell : BitVec 9) (a : BitVec 2) (rd sc : BitVec 4) (mem : MemPorts) (s : State) : Host.Outcome State Fault Refusal :=
  s.act (fun c =>
    let x := c.cell cell.toNat
    let r := extract (x.ra a.toNat).v sc.toNat x.sat
    c.accOp cell 0 a.toNat 0 rd.toNat sc.toNat mem (decide (sc.toNat ≤ 8))
      { Eff.none with res := [toD 1 rd.toNat { v := r.1, p := (x.ra a.toNat).p }], flags := r.2 })

/-- EXTP extracts both accumulators of a pair (R96, R97, R108). -/
def execExtp (cell : BitVec 9) (p : BitVec 1) (rd sc : BitVec 4) (mem : MemPorts) (s : State) : Host.Outcome State Fault Refusal :=
  s.act (fun c =>
    let x := c.cell cell.toNat
    let a0 := x.ra (2 * p.toNat)
    let a1 := x.ra (2 * p.toNat + 1)
    let r0 := extract a0.v sc.toNat x.sat
    let r1 := extract a1.v sc.toNat x.sat
    c.accOp cell 1 p.toNat 0 rd.toNat sc.toNat mem (decide (sc.toNat ≤ 8) && rd.toNat % 2 == 0)
      { Eff.none with res := [toD 1 rd.toNat { v := r0.1, p := a0.p }, toD 1 (rd.toNat + 1) { v := r1.1, p := a1.p }],
                      flags := r0.2 ||| r1.2 })

/-- ACLR clears an accumulator and its poison (R108, R141). -/
def execAclr (cell : BitVec 9) (a : BitVec 2) (mem : MemPorts) (s : State) : Host.Outcome State Fault Refusal :=
  s.act (fun c =>
    c.accOp cell 2 a.toNat 0 0 0 mem true { Eff.none with res := [toA a.toNat AccReg.zero] })

/-- ALD: A takes D[RB] × 2⁴⁰ (R108). -/
def execAld (cell : BitVec 9) (a : BitVec 2) (rb : BitVec 4) (mem : MemPorts) (s : State) : Host.Outcome State Fault Refusal :=
  s.act (fun c =>
    let b := (c.cell cell.toNat).rd rb.toNat
    c.accOp cell 3 a.toNat rb.toNat 0 0 mem true (accRes a.toNat (b.v.toInt * 2 ^ 40) b.p))

/-- ASHR: ⌊a / 2ⁿ⌋ (R108). -/
def execAshr (cell : BitVec 9) (a : BitVec 2) (n : BitVec 4) (mem : MemPorts) (s : State) : Host.Outcome State Fault Refusal :=
  s.act (fun c =>
    let r := (c.cell cell.toNat).ra a.toNat
    c.accOp cell 4 a.toNat 0 0 n.toNat mem true (accRes a.toNat (Int.fdiv r.v.toInt (2 ^ n.toNat)) r.p))

/-- ASHL: a × 2ⁿ under R94 (R108). -/
def execAshl (cell : BitVec 9) (a : BitVec 2) (n : BitVec 4) (mem : MemPorts) (s : State) : Host.Outcome State Fault Refusal :=
  s.act (fun c =>
    let r := (c.cell cell.toNat).ra a.toNat
    c.accOp cell 5 a.toNat 0 0 n.toNat mem true (accRes a.toNat (r.v.toInt * 2 ^ n.toNat) r.p))

/-- AADD (R94, R108, R141). -/
def execAadd (cell : BitVec 9) (a b : BitVec 2) (mem : MemPorts) (s : State) : Host.Outcome State Fault Refusal :=
  s.act (fun c =>
    let x := c.cell cell.toNat
    let p := x.ra a.toNat
    let q := x.ra b.toNat
    c.accOp cell 6 a.toNat b.toNat 0 0 mem true (accRes a.toNat (p.v.toInt + q.v.toInt) (p.p || q.p)))

/-- ASUB (R94, R108, R141). -/
def execAsub (cell : BitVec 9) (a b : BitVec 2) (mem : MemPorts) (s : State) : Host.Outcome State Fault Refusal :=
  s.act (fun c =>
    let x := c.cell cell.toNat
    let p := x.ra a.toNat
    let q := x.ra b.toNat
    c.accOp cell 7 a.toNat b.toNat 0 0 mem true (accRes a.toNat (p.v.toInt - q.v.toInt) (p.p || q.p)))

/-- AGET copies a part of an accumulator, zero-extended (R108). -/
def execAget (cell : BitVec 9) (a : BitVec 2) (rd : BitVec 4) (part : BitVec 2) (mem : MemPorts) (s : State) : Host.Outcome State Fault Refusal :=
  s.act (fun c =>
    let r := (c.cell cell.toNat).ra a.toNat
    let v : Word := (r.v >>> (32 * part.toNat)).setWidth 32
    c.accOp cell 8 a.toNat 0 rd.toNat part.toNat mem (decide (part.toNat ≤ 2))
      { Eff.none with res := [toD 1 rd.toNat { v := v, p := r.p }] })

/-- APUT writes a part of an accumulator; part 0 replaces the poison, parts 1 and 2 OR it in (R108, R141). -/
def execAput (cell : BitVec 9) (a : BitVec 2) (rb : BitVec 4) (part : BitVec 2) (mem : MemPorts) (s : State) : Host.Outcome State Fault Refusal :=
  s.act (fun c =>
    let x := c.cell cell.toNat
    let r := x.ra a.toNat
    let b := x.rd rb.toNat
    let k := part.toNat
    let m : AccWord := if k = 2 then 0xFFFF else 0xFFFFFFFF
    let v : AccWord := (r.v &&& ~~~(m <<< (32 * k))) ||| ((b.v.setWidth 80 &&& m) <<< (32 * k))
    c.accOp cell 9 a.toNat rb.toNat 0 k mem (decide (k ≤ 2))
      { Eff.none with res := [toA a.toNat { v := v, p := if k = 0 then b.p else r.p || b.p }] })

/-! ## Group ALU -/

/-- MOV (R108). -/
def execMov (cell : BitVec 9) (ra rd : BitVec 4) (mem : MemPorts) (s : State) : Host.Outcome State Fault Refusal :=
  s.act (fun c =>
    let a := (c.cell cell.toNat).rd ra.toNat
    c.alu cell 0 ra.toNat 0 0 rd.toNat mem a.v a.p 0)

/-- ADD saturates when MR.DSAT is 1 (R108). -/
def execAdd (cell : BitVec 9) (ra rb rd : BitVec 4) (mem : MemPorts) (s : State) : Host.Outcome State Fault Refusal :=
  s.act (fun c =>
    c.aluSum cell 1 ra rb rd mem (fun a b => a + b))

/-- SUB saturates when MR.DSAT is 1 (R108, R135). -/
def execSub (cell : BitVec 9) (ra rb rd : BitVec 4) (mem : MemPorts) (s : State) : Host.Outcome State Fault Refusal :=
  s.act (fun c =>
    c.aluSum cell 2 ra rb rd mem (fun a b => a - b))

/-- AND (R108). -/
def execAnd (cell : BitVec 9) (ra rb rd : BitVec 4) (mem : MemPorts) (s : State) : Host.Outcome State Fault Refusal :=
  s.act (fun c =>
    c.alu2 cell 3 ra rb rd mem (fun a b => a &&& b))

/-- OR (R108). -/
def execOr (cell : BitVec 9) (ra rb rd : BitVec 4) (mem : MemPorts) (s : State) : Host.Outcome State Fault Refusal :=
  s.act (fun c =>
    c.alu2 cell 4 ra rb rd mem (fun a b => a ||| b))

/-- XOR (R108). -/
def execXor (cell : BitVec 9) (ra rb rd : BitVec 4) (mem : MemPorts) (s : State) : Host.Outcome State Fault Refusal :=
  s.act (fun c =>
    c.alu2 cell 5 ra rb rd mem (fun a b => a ^^^ b))

/-- NEG saturates when MR.DSAT is 1 (R108). -/
def execNeg (cell : BitVec 9) (ra rd : BitVec 4) (mem : MemPorts) (s : State) : Host.Outcome State Fault Refusal :=
  s.act (fun c =>
    let x := c.cell cell.toNat
    let a := x.rd ra.toNat
    let r := aluSat (-a.v.toInt) x.dsat
    c.alu cell 6 ra.toNat 0 0 rd.toNat mem r.1 a.p r.2)

/-- ABS: 0x8000_0000 always gives 0x7FFF_FFFF and sets SR.SV (R108). -/
def execAbs (cell : BitVec 9) (ra rd : BitVec 4) (mem : MemPorts) (s : State) : Host.Outcome State Fault Refusal :=
  s.act (fun c =>
    let a := (c.cell cell.toNat).rd ra.toNat
    let r := aluSat a.v.toInt.natAbs true
    c.alu cell 7 ra.toNat 0 0 rd.toNat mem r.1 a.p r.2)

/-- MIN (R108). -/
def execMin (cell : BitVec 9) (ra rb rd : BitVec 4) (mem : MemPorts) (s : State) : Host.Outcome State Fault Refusal :=
  s.act (fun c =>
    c.alu2 cell 8 ra rb rd mem (fun a b => if a.slt b then a else b))

/-- MAX (R108). -/
def execMax (cell : BitVec 9) (ra rb rd : BitVec 4) (mem : MemPorts) (s : State) : Host.Outcome State Fault Refusal :=
  s.act (fun c =>
    c.alu2 cell 9 ra rb rd mem (fun a b => if a.slt b then b else a))

/-- ASR (R108). -/
def execAsr (cell : BitVec 9) (ra rb rd : BitVec 4) (mem : MemPorts) (s : State) : Host.Outcome State Fault Refusal :=
  s.act (fun c =>
    c.alu2 cell 10 ra rb rd mem (fun a b => a.sshiftRight (fld b 4 0)))

/-- LSR (R108). -/
def execLsr (cell : BitVec 9) (ra rb rd : BitVec 4) (mem : MemPorts) (s : State) : Host.Outcome State Fault Refusal :=
  s.act (fun c =>
    c.alu2 cell 11 ra rb rd mem (fun a b => a >>> fld b 4 0))

/-- LSL (R108). -/
def execLsl (cell : BitVec 9) (ra rb rd : BitVec 4) (mem : MemPorts) (s : State) : Host.Outcome State Fault Refusal :=
  s.act (fun c =>
    c.alu2 cell 12 ra rb rd mem (fun a b => a <<< fld b 4 0))

/-- SEL: D[RA] if D[RC] is negative, else D[RB] (R108, R141). -/
def execSel (cell : BitVec 9) (ra rb rc rd : BitVec 4) (mem : MemPorts) (s : State) : Host.Outcome State Fault Refusal :=
  s.act (fun c =>
    let x := c.cell cell.toNat
    let k := x.rd rc.toNat
    let v := if k.v.msb then x.rd ra.toNat else x.rd rb.toNat
    c.alu cell 13 ra.toNat rb.toNat rc.toNat rd.toNat mem v.v (v.p || k.p) 0)

/-! ## Group IMM -/

/-- LDI (R108, R110). -/
def execLdi (cell : BitVec 9) (rd : BitVec 4) (imm : BitVec 32) (s : State) : Host.Outcome State Fault Refusal :=
  s.act (fun c =>
    c.issue cell.toNat (encWord 5 0 0 0 0 rd.toNat 0 imm.toNat) true
      { Eff.none with res := [toD 0 rd.toNat { v := imm, p := false }] })

/-- SETP (R108). -/
def execSetp (cell : BitVec 9) (n : BitVec 3) (imm : BitVec 11) (s : State) : Host.Outcome State Fault Refusal :=
  s.act (fun c =>
    c.setSpec cell 1 n imm.toNat (8 + n.toNat) true)

/-- SETB (R108). -/
def execSetb (cell : BitVec 9) (n : BitVec 3) (imm : BitVec 11) (s : State) : Host.Outcome State Fault Refusal :=
  s.act (fun c =>
    c.setSpec cell 2 n imm.toNat (16 + n.toNat) true)

/-- SETL: the length is at most 2,048, a power of two with BREV (R108, R119). -/
def execSetl (cell : BitVec 9) (n : BitVec 3) (brev : Bool) (imm : BitVec 12) (s : State) : Host.Outcome State Fault Refusal :=
  s.act (fun c =>
    c.setSpec cell 3 n (32768 * ofFlag brev + imm.toNat) (24 + n.toNat) (lenLegal imm.toNat brev))

/-- SETM (R108). -/
def execSetm (cell : BitVec 9) (n : BitVec 3) (imm : BitVec 12) (s : State) : Host.Outcome State Fault Refusal :=
  s.act (fun c =>
    c.setSpec cell 4 n imm.toNat (32 + n.toNat) true)

/-! ## Group TILE -/

/-- TLOAD starts a move of a tile into a slot (R121, R123 to R126, R129). -/
def execTload (cell : BitVec 9) (slot : BitVec 3) (region : Bool) (t : TileIdx) (s : State) : Host.Outcome State Fault Refusal :=
  s.act (fun c =>
    c.moveOp cell false slot region t)

/-- TSTORE starts a move of a slot to a tile (R122 to R126, R129). -/
def execTstore (cell : BitVec 9) (slot : BitVec 3) (region : Bool) (t : TileIdx) (s : State) : Host.Outcome State Fault Refusal :=
  s.act (fun c =>
    c.moveOp cell true slot region t)

/-- TWAIT stalls while a masked slot is busy (R125). -/
def execTwait (cell : BitVec 9) (mask : BitVec 8) (s : State) : Host.Outcome State Fault Refusal :=
  s.act (fun c =>
    let x := c.cell cell.toNat
    c.issueWith cell.toNat (encWord 6 2 0 0 0 0 0 mask.toNat)
      ((List.range 8).any (fun k => mask.getLsbD k && x.busy k)) true (fun c => c) Eff.none)

/-- STRM starts the coefficient streamer; one that runs is stopped first, once any refill completes (R128, R130). DESIGN CHOICE
(log entry 46): it does not wait for a TLOAD or TSTORE still in flight on its slots; both complete, in the order of their rows. -/
def execStrm (cell : BitVec 9) (slot : BitVec 3) (region : Bool) (more : BitVec 8) (first : BitVec 14) (s : State) : Host.Outcome State Fault Refusal :=
  s.act (fun c =>
    let i := cell.toNat
    let g : StreamerCfg := { slot := slot.toNat, region := region, first := first.toNat, count := more.toNat + 1 }
    let w := encWord 6 3 0 0 0 0 slot.toNat (2 ^ 31 * ofFlag region + more.toNat * 65536 + first.toNat)
    let legal := slot.toNat % 2 == 0 && decide (first.toNat + more.toNat ≤ (if region then 16383 else 511))
    let start (c : Chip) : Chip := c.modCell i (fun x =>
      match x.streamer with
      | some t =>
        if t.refills.isEmpty then { x with streamer := some (streamerOf g) }
        else { x with streamer := some { t with stopping := true, restart := some g } }
      | none => { x with streamer := some (streamerOf g) })
    c.issueWith i w false legal start Eff.none)

/-- STNEXT releases the older delivered tile for refill; without a streamer it has no effect (R128, R130). DESIGN CHOICE (log
entry 46): it has none either while the older slot's delivery or refill is in progress or the streamer is stopping. -/
def execStnext (cell : BitVec 9) (s : State) : Host.Outcome State Fault Refusal :=
  s.act (fun c =>
    let i := cell.toNat
    let start (c : Chip) : Chip := c.modCell i (fun x =>
      match x.streamer with
      | some t =>
        let s := t.cfg.slot + ofFlag t.olderHigh
        if t.stopping || x.busy s then x
        else { x with streamer := some { t with refills := t.refills ++ [(s, t.next)], next := (t.next + 1) % t.cfg.count,
                                                olderHigh := !t.olderHigh } }
      | none => x)
    c.issueWith i (encWord 6 4 0 0 0 0 0 0) false true start Eff.none)

/-- STSTOP releases both slots once any refill in progress completes (R130). -/
def execStstop (cell : BitVec 9) (s : State) : Host.Outcome State Fault Refusal :=
  s.act (fun c =>
    let i := cell.toNat
    let start (c : Chip) : Chip := c.modCell i (fun x =>
      match x.streamer with
      | some t =>
        if t.refills.isEmpty then { x with streamer := none }
        else { x with streamer := some { t with stopping := true, restart := none } }
      | none => x)
    c.issueWith i (encWord 6 5 0 0 0 0 0 0) false true start Eff.none)

/-! ## Group CHAIN -/

/-- RECV reads a subscription slot (R108, R110, R135). -/
def execRecv (cell : BitVec 9) (rd : BitVec 4) (slot : BitVec 6) (mem : MemPorts) (s : State) : Host.Outcome State Fault Refusal :=
  s.act (fun c =>
    let x := c.cell cell.toNat
    c.issue cell.toNat (encChain 0 0 rd.toNat slot.toNat mem) (x.trav && portsLegal mem)
      (({ Eff.none with res := [toD 1 rd.toNat (x.sub slot.toNat).s] }).and (x.ports mem)))

/-- RECVP reads two subscription slots into a register pair (R108, R135). -/
def execRecvp (cell : BitVec 9) (rd : BitVec 4) (slot : BitVec 6) (mem : MemPorts) (s : State) : Host.Outcome State Fault Refusal :=
  s.act (fun c =>
    let x := c.cell cell.toNat
    c.issue cell.toNat (encChain 1 0 rd.toNat slot.toNat mem)
      (x.trav && portsLegal mem && rd.toNat % 2 == 0 && slot.toNat % 2 == 0)
      (({ Eff.none with res := [toD 1 rd.toNat (x.sub slot.toNat).s, toD 1 (rd.toNat + 1) (x.sub (slot.toNat + 1)).s] }).and
        (x.ports mem)))

/-- PUB writes a publish slot (R108, R135, R164). -/
def execPub (cell : BitVec 9) (ra : BitVec 4) (slot : BitVec 6) (mem : MemPorts) (s : State) : Host.Outcome State Fault Refusal :=
  s.act (fun c =>
    let i := cell.toNat
    let x := c.cell i
    c.issueWith i (encChain 2 ra.toNat 0 slot.toNat mem) false (x.trav && portsLegal mem)
      (fun c => c.publish i slot.toNat (x.rd ra.toNat)) (x.ports mem))

/-- PUBP writes two publish slots (R108, R135, R164). -/
def execPubp (cell : BitVec 9) (ra : BitVec 4) (slot : BitVec 6) (mem : MemPorts) (s : State) : Host.Outcome State Fault Refusal :=
  s.act (fun c =>
    let i := cell.toNat
    let x := c.cell i
    c.issueWith i (encChain 3 ra.toNat 0 slot.toNat mem) false
      (x.trav && portsLegal mem && ra.toNat % 2 == 0 && slot.toNat % 2 == 0)
      (fun c => (c.publish i slot.toNat (x.rd ra.toNat)).publish i (slot.toNat + 1) (x.rd (ra.toNat + 1)))
      (x.ports mem))

/-- GAIN applies a gain slot, taking at most one step (R144 to R146). -/
def execGain (cell : BitVec 9) (ra rd : BitVec 4) (slot : BitVec 6) (mem : MemPorts) (s : State) : Host.Outcome State Fault Refusal :=
  s.act (fun c =>
    let i := cell.toNat
    let x := c.cell i
    let a := x.rd ra.toNat
    let g := x.gain slot.toNat
    let g1 := g.execute a
    let r := sat32 (roundEven (a.v.toInt * (g1.cur.toNat : Int)) (2 ^ 28))
    let step (c : Chip) : Chip :=
      let c1 := c.modCell i (fun x => x.setGain slot.toNat g1)
      if g.timeoutStep a then c1.bump Reg.ENG_GAIN_TMO else c1
    c.issueWith i (encChain 4 ra.toNat rd.toNat slot.toNat mem) false (x.trav && portsLegal mem) step
      (({ Eff.none with res := [toD 1 rd.toNat { v := r.1, p := a.p }], flags := if r.2 then 2 ^ srSV else 0 }).and
        (x.ports mem)))

/-! ## Group SYS -/

/-- MTS writes a special register; an L value out of range makes it illegal (R91, R108, R141). -/
def execMts (cell : BitVec 9) (ra : BitVec 4) (n : BitVec 6) (s : State) : Host.Outcome State Fault Refusal :=
  s.act (fun c =>
    let x := c.cell cell.toNat
    let a := x.rd ra.toNat
    let isL := decide (24 ≤ n.toNat) && decide (n.toNat < 32)
    let legal := decide (n.toNat ≤ 39) && (!isL || lenLegal (fld a.v 11 0) (a.v.getLsbD 15))
    c.issue cell.toNat (encWord 8 0 ra.toNat 0 0 0 0 n.toNat) legal
      { Eff.none with res := [toSpec n.toNat a.v a.p] })

/-- MFS reads a special register, CELLID and TICK among them (R89, R91, R108). -/
def execMfs (cell : BitVec 9) (rd : BitVec 4) (n : BitVec 6) (s : State) : Host.Outcome State Fault Refusal :=
  s.act (fun c =>
    let x := c.cell cell.toNat
    let v : Sample :=
      if n.toNat = 42 then { v := BitVec.ofNat 32 (c.logOf cell.toNat), p := false }
      else if n.toNat = 43 then { v := c.eng.tick.setWidth 32, p := false }
      else x.readSpec n.toNat
    c.issue cell.toNat (encWord 8 1 0 0 0 rd.toNat 0 n.toNat) (decide (n.toNat ≤ 43))
      { Eff.none with res := [toD 0 rd.toNat v] })

/-! ## Illegal words -/

/-- ILLEGAL_INSTRUCTION: the cell issues a word that is illegal by its bits (R102, R103). -/
def execIllegalInstruction (cell : BitVec 9) (word : DWord) (s : State) : Host.Outcome State Fault Refusal :=
  s.act (fun c => if wordIllegal word && c.issues cell.toNat word then c.illegal cell.toNat else c)

end Sys2Proof.Machine
end

