-- ==== Sys2Proof/Machine/CellEvents.lean ====
section
/-! DEFINITION. What completes in the cells and the delay engines beside instructions: tile moves, streamer refills,
instruction fetches, wake events, read-ahead and write-behind (R121 to R134, R147 to R149, R193, R194). An operand `bad`
says that a tile was disturbed as it was read: it fails its check unless it carries the mark (R176), and what the slot then
holds beside its poison is free. -/
namespace Sys2Proof.Machine
open Sys2Proof

/-! ## Tile moves (R121 to R123, R127, R177) -/

/-- The tile number of a cell's backing memory, or of its region's memory. -/
def cellTile (i : Nat) (region : Bool) (t : Nat) : Nat := if region then 16384 * (i / 128) + t else 512 * i + t

/-- The words of 256 bytes, with one poison bit for all. -/
def tileWords (s : Nat) (b : List Byte) (p : Bool) : List (Nat × Sample) :=
  (List.range 64).map (fun k => (64 * s + k, ({ v := BitVec.ofNat 32 (leField b (4 * k) 4), p := p } : Sample)))

/-- Fills slot `s` of a cell. -/
def Cell.fillSlot (x : Cell) (s : Nat) (b : List Byte) (p : Bool) : Cell :=
  (tileWords s b p).foldl (fun y w => y.setWord w.1 w.2) x

/-- A tile arrives in a slot of cell `i`: it is verified, and a failure or the mark poisons every word (R121). -/
def Chip.tileArrive (c : Chip) (i s mover : Nat) (region : Bool) (tile : Nat) (bad : Bool) : Chip :=
  let sp : Space := if region then .region else .back
  let t := cellTile i region tile
  let mk := marked (c.mem.entry sp t)
  let hit := bad && !mk
  let fails := hit || c.mem.fails sp t
  let c1 := if fails then c.tileCheck mover i (i / 128) tile else c
  let x : List Byte × Chip := if hit then c1.freeTile else (c1.mem.tile sp t, c1)
  x.2.modCell i (fun y => y.fillSlot s x.1 (fails || mk))

/-- The bytes of a slot, and whether a word of it is poisoned (R122). -/
def Cell.slotBytes (x : Cell) (s : Nat) : List Byte × Bool :=
  ((List.range 64).flatMap (fun k => leBytes 4 (x.word (64 * s + k)).v.toNat),
    (List.range 64).any (fun k => (x.word (64 * s + k)).p))

/-- A move of cell `i` that names slot `s` completes; one of region memory has been granted by the port (R171, R172). -/
def Chip.moveDone (c0 : Chip) (i s : Nat) (bad : Bool) : Chip :=
  match (c0.cell i).moves.find? (fun m => m.slot == s) with
  | none => c0
  | some m =>
    let c := if m.region then c0.portServe (i / 128) { rank := if m.bg then 3 else 2, cell := i, slot := s } else c0
    let c1 :=
      if m.store then
        let b := (c.cell i).slotBytes s
        { c with mem := c.mem.putTile (if m.region then .region else .back) (cellTile i m.region m.tile) b.1 b.2 }
      else c.tileArrive i s 1 m.region m.tile bad
    c1.modCell i (fun x => { x with moves := x.moves.filter (fun n => n.slot != s) })

def execTileMoveComplete (cell : BitVec 9) (slot : BitVec 3) (bad : Bool) (s : State) : Host.Outcome State Fault Refusal :=
  s.act (fun c => c.moveDone cell.toNat slot.toNat bad)

/-! ## The coefficient streamer (R128, R130) -/

/-- A refill of slot `s` completes; a stop or a new start that waited for it then takes effect. -/
def Chip.refillDone (c0 : Chip) (i s : Nat) (bad : Bool) : Chip :=
  match (c0.cell i).streamer with
  | none => c0
  | some t =>
    match t.refills.find? (fun r => r.1 == s) with
    | none => c0
    | some r =>
      let c := if t.cfg.region then c0.portServe (i / 128) { rank := 1, cell := i, slot := s } else c0
      let c1 := c.tileArrive i s 2 t.cfg.region (t.cfg.first + r.2) bad
      let rest := t.refills.filter (fun r => r.1 != s)
      let t1 : Option Streamer :=
        if t.stopping && rest.isEmpty then t.restart.map streamerOf else some { t with refills := rest }
      c1.modCell i (fun x => { x with streamer := t1 })

def execStreamerRefillDone (cell : BitVec 9) (slot : BitVec 3) (bad : Bool) (s : State) : Host.Outcome State Fault Refusal :=
  s.act (fun c => c.refillDone cell.toNat slot.toNat bad)

/-! ## Instruction fetch (R131 to R134) -/

def execFetchComplete (cell : BitVec 9) (tile : BitVec 7) (bad : Bool) (s : State) : Host.Outcome State Fault Refusal :=
  s.act (fun c => c.fetchDone cell.toNat tile.toNat bad)

/-! ## Power of cells (R147 to R149) -/

/-- A wake event moves an OFF cell to WAKING; shed stages 4 and 5 keep the cells OFF. -/
def execWakeEvent (cell : BitVec 9) (s : State) : Host.Outcome State Fault Refusal :=
  s.act (fun c =>
    if c.sys.up && decide (c.pwr.stage < 4) && (c.cell cell.toNat).power == .off then
      c.modCell cell.toNat (fun x => { x with power := .waking })
    else c)

/-- A cell that becomes ON (R92): it executes nothing before the next tick entry, and the writes that have waited for it
proceed (R149). -/
def Chip.cellOn (c : Chip) (i : Nat) : Chip :=
  let none := (c.progs i).isEmpty
  (c.modCell i (fun x =>
    let y : Cell := { x with power := .on, fresh := true }
    if none then { (y.freshRun 0) with bg := .noProgram } else y.freshRun (c.restartOf i))).portDrain i

def execCellOn (cell : BitVec 9) (s : State) : Host.Outcome State Fault Refusal :=
  s.act (fun c => if (c.cell cell.toNat).power == .waking then c.cellOn cell.toNat else c)

/-- A cell is not ON within 10 µs; a retirement whose spare it is is abandoned (R148, R224, R291). -/
def Chip.wakeFails (c : Chip) (i : Nat) : Chip :=
  let c1 := ((c.modCell i (fun x => { x with power := .wakeFail, dead := true })).setFlags (36 + i / 16)
    (putBit (c.bellFlag (36 + i / 16)) (i % 16) true)).mbxCount 2 (i / 128) (i / 16 % 8) (i % 16)
  match c1.graph.retire with
  | some r => if c1.spareOf r.laddr = i then c1.retireAbandon rNoResource else c1
  | none => c1

def execWakeFail (cell : BitVec 9) (s : State) : Host.Outcome State Fault Refusal :=
  s.act (fun c => if (c.cell cell.toNat).power == .waking then c.wakeFails cell.toNat else c)

/-! ## Delay lines in DRAM (R193, R194) -/

/-- A tile of a DRAM line reaches the read-ahead buffer of a tap, if it is one of the two that the tap needs next. -/
def Chip.readAhead (c : Chip) (r tap tile : Nat) (bad : Bool) : Chip :=
  match c.findTap r tap with
  | some t =>
    (match c.findLine r t.line with
      | some d =>
        (match (c.wantedLaps d t).find? (fun n => n % d.tiles == tile) with
          | some n => if d.dram then c.takeAhead d t n bad else c
          | none => c)
      | none => c)
  | none => c

def execDramReadaheadDone (region : BitVec 2) (tap : BitVec 10) (tile : BitVec 18) (bad : Bool) (s : State) :
    Host.Outcome State Fault Refusal :=
  s.act (fun c => c.readAhead region.toNat tap.toNat tile.toNat bad)

/-- A full tile of a line waits in BUF that the list names by line and tile. -/
def behindNamed (l : List (Nat × Nat)) (d : Line) (b : Behind) : Bool := l.any (fun e => e.1 == d.line && e.2 == b.lap % d.tiles)

/-- In an affected tick the tiles of an engine that have missed their window stay in BUF: they are written, with the mark, in
the first tick that is not affected. The tick counts CHAIN_LATE once for the engine, at the lowest of the write ports
(R194, R199). -/
def Chip.writeBehind (c : Chip) (r : Nat) (l : List (Nat × Nat)) : Chip :=
  let hit := c.linesLive.filter (fun d => d.region == r && d.dram && (c.lineSt d.key).behind.any (behindNamed l d))
  match (hit.map (fun d => d.line)).min? with
  | none => c
  | some low =>
    if c.traversed then
      (hit.foldl (fun c d =>
        let s := c.lineSt d.key
        c.setLine d.key { s with behind := s.behind.map (fun b => if behindNamed l d b then { b with late := true, absent := true } else b) }) c).delayLate
        r 2 (0x6000 + 512 * r + low)
    else c

def execWriteBehindOverflow (region : BitVec 2) (tiles : List (BitVec 9 × BitVec 18)) (s : State) : Host.Outcome State Fault Refusal :=
  s.act (fun c => c.writeBehind region.toNat (tiles.map (fun e => (e.1.toNat, e.2.toNat))))

end Sys2Proof.Machine
end

