-- ==== Sys2Proof/Machine/RegOps.lean ====
section
/-! DEFINITION. The registers as they read: stored values, values shown from the state they stand for, and the halves that
a read of a low register latches (R38 to R41, R61). -/
namespace Sys2Proof.Machine
open Sys2Proof

/-! ## Interrupt conditions (R44, R45) -/

/-- Any of the bits of a mask is set. -/
def Chip.anyBit (c : Chip) (a mask : Nat) : Bool := ((c.reg a).toNat &&& mask) != 0

/-- A bit of an event register is set that raised its vector. -/
def Chip.pending (c : Chip) (a : Nat) : Bool := c.anyBit a (c.raisedBits a).toNat

/-- The source of a vector holds a condition that is not cleared. -/
def Chip.source (c : Chip) (v : Nat) : Bool :=
  if v < 8 then c.anyBit (Reg.CMD_EVENT v) (c.reg (Reg.CMD_INT_EN v)).toNat
  else if v = 8 then c.pending Reg.FLT_EVENT || c.pending Reg.FLT_RAISED
  else if v = 9 then c.pending Reg.DTM_EVENT
  else if v = 10 then c.pending Reg.SAP_EVENT
  else if v = 11 then c.pending Reg.NET_EVENT
  else if v = 12 then c.pending Reg.DRV_EVENT
  else if v = 13 then c.pending Reg.PAIR_EVENT
  else if v = 14 then c.pending Reg.DMA_EVENT
  else if v = 15 then c.pending Reg.PWR_EVENT
  else if v = 16 then c.pending Reg.CUE_EVENT
  else if v = 17 then c.pending Reg.ENG_EVENT || c.pending Reg.ENG_CHAIN_EVENT || c.pending Reg.ENG_GRAPH_EVENT ||
    c.pending Reg.ENG_PARAM_EVENT || c.pending Reg.ENG_MBX_EVENT
  else false

/-- GCTL_MSIX_SRC. -/
def Chip.msixSrc (c : Chip) : Word := BitVec.ofNat 32 ((List.range 18).foldl (fun n v => if c.source v then n + 2 ^ v else n) 0)

/-! ## Registers shown from state -/

/-- EXEC_READY as it reads (R27, R464). -/
def Chip.execReady (c : Chip) : Bool := c.sys.execReady && c.sys.execAlive

/-- RATE and ENGINE as they read. -/
def Chip.rateEngine (c : Chip) : Nat := (match c.eng.rate with
    | some r => r.code
    | none => 0) + 16 * c.engineCode

/-- The low and the high half of a 64-bit value. -/
def loHalf (x : Nat) : Word := BitVec.ofNat 32 x
def hiHalf (x : Nat) : Word := BitVec.ofNat 32 (x / 2 ^ 32)

/-- The registers of GCTL shown from state. -/
def Chip.readGctl (c : Chip) (a : Nat) : Option Word :=
  if a = Reg.GCTL_TICK_LO then some (loHalf c.tickN)
  else if a = Reg.GCTL_TICK_HI then some (hiHalf c.tickN)
  else if a = Reg.GCTL_STATUS then
    some (putFld (putFld (putFld (putFld 0 7 0 c.rateEngine) 8 8 (ofFlag c.execReady)) 9 9 (ofFlag c.pair.owner)) 10 10 (ofFlag c.cmd.session.isOpen))
  else if a = Reg.GCTL_STRAP then some (BitVec.ofNat 32 (c.sys.straps % 64 - 8 * (c.sys.straps / 8 % 2)))
  else if a = Reg.GCTL_MSIX_SRC then some c.msixSrc
  else none

/-- The selected cell's status (R150). -/
def Chip.cellStat (c : Chip) : Word :=
  let i := c.regFld Reg.ENG_CELL_SEL 8 0
  let x := c.cell i
  let l := c.logOf i % 16
  let pwr := match x.power with
    | .off => 0
    | .waking => 1
    | .on => 2
    | .wakeFail => 3
  let bg := match x.bg with
    | .ready => 0
    | .waiting => 1
    | .abandoned => 2
    | .noProgram => 3
  putFld (putFld (putFld (putFld (putFld 0 7 2 (fld x.sticky 7 2)) 15 12 l) 28 27 bg) 29 29 (ofFlag (l == 15))) 31 30 pwr

/-- ENG_GRAPH_STAT (R223, and its table). -/
def Chip.graphStat (c : Chip) : Word :=
  putFld (putFld (putFld (putFld (putFld (putFld 0 0 0 (ofFlag c.graph.live.isSome)) 7 4 c.graph.bank.pend) 8 8 (ofFlag c.graph.fade.isSome))
    9 9 (ofFlag c.graph.retire.isSome)) 17 16 (if c.graph.dropFrom = 4 then 0 else c.graph.dropFrom)) 23 20 c.graph.settled

/-- The registers of ENG shown from state. -/
def Chip.readEng (c : Chip) (a : Nat) : Option Word :=
  if a = Reg.ENG_TICK_LO then some (loHalf c.tickN)
  else if a = Reg.ENG_TICK_HI then some (hiHalf c.tickN)
  else if a = Reg.ENG_STATE then
    some (putFld (putFld (putFld (putFld 0 7 0 c.rateEngine) 8 8 (ofFlag c.eng.cell1000)) 9 9 (ofFlag c.eng.change.isSome)) 10 10
      (ofFlag (c.eng.suspended && c.eng.holdIndef)))
  else if a = Reg.ENG_SUSPEND_LEFT then some (if c.eng.suspended && !c.eng.holdIndef then BitVec.ofNat 32 c.eng.holdLeft else 0)
  else if a = Reg.ENG_LEG_LEN then
    some (match c.eng.rate with
      | some r => putFld (putFld 0 15 0 (budget r c.eng.cell1000 / 4)) 17 16 (budget r c.eng.cell1000 % 4)
      | none => 0)
  else if a = Reg.ENG_CELL_STAT then some c.cellStat
  else if a = Reg.ENG_CELL_ON then
    some (BitVec.ofNat 32 (c.cells.filter (fun e => e.2.power == .waking || e.2.power == .on)).length)
  else if a = Reg.ENG_CTT_LO then
    some (BitVec.ofNat 32 ((List.range 8).foldl (fun n i => n + c.ctt (c.regFld Reg.ENG_CTT_SEL 4 0) i * 16 ^ i) 0))
  else if a = Reg.ENG_CTT_HI then
    some (BitVec.ofNat 32 ((List.range 8).foldl (fun n i => n + c.ctt (c.regFld Reg.ENG_CTT_SEL 4 0) (8 + i) * 16 ^ i) 0))
  else if a = Reg.ENG_MUTE_CNT then some (putFld (c.reg a) 28 16 c.mutedCount)
  else if a = Reg.ENG_LIVE_ID_LO then some (loHalf c.imageId.toNat)
  else if a = Reg.ENG_LIVE_ID_HI then some (hiHalf c.imageId.toNat)
  else if a = Reg.ENG_GRAPH_STAT then some c.graphStat
  else if a = Reg.ENG_FADE_LEFT then
    some (match c.graph.fade with
      | some f => BitVec.ofNat 32 (f.f - f.j)
      | none => 0)
  else if a = Reg.ENG_RETIRE then
    some (match c.graph.retire with
      | some r => putFld (putFld 0 31 30 (if r.shadow then 2 else 1)) 15 0 (64 * r.laddr)
      | none => 0)
  else if a = Reg.ENG_RETIRE_LEFT then
    some (match c.graph.retire with
      | some r => if r.shadow then BitVec.ofNat 32 r.left else 0
      | none => 0)
  else if a = Reg.ENG_STK_STAT then
    some (putFld (putFld (c.reg a) 31 30 c.graph.stakeOrigin) 29 29 (ofFlag c.graph.stakeMod))
  else if a = Reg.ENG_TAIL_STAT then
    some (putFld (putFld 0 31 16 c.tailSum) 8 0 (c.chain.tails.filter (fun e => e.2.isSome)).length)
  else if a = Reg.ENG_DITHER_STAT then
    some (match c.graph.live with
      | some g => BitVec.ofNat 32 g.dither.length
      | none => 0)
  else none

/-- The stream that NET_STRM_SEL shows (R403, R410). -/
def Chip.strmStat (c : Chip) : Word :=
  let k := c.regFld Reg.NET_STRM_SEL 9 0
  let s := c.stream k
  let tx := decide (512 ≤ k)
  let okA := !tx && decide (0 < s.okA)
  let okB := !tx && decide (0 < s.okB)
  putFld (putFld (putFld (putFld (putFld (putFld (putFld (putFld 0 31 31 (ofFlag s.en)) 30 30 (ofFlag (!tx && s.flags.testBit 2))) 29 29
    (ofFlag okA)) 28 28 (ofFlag okB)) 27 26 s.fmt) 25 23 s.code) 22 16 s.ch) 11 0 s.first

/-- The registers of DTM, SAP and NET shown from state. -/
def Chip.readPorts (c : Chip) (a : Nat) : Option Word :=
  if Reg.DTM_REF_CFG ≤ a ∧ a ≤ Reg.DTM_REF_CNT ∧ a % 4 = 0 then
    some (if c.regFld Reg.DTM_REF_SEL 4 0 < 18 then c.reg (refCFG (c.regFld Reg.DTM_REF_SEL 4 0) + (a - Reg.DTM_REF_CFG)) else 0)
  else if Reg.SAP_TDM_CFG 0 ≤ a ∧ a < Reg.SAP_TDM_CFG 16 ∧ (a % 32 = 12 ∨ a % 32 = 16) then
    let cfg := c.reg (Reg.SAP_TDM_CFG ((a - Reg.SAP_TDM_CFG 0) / 32))
    some (c.divReg (if a % 32 = 12 then fld cfg 13 3 else mclkMult (fld cfg 2 0)))
  else if a = Reg.NET_STRM_STAT then some c.strmStat
  else if a = Reg.NET_STRM_BUF then some (BitVec.ofNat 32 c.bufSum)
  else if a = Reg.NET_PPS_RX then some (BitVec.ofNat 32 (c.ppsSum 0))
  else if a = Reg.NET_PPS_TX then some (BitVec.ofNat 32 (c.ppsSum 1))
  else if a = Reg.NET_TIME_NS then some c.dtm.time.ns
  else if a = Reg.NET_TIME_SEC_LO then some (c.dtm.time.sec.setWidth 32)
  else if a = Reg.NET_TIME_SEC_HI then some ((c.dtm.time.sec >>> 32).setWidth 32)
  else none

/-- The registers of PAIR, DDR, PWR and CMD shown from state. -/
def Chip.readRest (c : Chip) (a : Nat) : Option Word :=
  let tick (f : Beat → Nat) : Nat := match c.pair.beat with
    | some b => f b
    | none => 0
  if a = Reg.PAIR_STAT then some c.pairStat
  else if a = Reg.PAIR_HB_TICK_LO then some (loHalf (tick (fun b => b.tick.toNat)))
  else if a = Reg.PAIR_HB_TICK_HI then some (hiHalf (tick (fun b => b.tick.toNat)))
  else if a = Reg.PAIR_RELEASE_LO then some (loHalf (c.pair.releaseAt.getD 0))
  else if a = Reg.PAIR_RELEASE_HI then some (hiHalf (c.pair.releaseAt.getD 0))
  else if a = Reg.DDR_STAT then some (putFld (c.reg a) 4 3 (bits c.sys.straps 5 4))
  else if a = Reg.PWR_STAT then
    some (putFld (putFld (putFld (putFld 0 31 29 c.pwr.stage) 28 26 c.pwr.supply) 25 25 (ofFlag c.pwr.thermal)) 24 24 (ofFlag c.pwr.crit))
  else if a = Reg.CMD_SESSION true then
    some (putFld (putFld (putFld (putFld 0 31 31 (ofFlag c.cmd.session.isOpen)) 30 30 (ofFlag c.cmd.session.lockout)) 29 28 c.cmd.session.slot)
      7 0 c.cmd.session.fails)
  else if a = Reg.CMD_SESSION false then some 0
  else
    match (List.range 8).find? (fun n => a == Reg.CMD_STATUS n) with
    | some n =>
      let st := match (c.chan n).st with
        | .idle => 0
        | .ringing => 1
        | .taken => 2
      some (putFld (putFld (putFld (putFld 0 31 16 (c.chan n).lastSeq) 4 4 (ofFlag (chPf1 n && c.cmd.session.isOpen))) 3 3 (ofFlag c.cmd.held)) 1 0 st)
    | none => none

/-- A register as a 64-bit read, or a read that latches nothing, returns it. -/
def Chip.regLive (c : Chip) (a : Nat) : Word :=
  match c.readGctl a with
  | some v => v
  | none =>
    match c.readEng a with
    | some v => v
    | none =>
      match c.readPorts a with
      | some v => v
      | none =>
        match c.readRest a with
        | some v => v
        | none => if (regRow a).isSome then c.reg a else 0

/-! ## Latched halves (R40, R61) -/

/-- The high registers that a 32-bit read of a low register latches. -/
def latchOf (a : Nat) : List Nat :=
  if a = Reg.GCTL_TICK_LO then [Reg.GCTL_TICK_HI]
  else if a = Reg.ENG_TICK_LO then [Reg.ENG_TICK_HI]
  else if a = Reg.ENG_LIVE_ID_LO then [Reg.ENG_LIVE_ID_HI]
  else if a = Reg.SAP_REL_TICK_LO then [Reg.SAP_REL_TICK_HI]
  else if a = Reg.PAIR_HB_TICK_LO then [Reg.PAIR_HB_TICK_HI]
  else if a = Reg.PAIR_RELEASE_LO then [Reg.PAIR_RELEASE_HI]
  else if a = Reg.BMX_DEC_ADDR_LO then [Reg.BMX_DEC_ADDR_HI]
  else if a = Reg.BMX_ERR_ADDR_LO then [Reg.BMX_ERR_ADDR_HI]
  else if a = Reg.NET_TIME_NS then [Reg.NET_TIME_SEC_LO, Reg.NET_TIME_SEC_HI]
  else
    match (List.range 16).find? (fun n => a == Reg.DMA_CH_RES_ADDR_LO n) with
    | some n => [Reg.DMA_CH_RES_ADDR_HI n]
    | none => []

/-- A register that shows a latched half. -/
def isLatched (a : Nat) : Bool :=
  [Reg.GCTL_TICK_HI, Reg.ENG_TICK_HI, Reg.ENG_LIVE_ID_HI, Reg.SAP_REL_TICK_HI, Reg.PAIR_HB_TICK_HI, Reg.PAIR_RELEASE_HI,
    Reg.BMX_DEC_ADDR_HI, Reg.BMX_ERR_ADDR_HI, Reg.NET_TIME_SEC_LO, Reg.NET_TIME_SEC_HI].contains a ||
  (List.range 16).any (fun n => a == Reg.DMA_CH_RES_ADDR_HI n)

def latch0 : Nat → Word := fun _ => 0

/-- A register as a 32-bit read returns it. -/
def Chip.regRead (c : Chip) (a : Nat) : Word := if isLatched a then Map.get latch0 c.host.latches a else c.regLive a

/-- A 32-bit read of a low register latches its high half. -/
def Chip.latch (c : Chip) (a : Nat) : Chip :=
  (latchOf a).foldl (fun d h => { d with host := { d.host with latches := Map.put latch0 d.host.latches h (c.regLive h) } }) c

/-! ## The host's completions (R36 to R41) -/

/-- A successful completion with its data. -/
def Chip.complete (c : Chip) (v : Nat) : Chip := { c with host := { c.host with rsp := { status := 1, data := BitVec.ofNat 64 v } } }

/-! ## Counter clears (R87, R509, R510) -/

/-- The registers that a bit of a clear register returns to their reset values. -/
def clearTable : List (Nat × Nat × List Nat) :=
  [(Reg.GCTL_CNT_CLR, 0, [Reg.GCTL_ABORT_CNT, Reg.GCTL_ABORT_LAST]),
    (Reg.ENG_CNT_CLR, 0, [Reg.ENG_CLOSURE_OVR, Reg.ENG_CLOSURE_LAST]), (Reg.ENG_CNT_CLR, 1, [Reg.ENG_HELD_CNT]),
    (Reg.ENG_CNT_CLR, 2, [Reg.ENG_MARGIN_MIN]), (Reg.ENG_CELL_CLR, 1, [Reg.ENG_ILL_CNT]),
    (Reg.ENG_CHAIN_CLR, 0, [Reg.ENG_TCHK_CNT, Reg.ENG_TCHK_LAST]), (Reg.ENG_CHAIN_CLR, 1, [Reg.ENG_LATE_CNT, Reg.ENG_LATE_LAST]),
    (Reg.ENG_CHAIN_CLR, 2, [Reg.ENG_COLL_CNT, Reg.ENG_COLL_LAST]), (Reg.ENG_CHAIN_CLR, 3, [Reg.ENG_MUTE_CNT, Reg.ENG_MUTE_LAST]),
    (Reg.ENG_CHAIN_CLR, 4, [Reg.ENG_DLY_MARGIN]), (Reg.ENG_GRAPH_CLR, 0, [Reg.ENG_STK_STAT])] ++
  [(Reg.ENG_PARAM_CLR, 0, [Reg.ENG_PARAM_DROP]), (Reg.ENG_PARAM_CLR, 1, [Reg.ENG_PARAM_MARK]), (Reg.ENG_PARAM_CLR, 2, [Reg.ENG_GAIN_TMO]),
    (Reg.ENG_PARAM_CLR, 3, [Reg.ENG_TAIL_LATE]), (Reg.ENG_MBX_CLR, 0, [Reg.ENG_MBX_CNT, Reg.ENG_MBX_LAST]),
    (Reg.CMD_CNT_CLR false, 0, [Reg.CMD_TMO_CNT false]), (Reg.CMD_CNT_CLR false, 1, [Reg.CMD_EFFECT_FAIL false]),
    (Reg.CMD_CNT_CLR true, 0, [Reg.CMD_TMO_CNT true]), (Reg.CMD_CNT_CLR true, 1, [Reg.CMD_EFFECT_FAIL true]),
    (Reg.DTM_CNT_CLR, 0, [Reg.DTM_LOST_CNT]), (Reg.DTM_CNT_CLR, 1, [Reg.DTM_UNLOCK_CNT]),
    (Reg.DTM_CNT_CLR, 2, (List.range 18).map refCNT), (Reg.CLK_CNT_CLR, 0, [Reg.CLK_TRIP_CNT]), (Reg.CLK_CNT_CLR, 1, [Reg.CLK_FORCE_HIT])] ++
  [(Reg.SAP_CNT_CLR, 0, [Reg.SAP_SLIP_CNT]), (Reg.SAP_CNT_CLR, 1, [Reg.SAP_NA_CNT]), (Reg.SAP_CNT_CLR, 2, [Reg.SAP_PAR_CNT]),
    (Reg.NET_CNT_CLR, 0, [Reg.NET_CRC_CNT]), (Reg.NET_CNT_CLR, 1, [Reg.NET_RUNT_CNT]), (Reg.NET_CNT_CLR, 2, [Reg.NET_OVERSIZE_CNT]),
    (Reg.NET_CNT_CLR, 3, [Reg.NET_LATE_CNT]), (Reg.NET_CNT_CLR, 4, [Reg.NET_GAP_CNT]), (Reg.DRV_CNT_CLR, 0, [Reg.DRV_OC_CNT]),
    (Reg.DRV_CNT_CLR, 1, [Reg.DRV_DC_CNT]), (Reg.DRV_CNT_CLR, 2, [Reg.DRV_LOAD_CNT]), (Reg.DRV_CNT_CLR, 3, [Reg.DRV_RAIL_CNT]),
    (Reg.DRV_CNT_CLR, 4, [Reg.DRV_SENSE_ERR]), (Reg.PAIR_CNT_CLR, 0, [Reg.PAIR_HB_CNT]),
    (Reg.PAIR_CNT_CLR, 1, [Reg.PAIR_DIV_CNT, Reg.PAIR_DIV_LAST]), (Reg.PAIR_CNT_CLR, 2, [Reg.PAIR_TAKE_CNT]),
    (Reg.PAIR_CNT_CLR, 3, [Reg.PAIR_LINK_ERR])] ++
  [(Reg.DDR_CNT_CLR, 0, [Reg.DDR_XFER_CNT, Reg.DDR_XFER_ADDR]), (Reg.DDR_CNT_CLR, 1, [Reg.DDR_TCHK_CNT, Reg.DDR_TCHK_ADDR]),
    (Reg.DDR_CNT_CLR, 2, [Reg.DDR_CORR_CNT]), (Reg.DDR_CNT_CLR, 3, [Reg.DDR_RETRAIN_CNT]), (Reg.DDR_CNT_CLR, 4, [Reg.DDR_FWD_CNT]),
    (Reg.DDR_CNT_CLR, 5, [Reg.DDR_ABSENT]), (Reg.BMX_CNT_CLR, 0, [Reg.BMX_DEC_CNT, Reg.BMX_DEC_ADDR_LO, Reg.BMX_DEC_ADDR_HI]),
    (Reg.BMX_CNT_CLR, 1, [Reg.BMX_ERR_CNT, Reg.BMX_ERR_ADDR_LO, Reg.BMX_ERR_ADDR_HI]), (Reg.BMX_CNT_CLR, 2, [Reg.BMX_HOLD_CNT]),
    (Reg.DMA_CNT_CLR, 0, [Reg.DMA_ERR_CNT]), (Reg.FLT_CNT_CLR, 0, [Reg.FLT_WDOG_CNT]), (Reg.FLT_CNT_CLR, 1, [Reg.FLT_FB_CNT]),
    (Reg.PWR_CNT_CLR, 0, [Reg.PWR_SAG_CNT]), (Reg.PWR_CNT_CLR, 1, [Reg.PWR_THERM_CNT]), (Reg.PWR_CNT_CLR, 2, [Reg.PWR_VMIN])] ++
  (List.range 8).map (fun n => (Reg.CMD_CLR n, 0, [Reg.CMD_IGNORED n]))

/-- One bit of a clear register is written to 1. -/
def Chip.clearBit (c : Chip) (a bit : Nat) : Chip :=
  let c1 := match clearTable.find? (fun e => e.1 == a && e.2.1 == bit) with
    | some e => e.2.2.foldl (fun c r => c.setReg r (regReset r)) c
    | none => c
  if a = Reg.ENG_CELL_CLR ∧ bit = 0 then c1.modCell (c.regFld Reg.ENG_CELL_SEL 8 0) (fun x => { x with sticky := 0 })
  else if a = Reg.NET_CNT_CLR ∧ 5 ≤ bit then
    { c1 with net := { c1.net with stats := c1.net.stats.filter (fun e => e.1 / 16 != bit - 5) } }
  else c1

/-- A write to a clear register: every bit that it holds and the value sets. -/
def Chip.clearWrite (c : Chip) (a : Nat) (v : Word) : Chip :=
  (List.range 9).foldl (fun c i => if v.getLsbD i then c.clearBit a i else c) c

/-- The counters of R510: register, upper half, and the clear bit. -/
def cntTable : List (Nat × Bool × Nat × Nat) :=
  let k (r clr bit : Nat) : Nat × Bool × Nat × Nat := (r, false, clr, bit)
  [k Reg.GCTL_ABORT_CNT Reg.GCTL_CNT_CLR 0, k Reg.ENG_CLOSURE_OVR Reg.ENG_CNT_CLR 0, k Reg.ENG_HELD_CNT Reg.ENG_CNT_CLR 1,
    k Reg.ENG_ILL_CNT Reg.ENG_CELL_CLR 1, k Reg.ENG_TCHK_CNT Reg.ENG_CHAIN_CLR 0, k Reg.ENG_LATE_CNT Reg.ENG_CHAIN_CLR 1,
    k Reg.ENG_MUTE_CNT Reg.ENG_CHAIN_CLR 3, k Reg.ENG_STK_STAT Reg.ENG_GRAPH_CLR 0, k Reg.ENG_PARAM_DROP Reg.ENG_PARAM_CLR 0,
    k Reg.ENG_PARAM_MARK Reg.ENG_PARAM_CLR 1, k Reg.ENG_GAIN_TMO Reg.ENG_PARAM_CLR 2, k Reg.ENG_TAIL_LATE Reg.ENG_PARAM_CLR 3,
    k Reg.ENG_MBX_CNT Reg.ENG_MBX_CLR 0, k Reg.ENG_COLL_CNT Reg.ENG_CHAIN_CLR 2] ++
  (List.range 8).map (fun n => k (Reg.CMD_IGNORED n) (Reg.CMD_CLR n) 0) ++
  [k (Reg.CMD_TMO_CNT false) (Reg.CMD_CNT_CLR false) 0, k (Reg.CMD_TMO_CNT true) (Reg.CMD_CNT_CLR true) 0,
    k (Reg.CMD_EFFECT_FAIL false) (Reg.CMD_CNT_CLR false) 1, k (Reg.CMD_EFFECT_FAIL true) (Reg.CMD_CNT_CLR true) 1,
    k Reg.DTM_LOST_CNT Reg.DTM_CNT_CLR 0, k Reg.DTM_UNLOCK_CNT Reg.DTM_CNT_CLR 1] ++
  (List.range 18).map (fun r => (refCNT r, true, Reg.DTM_CNT_CLR, 2)) ++ (List.range 18).map (fun r => k (refCNT r) Reg.DTM_CNT_CLR 2) ++
  [k Reg.CLK_TRIP_CNT Reg.CLK_CNT_CLR 0, k Reg.CLK_FORCE_HIT Reg.CLK_CNT_CLR 1, k Reg.SAP_SLIP_CNT Reg.SAP_CNT_CLR 0,
    k Reg.SAP_NA_CNT Reg.SAP_CNT_CLR 1, k Reg.SAP_PAR_CNT Reg.SAP_CNT_CLR 2, k Reg.NET_CRC_CNT Reg.NET_CNT_CLR 0,
    k Reg.NET_RUNT_CNT Reg.NET_CNT_CLR 1, k Reg.NET_OVERSIZE_CNT Reg.NET_CNT_CLR 2, k Reg.NET_LATE_CNT Reg.NET_CNT_CLR 3,
    k Reg.NET_GAP_CNT Reg.NET_CNT_CLR 4, k Reg.DRV_OC_CNT Reg.DRV_CNT_CLR 0, k Reg.DRV_DC_CNT Reg.DRV_CNT_CLR 1,
    k Reg.DRV_LOAD_CNT Reg.DRV_CNT_CLR 2, k Reg.DRV_RAIL_CNT Reg.DRV_CNT_CLR 3, k Reg.DRV_SENSE_ERR Reg.DRV_CNT_CLR 4,
    k Reg.PAIR_HB_CNT Reg.PAIR_CNT_CLR 0, k Reg.PAIR_DIV_CNT Reg.PAIR_CNT_CLR 1, k Reg.PAIR_TAKE_CNT Reg.PAIR_CNT_CLR 2,
    k Reg.PAIR_LINK_ERR Reg.PAIR_CNT_CLR 3] ++
  [k Reg.DDR_XFER_CNT Reg.DDR_CNT_CLR 0, k Reg.DDR_TCHK_CNT Reg.DDR_CNT_CLR 1, k Reg.DDR_CORR_CNT Reg.DDR_CNT_CLR 2,
    k Reg.DDR_RETRAIN_CNT Reg.DDR_CNT_CLR 3, k Reg.DDR_FWD_CNT Reg.DDR_CNT_CLR 4, k Reg.BMX_DEC_CNT Reg.BMX_CNT_CLR 0,
    k Reg.BMX_ERR_CNT Reg.BMX_CNT_CLR 1, k Reg.BMX_HOLD_CNT Reg.BMX_CNT_CLR 2, k Reg.DMA_ERR_CNT Reg.DMA_CNT_CLR 0,
    k Reg.FLT_WDOG_CNT Reg.FLT_CNT_CLR 0, k Reg.FLT_FB_CNT Reg.FLT_CNT_CLR 1, k Reg.PWR_SAG_CNT Reg.PWR_CNT_CLR 0,
    k Reg.PWR_THERM_CNT Reg.PWR_CNT_CLR 1]

/-- Counter `i` of R510. -/
def Chip.counter (c : Chip) (i : Nat) : Nat :=
  match cntTable[i]? with
  | some e => if e.2.1 then c.regFld e.1 31 16 else c.regFld e.1 15 0
  | none => 0

/-- Clears the counters of a mask, each with all that its CLR bit clears. -/
def Chip.clearCounters (c : Chip) (mask : Nat) : Chip :=
  (List.range 96).foldl (fun c i =>
    match cntTable[i]? with
    | some e => if mask.testBit i then c.clearBit e.2.2.1 e.2.2.2 else c
    | none => c) c

end Sys2Proof.Machine
end

