-- ==== Sys2Proof/Machine/Clock.lean ====
section
/-! DEFINITION. The XO monitor, the fallback oscillator, the PLLs, the release of the internal reset, clock gating and clock
observation (R341 to R359). -/
namespace Sys2Proof.Machine
open Sys2Proof

/-! ## CLK_STAT -/

/-- SRC of REFSEL: FBRC. FB_OK: FBRC is qualified. -/
def Chip.onFbrc (c : Chip) : Bool := c.regBit Reg.CLK_STAT 6
def Chip.fbOk (c : Chip) : Bool := c.regBit Reg.CLK_STAT 8

def Chip.setClk (c : Chip) (k : Clk) : Chip := { c with clk := k }

/-- REFSEL switches (R343, R347). -/
def Chip.refsel (c : Chip) (fbrc : Bool) : Chip := (c.setBit Reg.CLK_STAT 6 fbrc).refselSwitch

/-! ## The XO monitor (R345, R347, R348) -/

/-- The XO monitor trips: cause 1 activity, 2 a low count, 3 a high count. `inStart` says that FBRC is in its start window. -/
def Chip.xoTrip (c : Chip) (cause : Nat) (inStart : Bool) : Chip :=
  let k := c.clk
  let held := inStart && k.fbStart && c.sys.resetN && !c.sys.up
  let k1 : Clk := { k with tripped := true, good := 0, first := 0, latch := k.latch || held, hold := k.hold || held }
  let c1 := ((c.setClk k1).setBit Reg.CLK_STAT 7 false).setFld Reg.CLK_XO_WIN 31 28 0
  if !c.sys.up then c1
  else
    let c2 := ((c1.bump Reg.CLK_TRIP_CNT).setFld Reg.CLK_TRIP_CNT 31 30 cause).setBit Reg.CLK_EVENT 0 true
    let c3 := if c2.fbOk && !c2.onFbrc then c2.refsel true else c2
    c3.enterDatum 4 false

def execXoActivityTrip (clks : Word) (inStart : Bool) (s : State) : Host.Outcome State Fault Refusal :=
  s.act (fun c => if c.sys.railsGood then (c.timePass clks.toNat).xoTrip 1 inStart else c)

/-- The XO is good again after 16 good windows; where a latched trip has released the chip on FBRC, so it is after 16 good windows
with the chip out of reset (R347, R348). -/
def Chip.xoGood (c : Chip) : Chip :=
  let c1 := (c.setClk { c.clk with tripped := false, latch := false }).setBit Reg.CLK_STAT 7 true
  if !c.sys.up then c1
  else
    let c2 := if c1.onFbrc then (c1.refsel false).setBit Reg.CLK_EVENT 1 true else c1
    if c2.dState = 4 then (c2.enterDatum 0 false).select else c2

/-- A window of the XO monitor ends. -/
def Chip.xoWindow (c : Chip) (n : Nat) (inStart : Bool) : Chip :=
  let c1 := c.setFld Reg.CLK_XO_WIN 11 0 n
  if n < 1812 then c1.xoTrip 2 inStart
  else if 2214 < n then c1.xoTrip 3 inStart
  else
    let k := c1.clk
    let ok := within n 1913 2113
    let g := if ok then min 16 (k.good + 1) else 0
    let f := if ok then min 2 (k.first + 1) else 0
    let c2 := (c1.setClk { k with good := g, first := f }).setFld Reg.CLK_XO_WIN 31 28 (min g 15)
    if k.tripped || (c2.sys.up && c2.onFbrc) then (if g = 16 then c2.xoGood else c2)
    else if f = 2 then c2.setBit Reg.CLK_STAT 7 true else c2

def execXoWindowEnd (count : BitVec 12) (clks : Word) (inStart : Bool) (s : State) : Host.Outcome State Fault Refusal :=
  s.act (fun c => if c.sys.railsGood then (c.timePass clks.toNat).xoWindow count.toNat inStart else c)

/-! ## FBRC (R346) -/

/-- FBRC is qualified: REFSEL takes it where the XO is not good. -/
def Chip.fbQualify (c : Chip) : Chip :=
  let c1 := c.setBit Reg.CLK_STAT 8 true
  if c1.onFbrc then c1
  else if c1.sys.up then (if c1.clk.tripped then c1.refsel true else c1)
  else if c1.clk.hold then c1.setBit Reg.CLK_STAT 6 true else c1

/-- An FBRC window ends; the first of them ends after the start window. -/
def Chip.fbWindow (c : Chip) (n : Nat) : Chip :=
  let c1 := c.setClk { c.clk with fbStart := false }
  if c1.fbOk then
    (if within n 455 553 then c1 else (c1.setBit Reg.CLK_STAT 8 false).setClk { c1.clk with fbGood := 0 })
  else if within n 479 529 then
    (if c1.clk.fbGood = 0 then c1.setClk { c1.clk with fbGood := 1 } else (c1.setClk { c1.clk with fbGood := 0 }).fbQualify)
  else c1.setClk { c1.clk with fbGood := 0 }

def execFbrcWindowEnd (count : BitVec 12) (clks : Word) (s : State) : Host.Outcome State Fault Refusal :=
  s.act (fun c => if c.sys.railsGood then (c.timePass clks.toNat).fbWindow count.toNat else c)

def execFbrcStartTimeout (s : State) : Host.Outcome State Fault Refusal :=
  s.act (fun c =>
    if c.sys.railsGood && !c.fbOk then (c.setBit Reg.CLK_STAT 9 true).setBit Reg.CLK_EVENT 2 true else c)

/-! ## PLLs and the internal reset (R344, R348, R349) -/

/-- A PLL loses lock: 0 SYSPLL, 1 DDR, 2 DRIVE, 3 NET, 4 PAIR, 5 PCIE, and 6 the DATUM PLL, which has no lock bit. -/
def Chip.pllLoss (c : Chip) (pll : Nat) : Chip :=
  if !c.sys.up then c
  else if pll < 2 then (c.setBit Reg.CLK_RESET_CAUSE (1 + pll) true).chipReset.faultN
  else
    let c1 := if pll < 6 then c.setBit Reg.CLK_STAT pll false else c
    if pll < 7 then c1.setBit Reg.CLK_EVENT 3 true else c1

def execPllLockLoss (pll : BitVec 3) (s : State) : Host.Outcome State Fault Refusal := s.act (fun c => c.pllLoss pll.toNat)

/-- The internal reset may be released: SYSPLL is locked to FBRC after a latched trip or where REFSEL has stayed on FBRC, else to
the XO after two good windows; the rails are good, RESET_N is high, no test mode and no shed stage holds the chip (R348, R514,
R541, R552). -/
def Chip.mayRelease (c : Chip) : Bool :=
  !c.sys.up && c.sys.resetN && c.sys.railsGood && !c.sys.tapTest && c.pwr.stage != 5 &&
  (if c.clk.hold || c.onFbrc then c.fbOk && c.onFbrc else c.clk.first == 2)

/-- The internal reset is released and the chip boots (R348, R524). The datum starts in LOST on FBRC and in FREE_RUN on the XO. -/
def Chip.releaseReset (c : Chip) (clks : Nat) (badA badB rec : Bool) : Chip :=
  if !c.mayRelease then c
  else
    let fb := c.onFbrc
    let c1 := (c.modReg Reg.CLK_STAT (fun x => putFld (putFld x 5 0 63) 10 10 (ofFlag c.clk.hold))).setFld Reg.DTM_STATE 2 0 (if fb then 4 else 0)
    ({ c1 with sys := { c1.sys with up := true, resetLate := false }, clk := { c1.clk with hold := false } }.faultN).boot clks badA badB rec

def execInternalResetRelease (clks : Word) (badA badB rec : Bool) (s : State) : Host.Outcome State Fault Refusal :=
  s.act (fun c => c.releaseReset clks.toNat badA badB rec)

def execResetHoldTimeout (s : State) : Host.Outcome State Fault Refusal :=
  s.act (fun c =>
    if !c.sys.up && c.sys.resetN && c.sys.railsGood then { c with sys := { c.sys with resetLate := true } }.faultN else c)

/-! ## Gates (R350 to R354) -/

/-- A gate unit has work: 0 to 15 the TDM ports, 16 the cue ports, 17 to 20 the MACs, 21 the drive block, 22 the DMA engine. -/
def Chip.gateWork (c : Chip) (u : Nat) : Bool :=
  if u < 16 then c.portEn 0 u || c.portArmed 0 u
  else if u = 16 then c.regBit (Reg.CUE_CFG 0) 31 || c.regBit (Reg.CUE_CFG 1) 31
  else if u < 21 then c.macEn (u - 17)
  else if u = 21 then (List.range 8).any (fun m => c.modEn m) || (List.range 64).any (fun k => decide (4 ≤ c.drvState k))
  else !c.dma.queue.isEmpty

/-- GATE_CLOSE: 16 cycles have passed without work and without a pending access (R350). -/
def execGateClose (unit : BitVec 5) (s : State) : Host.Outcome State Fault Refusal :=
  s.act (fun c => if c.gateWork unit.toNat || c.dmaUnits.contains unit.toNat then c else c.setGate unit.toNat false)

/-- The gate units that a force bit closes. -/
def forceUnits (u : Nat) : List Nat :=
  if u = 0 then List.range 16 else if u = 1 then [16] else if u = 2 then [17, 18, 19, 20] else if u = 3 then [21] else [22]

/-- Every guarded enable of a force bit's block reads 0, and no DMA channel runs (R298, R352). CUE has no guarded enable. -/
def Chip.forceOk (c : Chip) (u : Nat) : Bool :=
  if u = 0 then allPorts.all (fun p => !c.portEn p.1 p.2)
  else if u = 2 then (List.range 4).all (fun m => !c.macEn m) && c.net.streams.all (fun e => !e.2.en)
  else if u = 3 then (List.range 8).all (fun m => !c.modEn m)
  else if u = 4 then c.dma.queue.isEmpty
  else true

/-- A force bit is written. -/
def Chip.forceBit (c : Chip) (u : Nat) (on : Bool) : Chip :=
  if !on then
    (forceUnits u).foldl (fun c g => if c.gateWork g then c.setGate g true else c) (c.setBit Reg.CLK_GATE_FORCE u false)
  else
    let ok := c.forceOk u
    let c1 := c.setBit Reg.CLK_GATE_FORCE u ok
    if ok then (forceUnits u).foldl (fun c g => c.setGate g false) c1 else c1

/-- A host write of CLK_GATE_FORCE, which takes effect during a session only (R351, R352). CLK_REASON reads BAD_STATE where a
bit written to 1 did not take effect. -/
def Chip.gateForce (c : Chip) (v : Word) : Chip :=
  if !c.cmd.session.isOpen then c
  else
    let bad := (List.range 5).any (fun u => v.getLsbD u && !c.forceOk u)
    let c1 := (List.range 5).foldl (fun c u => c.forceBit u (v.getLsbD u)) c
    if fld v 4 0 = 0 then c1 else c1.setReg Reg.CLK_REASON (BitVec.ofNat 32 (if bad then rBadState else rOK))

def execGateForceWrite (v : Word) (s : State) : Host.Outcome State Fault Refusal :=
  s.act (fun c => if c.pfUp false then c.gateForce v else c)

/-- An access that meets a force-gated unit (R353): a host access is answered with Completer Abort. -/
def execForceHit (unit : BitVec 3) (host : Bool) (off : BitVec 30) (s : State) : Host.Outcome State Fault Refusal :=
  s.act (fun c =>
    if decide (unit.toNat < 5) && c.forced unit.toNat then
      let c1 := c.forceHit unit.toNat
      if host then c1.hostAbort 0 off.toNat else c1
    else c)

/-! ## Clock observation (R355 to R357) -/

/-- The smallest divider that brings a domain to 200 MHz or below (R355). -/
def obsMin (sel : Nat) : Nat :=
  if sel = 4 then 6 else if sel = 5 ∨ sel = 7 then 4 else if sel = 8 then 16 else if sel = 9 ∨ sel = 11 ∨ sel = 12 then 2
  else if sel = 10 then 3 else 1

/-- A write of CLK_OBS. -/
def Chip.clkObs (c : Chip) (v : Word) : Chip :=
  (c.setReg Reg.CLK_OBS (v &&& 0x8FF0FFFF)).setReg Reg.CLK_OBS_EFF (BitVec.ofNat 32 (max (fld v 15 0 + 1) (obsMin (fld v 27 24))))

def execClkObsWrite (v : Word) (s : State) : Host.Outcome State Fault Refusal :=
  s.act (fun c => if c.pfUp false then c.clkObs v else c)

end Sys2Proof.Machine
end

