-- ==== Sys2Proof/Machine/FaultCmd.lean ====
section
/-! DEFINITION. The fault and counter opcodes, acknowledgements, block resets and counter snapshots (R500 to R511, R518). -/
namespace Sys2Proof.Machine
open Sys2Proof

/-! ## Acknowledgement and the opcodes (R504, R510, R518) -/

def execFaultAckWrite (mask : Word) (s : State) : Host.Outcome State Fault Refusal :=
  s.act (fun c => if c.pfUp false then c.ackFaults (mask.toNat % 2 ^ 28) else c)

/-- Entry `i` of a FAULT_CFG: class, LEVEL and the flags. -/
def Req.fltEntry (r : Req) (i : Nat) : Nat × Nat × Nat := (r.p (4 + 4 * i) 1, r.p (5 + 4 * i) 1, r.p (6 + 4 * i) 2)

def chkFaultCfg (r : Req) : Nat :=
  let n := r.p 0 2
  let es := (List.range n).map r.fltEntry
  let cls := es.map (fun e => e.1)
  firstFail [(r.len == 4 + 4 * n && within n 1 28, rBadLength),
    (r.noTick && r.noHandle && r.z 2 2 && es.all (fun e => decide (e.1 < 28) && decide (e.2.1 ≤ 4) && decide (e.2.2 ≤ 1)) &&
      cls.eraseDups.length == n, rBadParam)]

/-- LEVEL and FN of a class; E of an unacknowledged class stays (R504). -/
def Chip.setLevel (c : Chip) (cls lvl fn : Nat) : Chip :=
  let c1 := c.setReg (Reg.FLT_CFG cls) (putFld (putFld 0 4 4 fn) 2 0 lvl)
  if c1.regBit Reg.FLT_UNACK cls then c1 else c1.setEff cls lvl

def execFaultCfg (ch : BitVec 4) (s : State) : Host.Outcome State Fault Refusal :=
  s.act (fun c =>
    let r := c.reqOf ch.toNat
    c.runNow ch.toNat 0x0A01 (chkFaultCfg r) (fun c =>
      let c1 := ((List.range (r.p 0 2)).map r.fltEntry).foldl (fun c e => c.setLevel e.1 e.2.1 e.2.2) c
      c1.faultN.done ch.toNat []))

def execFaultAck (ch : BitVec 4) (s : State) : Host.Outcome State Fault Refusal :=
  s.act (fun c =>
    let r := c.reqOf ch.toNat
    let m := r.p 0 4
    c.runNow ch.toNat 0x0A02 (firstFail [r.lenIs 4, (r.noTick && r.noHandle && decide (m < 2 ^ 28), rBadParam)]) (fun c =>
      (c.ackFaults m).done ch.toNat (leBytes 4 (m &&& (c.reg Reg.FLT_UNACK).toNat))))

/-- A trap log entry (R505). -/
def TrapEntry.bytes (t : TrapEntry) : List Byte :=
  leBytes 1 t.cls ++ leBytes 1 t.level ++ leBytes 1 t.block ++ [0] ++ leBytes 8 t.tick.toNat ++ leBytes 4 t.last.toNat

/-- The payload of FAULT_STATUS. -/
def Chip.faultPayload (c : Chip) : List Byte :=
  c.reg4 Reg.FLT_UNACK ++ c.reg4 Reg.FLT_RAISED ++ c.reg4 Reg.FLT_FAULTN ++ (List.range 4).flatMap (fun j => c.reg4 (Reg.FLT_EFF j)) ++
  leBytes 1 c.flt.traps.length ++ [0, 0, 0] ++ bytesFrom (c.flt.traps.flatMap TrapEntry.bytes) 0 512

def execFaultStatus (ch : BitVec 4) (s : State) : Host.Outcome State Fault Refusal :=
  s.act (fun c => c.runNow ch.toNat 0x0A03 (c.reqOf ch.toNat).plain (fun c => c.done ch.toNat c.faultPayload))

/-- The bytes of counters `first` to `first + n − 1`. -/
def Chip.counterBytes (c : Chip) (first n : Nat) : List Byte := (List.range n).flatMap (fun i => leBytes 2 (c.counter (first + i)))

def execCntRead (ch : BitVec 4) (s : State) : Host.Outcome State Fault Refusal :=
  s.act (fun c =>
    let r := c.reqOf ch.toNat
    let a := r.p 0 2
    let n := r.p 2 2
    c.runNow ch.toNat 0x0A04 (firstFail [r.lenIs 4, (r.noTick && r.noHandle && within n 1 96 && decide (a + n ≤ 96), rBadParam)])
      (fun c => c.done ch.toNat (leBytes 8 c.tickN ++ c.counterBytes a n)))

def execCntClear (ch : BitVec 4) (s : State) : Host.Outcome State Fault Refusal :=
  s.act (fun c =>
    let r := c.reqOf ch.toNat
    let m := r.p 0 12
    c.runNow ch.toNat 0x0A05 (firstFail [r.lenIs 16, (r.noTick && r.noHandle && r.z 12 4 && m != 0, rBadParam)])
      (fun c => (c.clearCounters m).done ch.toNat []))

/-! ## Block resets (R506) -/

/-- The registers of the blocks whose addresses lie from `lo` to below `hi` return to their reset values. -/
def Chip.regsReset (c : Chip) (lo hi : Nat) : Chip :=
  { c with regs := c.regs.filter (fun e => !(decide (lo ≤ e.1) && decide (e.1 < hi))) }

/-- GRAPH_LOADs in progress end with BAD_STATE. -/
def Chip.endLoads (c : Chip) : Chip :=
  c.cmd.chans.foldl (fun c e =>
    if e.2.st == .taken && e.2.work != .answered && (parseReq e.2.req).op == 0x0201 then c.refuse e.1 rBadState else c) c

/-- The reset of ENG: everything but ENG_TICK and the live stake table. -/
def Chip.resetEng (c : Chip) : Chip :=
  let c1 := (((c.retireAbandon rBadState).endLoads).clearOuts).regsReset 0xE0000 0xF0000
  { c1 with
    cells := []
    graph := { GraphState.reset with
      stake := c1.graph.stake, stakeOrigin := c1.graph.stakeOrigin, stakeMod := c1.graph.stakeMod, dropFrom := c1.graph.dropFrom }
    chain := { Chain.reset with outs := c1.chain.outs, ins := c1.chain.ins, served := true }
    eng := { c1.eng with engine := .staked, suspended := false, holdIndef := false, holdLeft := 0 } }

/-- The reset of SAP. -/
def Chip.resetSap (c : Chip) : Chip := { (c.regsReset 0x50000 0x60000) with sap := Sap.reset }

/-- The reset of DRV. -/
def Chip.resetDrv (c : Chip) : Chip := { (c.regsReset 0x70000 0x80000) with drv := Drv.reset }

/-- The reset of NET: the 64-bit statistics are kept. -/
def Chip.resetNet (c : Chip) : Chip := { (c.regsReset 0x60000 0x70000) with net := { Net.reset with stats := c.net.stats } }

/-- The reset of DTM: the references are disabled and the datum is in FREE_RUN with the correction it had, which further changes
of the model's prediction move. -/
def Chip.resetDtm (c : Chip) : Chip :=
  let corr := c.dtm.corr
  let c1 := (List.range 18).foldl (fun c r => if c.refEn r then c.refDisable r 5 else c) c
  let c2 := if c1.dState = 4 then c1 else c1.enterDatum 0 false
  let own := if c2.dtm.model.valid then -c2.predict else 0
  { c2 with dtm := { c2.dtm with freqAdj := roundEven (corr - own) 100 } }.setCorr corr

/-- The restart of the executive: TAKEN commands that are not accepted end without a response, and no response is written for
the accepted ones. -/
def Chip.resetExec (c : Chip) : Chip :=
  let c1 := c.cmd.chans.foldl (fun c e =>
    if e.2.st == .taken then
      (if e.2.work == .accepted then c.modChan e.1 (fun k => { k with orphan := true }) else (c.freeChan e.1).unqueue e.1)
    else c) c
  { c1 with sys := { c1.sys with execReady := false, execAlive := false, swap := none }, cmd := { c1.cmd with held := false } }

/-- A unit is reset. -/
def Chip.unitReset (c : Chip) (u : Unit3) : Chip :=
  match u with
  | .eng => c.resetEng.release
  | .sap => c.resetSap.release
  | .drv => c.resetDrv.release
  | .net => c.resetNet
  | .dtm => c.resetDtm
  | .dma => (List.range 16).foldl (fun c n => c.dmaAbort n) c
  | .executive => c.resetExec

/-- A unit is reset at once, the others at a boundary. -/
def Unit3.atOnce (u : Unit3) : Bool := u == .drv || u == .dma || u == .executive

/-- BLOCK_RESET: the first unit that waits for its reset and whose time has come. -/
def Chip.blockReset (c : Chip) : Chip :=
  match c.flt.resets.find? (fun u => u.atOnce || c.atBoundary) with
  | some u =>
    let c1 := c.unitReset u
    ({ c1 with flt := { c1.flt with resets := c1.flt.resets.filter (fun x => x != u) } }).event Reg.FLT_EVENT 2 8 true
  | none => c

def execBlockReset (s : State) : Host.Outcome State Fault Refusal := s.act (fun c => c.blockReset)

/-! ## The counter snapshot (R511) -/

/-- The two copies and whether one is valid. -/
def snapCopy (b : Bool) : Nat := if b then 0x5C0 else 0x4C0
def snapValid (x : List Byte) : Bool :=
  leField x 0 4 == 0x544E4E43 && leField x 4 2 == 1 && leField x 6 2 == 96 &&
  leField x 60 4 == (crc32c (x.take 60 ++ [0, 0, 0, 0] ++ x.drop 64)).toNat

/-- The newer valid copy with its SEQ, by the rule of R227. -/
def Chip.snapNewer (c : Chip) : Option (Bool × Nat) :=
  let a := c.fb (snapCopy false) 256
  let b := c.fb (snapCopy true) 256
  let sa := leField a 8 4
  let sb := leField b 8 4
  match snapValid a, snapValid b with
  | true, true => if (sb + 2 ^ 32 - sa) % 2 ^ 32 < 2 ^ 31 then some (true, sb) else some (false, sa)
  | true, false => some (false, sa)
  | false, true => some (true, sb)
  | false, false => none

/-- A snapshot of the counters. -/
def Chip.snapshot (c : Chip) (seq : Nat) : List Byte :=
  let h (crc : Nat) : List Byte :=
    leBytes 4 0x544E4E43 ++ leBytes 2 1 ++ leBytes 2 96 ++ leBytes 4 seq ++ leBytes 8 c.tickN ++ leBytes 6 c.dtm.bound.sec.toNat ++ [0, 0] ++
    leBytes 4 (c.sys.uptime / 1000) ++ List.replicate 28 0 ++ leBytes 4 crc ++ c.counterBytes 0 96
  h (crc32c (h 0)).toNat

def execCounterSnapshot (bad : Option (BitVec 2)) (s : State) : Host.Outcome State Fault Refusal :=
  s.act (fun c =>
    if !c.execRuns then c
    else
      let t : Bool × Nat := match c.snapNewer with
        | some x => (!x.1, (x.2 + 1) % 2 ^ 32)
        | none => (false, 1)
      (c.fbWrite (snapCopy t.1) (c.snapshot t.2) (bad.map (fun k => k.toNat))).1)

end Sys2Proof.Machine
end

