-- ==== Sys2Proof/Machine/Power.lean ====
section
/-! DEFINITION. Supply shedding and the die temperature (R512 to R517). -/
namespace Sys2Proof.Machine
open Sys2Proof

/-! ## The supply stage (R512) -/

/-- The averaged sag in 0.01 % from the sum of four samples in mV. -/
def Chip.sagOf (c : Chip) (sum : Nat) : Int :=
  let nom : Nat := c.regFld Reg.PWR_VCORE 31 16
  if nom = 0 then 0 else roundEven (((sum : Int) - (4 * nom : Nat)) * 10000) (4 * nom : Nat)

/-- The highest stage whose entry threshold a sag has reached. -/
def stageOf (sag : Int) : Nat :=
  if sag ≤ -1200 then 5 else if sag ≤ -1000 then 4 else if sag ≤ -800 then 3 else if sag ≤ -600 then 2 else if sag ≤ -400 then 1 else 0

/-- A sag lies above the exit threshold of a stage. -/
def aboveExit (stage : Nat) (sag : Int) : Bool := decide (-(200 * (stage : Int) + 100) < sag)

/-- The shed stage that the supply and the temperature call for (R513). -/
def Pwr.decided (p : Pwr) : Nat := if p.crit then 5 else max p.supply (if p.thermal then 2 else 0)

/-- SUPPLY_SAG for every stage entered, in one step. -/
def Chip.sagCount (c : Chip) (n top : Nat) : Chip :=
  let c1 := ((c.bumpBy Reg.PWR_SAG_CNT n).setFld Reg.PWR_SAG_CNT 18 16 top).event Reg.PWR_EVENT 0 15 (decide (1 ≤ c.level 24))
  c1.raise .supplySag blkPWR (c1.reg Reg.PWR_SAG_CNT)

/-- An average is renewed. While the chip is in reset the stage is followed and nothing is counted. -/
def Chip.vcore (c : Chip) (sum : Nat) : Chip :=
  let sag := c.sagOf sum
  let p := c.pwr
  let n := stageOf sag
  let up := decide (p.supply < n)
  let supply := max p.supply n
  let above := if !up && aboveExit p.supply sag && decide (0 < p.supply) then p.above + 1 else 0
  let c1 := { c with pwr := { p with supply := supply, above := above } }
  if !c.sys.up then c1
  else
    let vmin := ((c1.reg Reg.PWR_VMIN).setWidth 16).toInt
    let c2 := c1.setFld Reg.PWR_VCORE 15 0 (BitVec.ofInt 16 sag).toNat
    let c3 := if sag < vmin then c2.setReg Reg.PWR_VMIN ((BitVec.ofInt 16 sag).setWidth 32) else c2
    if up then c3.sagCount (n - p.supply) n else c3

def execVcoreAverage (sum : Half) (s : State) : Host.Outcome State Fault Refusal := s.act (fun c => if c.sys.railsGood then c.vcore sum.toNat else c)

/-- The supply stage falls by one after 10 ms, 2,500 averages, above the exit threshold. -/
def execShedStageFall (s : State) : Host.Outcome State Fault Refusal :=
  s.act (fun c =>
    if 2501 ≤ c.pwr.above ∧ 0 < c.pwr.supply then { c with pwr := { c.pwr with supply := c.pwr.supply - 1, above := 1 } } else c)

/-! ## The die temperature (R513) -/

/-- THERMAL: 0 the thermal action starts, 1 the critical one. -/
def Chip.thermCount (c : Chip) (k : Nat) : Chip :=
  if !c.sys.up then c
  else
    let c1 := ((c.bump Reg.PWR_THERM_CNT).setFld Reg.PWR_THERM_CNT 18 16 k).event Reg.PWR_EVENT 1 15 (decide (1 ≤ c.level 25))
    c1.raise .thermal blkPWR (c1.reg Reg.PWR_THERM_CNT)

/-- A reading of the die temperature in 1/256 °C. -/
def Chip.dieTemp (c : Chip) (t : Half) : Chip :=
  let v := t.toInt
  let p := c.pwr
  let h5 := if 105 * 256 ≤ v then min 2 (p.hot105 + 1) else 0
  let h15 := if 115 * 256 ≤ v then min 2 (p.hot115 + 1) else 0
  let cool := if v ≤ 100 * 256 then min 1000 (p.cool + 1) else 0
  let th := if h5 = 2 then true else if cool = 1000 then false else p.thermal
  let cr := if h15 = 2 then true else if cool = 1000 && !c.sys.up then false else p.crit
  let c1 := ({ c with pwr := { p with hot105 := h5, hot115 := h15, cool := cool, thermal := th, crit := cr } })
  let c2 := if c.sys.up then (c1.setFld Reg.DTM_TEMP 31 16 t.toNat).tempFlag else c1
  let c3 := if th && !p.thermal then c2.thermCount 0 else c2
  if cr && !p.crit then c3.thermCount 1 else c3

def execDieTempRead (t : Half) (s : State) : Host.Outcome State Fault Refusal := s.act (fun c => if c.sys.railsGood then c.dieTemp t else c)

/-! ## The shed stage in force (R514 to R516) -/

/-- DROP follows the stage (R222, R223). -/
def Chip.dropTo (c : Chip) (stage : Nat) : Chip :=
  let was := c.graph.dropFrom
  let now := dropAt stage
  if now = was then c else (c.setDrop now).graphEvent (if now < was then 6 else 7)

/-- Stage 4 begins: every cell goes OFF and every output presents its stake. -/
def Chip.stageFour (c : Chip) : Chip :=
  let c1 := c.retireAbandon rBadState
  { c1 with
    cells := Map.mapVals cell0 (fun _ x => x.off) c1.cells
    eng := { c1.eng with engine := if c1.eng.engine = .running then .staked else c1.eng.engine } }

/-- Stage 4 ends: the cells of classes 0 and 1 wake, and their output channels ramp in (R515). -/
def Chip.stageThree (c : Chip) : Chip :=
  match c.graph.live with
  | none => c
  | some g =>
    let run := g.cells.filter (fun e => decide (e.cls < c.graph.dropFrom))
    let c1 := c.rerunCells run
    let c2 := g.outs.foldl (fun c ep =>
      match g.driver ep with
      | some e => if e.cls < c.graph.dropFrom then c.modOut ep (fun o => { o with mute := .ramIn 0, h := 0, c := 0 }) else c
      | none => c) c1
    { c2 with eng := { c2.eng with engine := if c2.eng.engine = .staked then .running else c2.eng.engine } }

/-- A stage from 0 to 4 takes effect at a boundary. -/
def Chip.stageTo (c : Chip) (n : Nat) : Chip :=
  let was := c.pwr.stage
  let c1 := ({ c with pwr := { c.pwr with stage := n } }).cellFreq
  let c2 := if n < was then c1.event Reg.PWR_EVENT 2 15 true else c1
  let c3 := if 2 ≤ n then c2.endFade true else c2
  let c4 := c3.dropTo n
  if 4 ≤ n ∧ was < 4 then c4.stageFour else if n < 4 ∧ 4 ≤ was then c4.stageThree else c4

/-- Stage 5 takes effect at once: the modules stop, ownership is released, and the chip reset is held. -/
def Chip.stageFive (c : Chip) : Chip :=
  let c1 := (List.range 8).foldl (fun c m => if c.modEn m then (c.drvStop m).drvLow m false else c) c
  let c2 := c1.release.chipReset
  { c2 with pwr := { c2.pwr with stage := 5 }, eng := { c2.eng with engine := .held } }.faultN

def Chip.shedEffect (c : Chip) : Chip :=
  let n := c.pwr.decided
  if !c.sys.up || n = c.pwr.stage then c
  else if 5 ≤ n then c.stageFive
  else if c.atBoundary then c.stageTo n
  else c

def execShedStageEffect (s : State) : Host.Outcome State Fault Refusal := s.act (fun c => c.shedEffect)

/-- Stage 5 releases the chip reset: PWR_RESET_CAUSE.SHED is set, and the stage is the one that then holds. -/
def execShedResetRelease (s : State) : Host.Outcome State Fault Refusal :=
  s.act (fun c =>
    if c.pwr.stage = 5 ∧ c.pwr.decided < 5 then
      (({ c with pwr := { c.pwr with stage := c.pwr.decided }, eng := { c.eng with engine := .boot } }).setBit Reg.PWR_RESET_CAUSE 30 true).faultN
    else c)

end Sys2Proof.Machine
end

