-- ==== Sys2Proof/Machine/HostAccess.lean ====
section
/-! DEFINITION. Accesses of the host: aborts, memory windows, register reads that latch, and register writes (R12 to R16, R36 to
R45, R61, R180, R181, R288). -/
namespace Sys2Proof.Machine
open Sys2Proof

/-! ## Addresses -/

/-- The spaces of GCTL_ABORT_LAST: 0 PF0 BAR0, 1 PF0 BAR2, 2 PF1 BAR0. -/
def spacePf1 (space : Nat) : Bool := space == 2

/-- The DRAM address of a BAR2 offset (R43). -/
def Chip.winAddr (c : Chip) (off : Nat) : Nat := c.regFld Reg.GCTL_DRAM_WIN 4 0 * 2 ^ 30 + off

/-- An access of `len` bytes is answered with Completer Abort (R36, R37, R39, R181, R288). -/
def Chip.aborts (c : Chip) (space off len : Nat) (write : Bool) : Bool :=
  if !((len == 4 && off % 4 == 0) || (len == 8 && off % 8 == 0)) then true
  else if space = 0 then !(decide (off < 0xF0000) || (decide (0x1000000 ≤ off) && decide (off < 0x2000000)))
  else if space = 1 then !(decide (off < 2 ^ 30) && decide (c.winAddr off + len ≤ c.dramUsable))
  else if space = 2 then
    (if 0x10000 ≤ off ∧ off < 0x20000 then false
     else if 0x100000 ≤ off ∧ off < 0x140000 then write || !c.cmd.session.isOpen
     else true)
  else true

def execHostAccessAbort (space : BitVec 2) (off : BitVec 30) (len : BitVec 4) (write : Bool) (s : State) :
    Host.Outcome State Fault Refusal :=
  s.act (fun c =>
    let k := space.toNat
    if decide (k < 3) && c.pfUp (spacePf1 k) && c.aborts k off.toNat len.toNat write then c.hostAbort k off.toNat else c)

/-! ## Memory windows (R180) -/

/-- A completion with data, poisoned when a tile fails its check or carries the mark. -/
def Chip.completeMem (c : Chip) (b : List Byte) (bad : Bool) : Chip :=
  { c with host := { c.host with rsp := { status := if bad then 3 else 1, data := BitVec.ofNat 64 (leNat b) } } }

/-- A read of `n` bytes of region memory by a mover of the host: the tile is verified, and a failure is counted. -/
def Chip.regionRead (c : Chip) (a n : Nat) : Chip × List Byte × Bool :=
  let t := a / 256
  let bad := c.mem.fails .region t
  let c1 := if bad then c.tileCheck 4 0 (t / 16384) (t % 16384) else c
  (c1, memRead c.mem.region a n, bad || marked (c.mem.entry .region t))

/-- A host access through a region memory window or BAR2. -/
def Chip.window (c : Chip) (bar2 : Bool) (off n : Nat) (data : Option DWord) : Chip :=
  let sp := if bar2 then 1 else 0
  if c.aborts sp off n data.isSome then c.hostAbort sp off
  else if bar2 then
    match data with
    | some v => c.tileWrite .dram (c.winAddr off) (leBytes n v.toNat) false
    | none =>
      let x := c.dramRead (c.winAddr off) n
      x.1.completeMem x.2.1 x.2.2
  else if off < 0x1000000 then c
  else
    match data with
    | some v => c.tileWrite .region (off - 0x1000000) (leBytes n v.toNat) false
    | none =>
      let x := c.regionRead (off - 0x1000000) n
      x.1.completeMem x.2.1 x.2.2

/-- A poisoned write TLP is discarded and answered as an unsupported request (R260). -/
def Chip.unsupported (c : Chip) : Chip := { c with host := { c.host with rsp := { status := 4, data := 0 } } }

def execHostMemoryWindowAccess (bar2 : Bool) (off : BitVec 30) (wide : Bool) (w : Option TlpWrite) (s : State) :
    Host.Outcome State Fault Refusal :=
  s.act (fun c =>
    if !c.pfUp false then c
    else if w.any (fun x => x.poison) then c.unsupported
    else c.window bar2 off.toNat (if wide then 8 else 4) (w.map (fun x => x.data)))

/-- A read of the field book window of PF1, at an offset within the window. -/
def execFieldbookWindowRead (off : BitVec 18) (wide : Bool) (s : State) : Host.Outcome State Fault Refusal :=
  s.act (fun c =>
    let a := 0x100000 + off.toNat
    let n := if wide then 8 else 4
    if !c.pfUp true then c
    else if c.aborts 2 a n false then c.hostAbort 2 a
    else c.complete (leNat (c.fb off.toNat n)))

/-! ## Reads that latch (R40, R61) -/

/-- A 32-bit read of a register. -/
def Chip.read32 (c : Chip) (a : Nat) : Chip := (c.latch a).complete (c.regRead a).toNat

def execTickLoRead (eng : Bool) (s : State) : Host.Outcome State Fault Refusal :=
  s.act (fun c => if c.pfUp false then c.read32 (if eng then Reg.ENG_TICK_LO else Reg.GCTL_TICK_LO) else c)

/-- A 32-bit read of any other register that latches a half. -/
def execLatchedLoRead (addr : Word) (s : State) : Host.Outcome State Fault Refusal :=
  s.act (fun c => if c.pfUp false && !(latchOf addr.toNat).isEmpty then c.hostAt addr.toNat (fun c => c.read32 addr.toNat) else c)

/-! ## Register writes (R12 to R16) -/

/-- A value written into the stored register: its writable fields take it, and a written 1 clears a flag (R12, R13, R14). -/
def Chip.plainWrite (c : Chip) (a : Nat) (v : Word) : Chip :=
  match regRow a with
  | some r =>
    let rw : Word := BitVec.ofNat 32 r.rw
    let w1 : Word := BitVec.ofNat 32 r.w1c
    c.modReg a (fun x => (x &&& ~~~(rw ||| (w1 &&& v))) ||| (v &&& rw))
  | none => c

/-- The registers whose bits clear counters. -/
def isClear (a : Nat) : Bool := clearTable.any (fun e => e.1 == a)

/-- The index `i` below `n` for which `f i` is the address. -/
def indexOf (f : Nat → Nat) (n a : Nat) : Option Nat := (List.range n).find? (fun i => f i == a)

/-- A write of a channel's registers. -/
def Chip.chanWrite (c : Chip) (a : Nat) (v : Word) : Option Chip :=
  match indexOf Reg.CMD_DOORBELL 8 a, indexOf Reg.CMD_TIMEOUT 8 a, indexOf (fun n => Reg.CMD_REQ n 0) 8 (a - a % 1024) with
  | some n, _, _ =>
    some (if fld v 1 0 = 3 then c.ignored n else if v.getLsbD 0 then c.ring n else if v.getLsbD 1 then c.abort n else c)
  | none, some n, _ => some (c.limitWrite n v)
  | none, none, some n => some (if c.chanBusy n then c.ignored n else c.setReg a v)
  | none, none, none => none

/-- A write of a register of DMA or NET that acts. -/
def Chip.unitWrite (c : Chip) (a : Nat) (v : Word) : Option Chip :=
  match indexOf Reg.DMA_CH_CTRL 16 a, indexOf Reg.NET_RXQ_TAIL 4 a, indexOf Reg.NET_SNAP 4 a with
  | some n, _, _ => some (if v.getLsbD 0 then c.dmaStart n else c.dmaAbort n)
  | none, some m, _ => some (c.rxTail m (v.toNat % 4096))
  | none, none, some m => some (if v.getLsbD 0 then c.netSnap m else c)
  | none, none, none => none

/-- A write of one register by the host or by DMA. -/
def Chip.regWrite (c : Chip) (a : Nat) (v : Word) : Chip :=
  if isClear a then c.clearWrite a v
  else if a = Reg.FLT_UNACK then c.ackFaults (v.toNat % 2 ^ 28)
  else if a = Reg.PWR_RESET_CAUSE then (c.plainWrite a v).faultN
  else if a = Reg.CLK_GATE_FORCE then c.gateForce v
  else if a = Reg.CLK_OBS then c.clkObs v
  else if a = Reg.GCTL_DEBUG then c.debugWrite (v.getLsbD 0)
  else if a = Reg.PAIR_SIG_TAKE then (if v.getLsbD 0 then c.sigTake else c)
  else
    match c.chanWrite a v with
    | some d => d
    | none =>
      match c.unitWrite a v with
      | some d => d
      | none => c.plainWrite a v

/-- A 64-bit write covers two registers in one clock; into a busy channel's CMD_REQ it counts once (R40, R266). -/
def Chip.regWrites (c : Chip) (a : Nat) (wide : Bool) (v : DWord) : Chip :=
  if !wide then c.regWrite a (v.setWidth 32)
  else
    match indexOf (fun n => Reg.CMD_REQ n 0) 8 (a - a % 1024) with
    | some n => if c.chanBusy n then c.ignored n else (c.regWrite a (v.setWidth 32)).regWrite (a + 4) ((v >>> 32).setWidth 32)
    | none => (c.regWrite a (v.setWidth 32)).regWrite (a + 4) ((v >>> 32).setWidth 32)

/-- A host write of registers: PF1's stand at 0x8000_0000 plus their offset. -/
def Chip.hostWrite (c : Chip) (a : Nat) (wide : Bool) (v : DWord) : Chip :=
  let pf1 := decide (0x80000000 ≤ a)
  let sp := if pf1 then 2 else 0
  let off := if pf1 then a - 0x80000000 else a
  if !c.pfUp pf1 then c
  else if c.aborts sp off (if wide then 8 else 4) true then c.hostAbort sp off
  else if !pf1 && decide (0x1000000 ≤ off) then c.window false off (if wide then 8 else 4) (some v)
  else if pf1 then c.regWrites a wide v
  else c.hostAt off (fun c => c.regWrites a wide v)

def execRegisterWrite (addr : Word) (wide : Bool) (w : TlpWrite) (s : State) : Host.Outcome State Fault Refusal :=
  s.act (fun c =>
    if w.poison then (if c.pfUp (decide (0x80000000 ≤ addr.toNat)) then c.unsupported else c) else c.hostWrite addr.toNat wide w.data)

def execDramWinWrite (v : Word) (s : State) : Host.Outcome State Fault Refusal :=
  s.act (fun c => if c.pfUp false then c.plainWrite Reg.GCTL_DRAM_WIN v else c)

def execMsixCollapseWrite (on : Bool) (s : State) : Host.Outcome State Fault Refusal :=
  s.act (fun c => if c.pfUp false then c.setBit Reg.GCTL_MSIX_ROUTE 0 on else c)

def execAbortClr (s : State) : Host.Outcome State Fault Refusal :=
  s.act (fun c => if c.pfUp false then c.clearBit Reg.GCTL_CNT_CLR 0 else c)

end Sys2Proof.Machine
end

