-- ==== Sys2Proof/Machine/MemDma.lean ====
section
/-! DEFINITION. What the DRAM controller, the bus matrix and the DMA engine complete (R470 to R499). One access of a memory is
one command: a row that delivers data (a memory window, a DMA response, a read-ahead) does the controller's part itself. -/
namespace Sys2Proof.Machine
open Sys2Proof

/-! ## Windows (R475 to R477) -/

/-- The oscillator of the devices is compared with the limit; a drift waits for its window. -/
def execDqsOscCheck (drift : Bool) (s : State) : Host.Outcome State Fault Refusal :=
  s.act (fun c => if c.sys.up && drift then { c with ddr := { c.ddr with drift := true } } else c)

/-- DDR_STAT.STATE is READY. -/
def Chip.ddrReady (c : Chip) : Bool := c.regFld Reg.DDR_STAT 2 0 == 1

/-- A retraining window of `len` tenths of a microsecond, at most 2 µs. -/
def Chip.retrain (c : Chip) (len : Nat) : Chip :=
  let c1 := { c with ddr := { c.ddr with drift := false, lastWindow := some c.tickN } }
  (c1.bump Reg.DDR_RETRAIN_CNT).ddrAbsent len

def execRetrainWindow (len : BitVec 5) (s : State) : Host.Outcome State Fault Refusal :=
  s.act (fun c =>
    if c.atBoundary && c.ddrReady && c.ddr.drift && c.windowAllowed && decide (len.toNat ≤ 20) then c.retrain len.toNat else c)

/-- A frequency change of `len` tenths of a microsecond, at most 60 µs. -/
def Chip.freqChange (c : Chip) (len : Nat) : Chip :=
  let v := c.eng.cell1000
  let c1 := (c.setBit Reg.DDR_STAT 5 v).setBit Reg.DDR_STAT 6 v
  let c2 := { c1 with ddr := { c1.ddr with lastFreq := some c1.tickN } }
  (c2.setBit Reg.DDR_EVENT 2 true).ddrAbsent len

def execDdrFreqChange (len : BitVec 10) (s : State) : Host.Outcome State Fault Refusal :=
  s.act (fun c =>
    if c.atBoundary && c.ddrReady && c.regBit Reg.DDR_STAT 5 != c.eng.cell1000 && decide (c.ddr.cellAt < c.tickN) && c.windowAllowed
        && decide (len.toNat ≤ 600)
    then c.freqChange len.toNat else c)

/-! ## The channel that runs -/

/-- The running channel, when an access of DMA at an address is one of its burst in progress. -/
def Chip.dmaAt (c : Chip) (addr : Nat) (write : Bool) : Option (Nat × DmaAct) :=
  c.dmaRunning.filter (fun e => e.2.writing == write && decide (e.2.addr ≤ addr) && decide (addr < e.2.addr + e.2.burst.2.2))

/-- An access of an initiator is answered with an error response: a host access is aborted, and DMA repeats its burst
(R487, R493). -/
def Chip.errorTo (c : Chip) (init addr : Nat) (write : Bool) : Chip :=
  if init = 0 then c.hostAbort (if addr < 0x1000000000 then 1 else 0) (addr % 2 ^ 30)
  else if init = 2 then
    match c.dmaAt addr write with
    | some e => c.dmaRetry e.1 e.2
    | none => c
  else c

/-! ## DRAM reads and writes (R473, R474, R478, R479) -/

/-- A read of a DRAM tile is answered: served from a complete write entry, or read with link corrections and, after an
uncorrectable read, once more. -/
def Chip.dramAnswer (c : Chip) (init t corr : Nat) (err1 err2 bad fwd : Bool) : Chip :=
  if fwd then c.bump Reg.DDR_FWD_CNT
  else
    let c1 := if corr = 0 then c else (c.bumpBy Reg.DDR_CORR_CNT corr).setFld Reg.DDR_CORR_CNT 17 16 (dramCh t)
    if err1 && err2 then (c1.ddrXfer t).errorTo init (256 * t) false
    else (c1.dramCheckBad t bad).1

/-- A read request of the queue completes: served from the write entry of its tile, or issued when its turn has come. -/
def Chip.dramServed (c : Chip) (r : DramReq) (corr : Nat) (err1 err2 bad fwd : Bool) : Chip :=
  if fwd || c.ddr.reqs.any (fun q => q.write && q.tile == r.tile && decide (q.num < r.num)) then
    (c.dramDrop r.num).dramAnswer r.init r.tile corr err1 err2 bad true
  else (c.dramServe r.num).dramAnswer r.init r.tile corr err1 err2 bad false

/-- A read of a DRAM tile completes: the one that the queue holds, or else one that enters it now. -/
def Chip.dramReadDone (c : Chip) (init : BitVec 4) (t : BitVec 27) (corr : Nat) (err1 err2 bad fwd : Bool) : Chip :=
  match readOf c.ddr.reqs init.toNat t.toNat with
  | some r => c.dramServed r corr err1 err2 bad fwd
  | none =>
    if c.dramRoom false then
      let c1 := c.dramPush { init := init, addr := t ++ (0 : BitVec 8), bytes := [], mark := false } false []
      match readOf c1.ddr.reqs init.toNat t.toNat with
      | some r => c1.dramServed r corr err1 err2 bad fwd
      | none => c1
    else c

def execDramReadDone (init : BitVec 4) (tile : BitVec 27) (corr : BitVec 8) (err1 err2 bad : Bool) (link : ReadEnd)
    (s : State) : Host.Outcome State Fault Refusal :=
  s.act (fun c =>
    if c.ddrReady && decide (init.toNat < 9) then (c.dramArrivals link.arrivals).dramReadDone init tile corr.toNat err1 err2 bad link.fwd else c)

/-- A write entry is written with its check word and its mark, or discarded for a parity error, and each of its writes is then
answered with an error response. -/
def Chip.dramWriteDone (c : Chip) (a : DramAccess) (parity : Bool) : Chip :=
  let t := a.addr.toNat / 256
  let failed (c : Chip) (l : List DramAccess) : Chip :=
    l.foldl (fun c p => c.errorTo p.init.toNat p.addr.toNat true) (c.ddrXfer t)
  match entryOf c.ddr.reqs a with
  | some e =>
    let held := e.parts.contains a
    let c1 := if held then c else (c.dramJoin e a).tileWrite .dram a.addr.toNat a.bytes a.mark
    let c2 := c1.dramServe e.num
    if parity then failed (c2.dramUndo e) (if held then e.parts else e.parts ++ [a]) else c2
  | none =>
    if c.dramRoom true then
      let c1 := (c.dramPush a true [a]).dramServe c.ddr.nreq
      if parity then failed c1 [a] else c1.tileWrite .dram a.addr.toNat a.bytes a.mark
    else c

def execDramWriteDone (init : BitVec 4) (addr : BitVec 35) (bytes : List Byte) (mark : Bool) (link : WriteEnd)
    (s : State) : Host.Outcome State Fault Refusal :=
  s.act (fun c =>
    let a := addr.toNat
    if c.ddrReady && decide (init.toNat < 9) && !bytes.isEmpty && decide (a % 256 + bytes.length ≤ 256) && decide (a < c.dramUsable) then
      (c.dramArrivals link.arrivals).dramWriteDone { init := init, addr := addr, bytes := bytes, mark := mark } link.parity
    else c)

/-! ## The bus matrix (R484 to R487) -/

/-- A transaction that was held back is issued, and the port it reaches grants one of those that wait. -/
def execBmxHeldIssue (s : State) : Host.Outcome State Fault Refusal :=
  s.act (fun c => if c.sys.up then ({ c with nfree := c.nfree + 1 }.busGrant c.busWaits).bump Reg.BMX_HOLD_CNT else c)

/-- The default target answers: a decode error, which halts a DMA channel at once (R496). -/
def Chip.defaultTarget (c : Chip) (init addr : Nat) (write : Bool) : Chip :=
  let c1 := c.busDecode init addr write
  if init = 2 then
    match c.dmaAt addr write with
    | some e => c1.dmaHalt e.1 2 e.2
    | none => c1
  else c1.errorTo init addr write

def execDefaultTarget (init : BitVec 4) (addr : BitVec 40) (write : Bool) (s : State) : Host.Outcome State Fault Refusal :=
  s.act (fun c =>
    if c.sys.up && decide (init.toNat < 9) && (c.busTarget init.toNat addr.toNat).isNone then c.defaultTarget init.toNat addr.toNat write
    else c)

/-- The matrix answers for a target that was silent for 1 ms. -/
def execBusTimeout (init : BitVec 4) (addr : BitVec 40) (write : Bool) (s : State) : Host.Outcome State Fault Refusal :=
  s.act (fun c =>
    if c.sys.up && decide (init.toNat < 9) && (c.busTarget init.toNat addr.toNat).isSome then
      (c.busErr 0 init.toNat addr.toNat write).errorTo init.toNat addr.toNat write
    else c)

/-! ## DMA (R488 to R497) -/

def execDmaStart (ch : BitVec 4) (s : State) : Host.Outcome State Fault Refusal :=
  s.act (fun c => if c.pfUp false then c.hostAt (Reg.DMA_CH_CTRL ch.toNat) (fun c => c.dmaStart ch.toNat) else c)

def execDmaAbort (ch : BitVec 4) (s : State) : Host.Outcome State Fault Refusal :=
  s.act (fun c => if c.pfUp false then c.hostAt (Reg.DMA_CH_CTRL ch.toNat) (fun c => c.dmaAbort ch.toNat) else c)

def execDmaChannelRun (s : State) : Host.Outcome State Fault Refusal :=
  s.act (fun c =>
    match c.dma.queue with
    | n :: _ =>
      if c.regFld (Reg.DMA_CH_STAT n) 31 29 = 1 && !c.forced 4 then (c.setFld (Reg.DMA_CH_STAT n) 31 29 2).dmaStat else c
    | [] => c)

/-- The error of a target is counted where its rule says: DDR_XFER, CLK_FORCE_HIT, or BUS_ERR (R353, R486). -/
def Chip.targetError (c : Chip) (init addr : Nat) (write : Bool) : Chip :=
  match c.busTarget init addr with
  | some (.dram a) => c.ddrXfer (a / 256)
  | some (.regs off) =>
    match c.gatedAt off with
    | some u => c.forceHit u
    | none => c.busErr 1 init addr write
  | _ => c.busErr 1 init addr write

/-- A target does not perform an access: its unit is force-gated. -/
def Chip.targetGated (c : Chip) : Target → Bool
  | .regs off => (c.gatedAt off).isSome
  | _ => false

/-- The gates that an access to a target opens. -/
def Chip.openTarget (c : Chip) : Target → Chip
  | .regs off => c.openGates off
  | _ => c

/-- Reads `n` beats of registers of 4 bytes, or of 8 when `wide` (R40, R483). -/
def Chip.regBeats (c : Chip) (wide : Bool) (off : Nat) : Nat → Chip × List Byte
  | 0 => (c, [])
  | n + 1 =>
    if wide then
      let r := c.regBeats wide (off + 8) n
      (r.1, leBytes 4 (c.regLive off).toNat ++ leBytes 4 (c.regLive (off + 4)).toNat ++ r.2)
    else
      let r := (c.latch off).regBeats wide (off + 4) n
      (r.1, leBytes 4 (c.regRead off).toNat ++ r.2)

/-- Reads a burst of `n` bytes; the flag says that its tile carries the mark. -/
def Chip.dmaRead (c : Chip) (t : Target) (sw n : Nat) : Chip × List Byte × Bool :=
  match t with
  | .dram a => c.dramRead a n
  | .region a => c.regionRead a n
  | .regs a =>
    let r := c.regBeats (sw == 3) a (if sw = 3 then n / 8 else n / 4)
    (r.1, r.2, false)
  | _ => (c, [], false)

/-- Writes bytes to registers in beats of 4 bytes, or of 8 when `wide`; `k` is at least the number of beats. -/
def Chip.writeBeats (c : Chip) (wide : Bool) (off : Nat) (b : List Byte) : Nat → Chip
  | 0 => c
  | k + 1 =>
    if b.isEmpty then c
    else
      let n := if wide then 8 else 4
      (c.regWrites off wide (BitVec.ofNat 64 (leNat (b.take n)))).writeBeats wide (off + n) (b.drop n) k

/-- Writes a burst. -/
def Chip.dmaWrite (c : Chip) (t : Target) (dw : Nat) (b : List Byte) (mark : Bool) : Chip :=
  match t with
  | .dram a => c.tileWrite .dram a b mark
  | .region a => c.tileWrite .region a b mark
  | .regs a => c.writeBeats (dw == 3) a b b.length
  | _ => c

/-- A burst has been read: it is written next, and LEFT falls by its length with its last beat (R491, R492). -/
def Chip.dmaGot (c : Chip) (n len : Nat) (a : DmaAct) (b : List Byte) (mark : Bool) : Chip :=
  let c1 := c.setAct n (some { a with hold := b, mark := mark, writing := true })
  let c2 := if mark then c1.setBit (Reg.DMA_CH_STAT n) 26 true else c1
  c2.setReg (Reg.DMA_CH_LEFT n) (BitVec.ofNat 32 (a.left - len))

/-- The read of the burst in progress is answered. -/
def Chip.dmaReadResp (c : Chip) (err : Bool) : Chip :=
  match c.dmaRunning with
  | none => c
  | some (n, a) =>
    if a.writing then c
    else
      let s := a.burst.1
      let len := a.burst.2.2
      match c.busTarget 2 s with
      | none => (c.busDecode 2 s false).dmaHalt n 2 a
      | some t =>
        if err || c.targetGated t then (c.targetError 2 s false).dmaRetry n a
        else
          let x := (c.openTarget t).dmaRead t (fld a.cfg 14 12) len
          if a.stop then x.1.dmaStopped n a else x.1.dmaGot n len a x.2.1 x.2.2

def execDmaReadResponse (err : Bool) (s : State) : Host.Outcome State Fault Refusal :=
  s.act (fun c => c.dmaReadResp err)

/-- A burst is confirmed written: the next one follows with no retries, or the channel is done. -/
def Chip.dmaConfirmed (c : Chip) (n len : Nat) (a : DmaAct) : Chip :=
  if (c.dmaAct n).isNone then c
  else if a.stop then c.dmaStopped n { a with left := a.left - len }
  else if a.left ≤ len then c.dmaDone n (a.cfg.getLsbD 0)
  else
    let c1 := c.setAct n (some { a with left := a.left - len, hold := [], mark := false, writing := false })
    c1.setFld (Reg.DMA_CH_STAT n) 25 23 0

/-- The write of the burst in progress is answered. -/
def Chip.dmaWriteResp (c : Chip) (err : Bool) : Chip :=
  match c.dmaRunning with
  | none => c
  | some (n, a) =>
    if !a.writing then c
    else
      let d := a.burst.2.1
      match c.busTarget 2 d with
      | none => (c.busDecode 2 d true).dmaHalt n 2 a
      | some t =>
        if err || c.targetGated t then (c.targetError 2 d true).dmaRetry n a
        else ((c.openTarget t).dmaWrite t (fld a.cfg 18 16) a.hold a.mark).dmaConfirmed n a.burst.2.2 a

def execDmaWriteResponse (err : Bool) (s : State) : Host.Outcome State Fault Refusal :=
  s.act (fun c => c.dmaWriteResp err)

end Sys2Proof.Machine
end

