-- ==== Sys2Proof/Machine/Dispatch.lean ====
section
/-! DEFINITION. The meaning of every command. -/
namespace Sys2Proof.Machine
open Sys2Proof

/-- The effect of a command on everything but the queue. -/
def exec (i : Instr) (s : State) : Host.Outcome State Fault Refusal :=
  match i with
  | .nop cell => Sys2Proof.Machine.execNop cell s
  | .br cell t => Sys2Proof.Machine.execBr cell t s
  | .brz cell ra t => Sys2Proof.Machine.execBrz cell ra t s
  | .brnz cell ra t => Sys2Proof.Machine.execBrnz cell ra t s
  | .brn cell ra t => Sys2Proof.Machine.execBrn cell ra t s
  | .brnn cell ra t => Sys2Proof.Machine.execBrnn cell ra t s
  | .brind cell ra => Sys2Proof.Machine.execBrind cell ra s
  | .loop cell lvl cnt le => Sys2Proof.Machine.execLoop cell lvl cnt le s
  | .retb cell => Sys2Proof.Machine.execRetb cell s
  | .bwait cell => Sys2Proof.Machine.execBwait cell s
  | .cmac cell ra rb aux mem => Sys2Proof.Machine.execCmac cell ra rb aux mem s
  | .cmacj cell ra rb aux mem => Sys2Proof.Machine.execCmacj cell ra rb aux mem s
  | .cmsu cell ra rb aux mem => Sys2Proof.Machine.execCmsu cell ra rb aux mem s
  | .cmsuj cell ra rb aux mem => Sys2Proof.Machine.execCmsuj cell ra rb aux mem s
  | .cmacr cell ra rb aux mem => Sys2Proof.Machine.execCmacr cell ra rb aux mem s
  | .mac2 cell ra rb rc rd aux mem => Sys2Proof.Machine.execMac2 cell ra rb rc rd aux mem s
  | .msu2 cell ra rb rc rd aux mem => Sys2Proof.Machine.execMsu2 cell ra rb rc rd aux mem s
  | .mas2 cell ra rb rc rd aux mem => Sys2Proof.Machine.execMas2 cell ra rb rc rd aux mem s
  | .mac1 cell ra rb aux mem => Sys2Proof.Machine.execMac1 cell ra rb aux mem s
  | .msu1 cell ra rb aux mem => Sys2Proof.Machine.execMsu1 cell ra rb aux mem s
  | .ext cell a rd s1 mem => Sys2Proof.Machine.execExt cell a rd s1 mem s
  | .extp cell p rd s1 mem => Sys2Proof.Machine.execExtp cell p rd s1 mem s
  | .aclr cell a mem => Sys2Proof.Machine.execAclr cell a mem s
  | .ald cell a rb mem => Sys2Proof.Machine.execAld cell a rb mem s
  | .ashr cell a n mem => Sys2Proof.Machine.execAshr cell a n mem s
  | .ashl cell a n mem => Sys2Proof.Machine.execAshl cell a n mem s
  | .aadd cell a b mem => Sys2Proof.Machine.execAadd cell a b mem s
  | .asub cell a b mem => Sys2Proof.Machine.execAsub cell a b mem s
  | .aget cell a rd part mem => Sys2Proof.Machine.execAget cell a rd part mem s
  | .aput cell a rb part mem => Sys2Proof.Machine.execAput cell a rb part mem s
  | .mov cell ra rd mem => Sys2Proof.Machine.execMov cell ra rd mem s
  | .add cell ra rb rd mem => Sys2Proof.Machine.execAdd cell ra rb rd mem s
  | .sub cell ra rb rd mem => Sys2Proof.Machine.execSub cell ra rb rd mem s
  | .and cell ra rb rd mem => Sys2Proof.Machine.execAnd cell ra rb rd mem s
  | .or cell ra rb rd mem => Sys2Proof.Machine.execOr cell ra rb rd mem s
  | .xor cell ra rb rd mem => Sys2Proof.Machine.execXor cell ra rb rd mem s
  | .neg cell ra rd mem => Sys2Proof.Machine.execNeg cell ra rd mem s
  | .abs cell ra rd mem => Sys2Proof.Machine.execAbs cell ra rd mem s
  | .min cell ra rb rd mem => Sys2Proof.Machine.execMin cell ra rb rd mem s
  | .max cell ra rb rd mem => Sys2Proof.Machine.execMax cell ra rb rd mem s
  | .asr cell ra rb rd mem => Sys2Proof.Machine.execAsr cell ra rb rd mem s
  | .lsr cell ra rb rd mem => Sys2Proof.Machine.execLsr cell ra rb rd mem s
  | .lsl cell ra rb rd mem => Sys2Proof.Machine.execLsl cell ra rb rd mem s
  | .sel cell ra rb rc rd mem => Sys2Proof.Machine.execSel cell ra rb rc rd mem s
  | .ldi cell rd imm => Sys2Proof.Machine.execLdi cell rd imm s
  | .setp cell n imm => Sys2Proof.Machine.execSetp cell n imm s
  | .setb cell n imm => Sys2Proof.Machine.execSetb cell n imm s
  | .setl cell n brev imm => Sys2Proof.Machine.execSetl cell n brev imm s
  | .setm cell n imm => Sys2Proof.Machine.execSetm cell n imm s
  | .tload cell slot region t => Sys2Proof.Machine.execTload cell slot region t s
  | .tstore cell slot region t => Sys2Proof.Machine.execTstore cell slot region t s
  | .twait cell mask => Sys2Proof.Machine.execTwait cell mask s
  | .strm cell slot region more first => Sys2Proof.Machine.execStrm cell slot region more first s
  | .stnext cell => Sys2Proof.Machine.execStnext cell s
  | .ststop cell => Sys2Proof.Machine.execStstop cell s
  | .recv cell rd slot mem => Sys2Proof.Machine.execRecv cell rd slot mem s
  | .recvp cell rd slot mem => Sys2Proof.Machine.execRecvp cell rd slot mem s
  | .pub cell ra slot mem => Sys2Proof.Machine.execPub cell ra slot mem s
  | .pubp cell ra slot mem => Sys2Proof.Machine.execPubp cell ra slot mem s
  | .gain cell ra rd slot mem => Sys2Proof.Machine.execGain cell ra rd slot mem s
  | .mts cell ra n => Sys2Proof.Machine.execMts cell ra n s
  | .mfs cell rd n => Sys2Proof.Machine.execMfs cell rd n s
  | .illegalInstruction cell word => Sys2Proof.Machine.execIllegalInstruction cell word s
  | .tickBoundary cycles clks => Sys2Proof.Machine.execTickBoundary cycles clks s
  | .forcedLegEntry leg => Sys2Proof.Machine.execForcedLegEntry leg s
  | .legEnd leg => Sys2Proof.Machine.execLegEnd leg s
  | .windowEnd exch win first => Sys2Proof.Machine.execWindowEnd exch win first s
  | .scheduleTileFetch exch win tile bad => Sys2Proof.Machine.execScheduleTileFetch exch win tile bad s
  | .commitWindow => Sys2Proof.Machine.execCommitWindow s
  | .suspend ch => Sys2Proof.Machine.execSuspend ch s
  | .resume ch => Sys2Proof.Machine.execResume ch s
  | .setRate ch => Sys2Proof.Machine.execSetRate ch s
  | .commandEffect => Sys2Proof.Machine.execCommandEffect s
  | .suspendHoldEnd => Sys2Proof.Machine.execSuspendHoldEnd s
  | .rateFadeEnd => Sys2Proof.Machine.execRateFadeEnd s
  | .firstNewRateTick wait clks => Sys2Proof.Machine.execFirstNewRateTick wait clks s
  | .graphLoad ch => Sys2Proof.Machine.execGraphLoad ch s
  | .graphLoadDone => Sys2Proof.Machine.execGraphLoadDone s
  | .graphCommit ch => Sys2Proof.Machine.execGraphCommit ch s
  | .graphCut => Sys2Proof.Machine.execGraphCut s
  | .graphFadeStart => Sys2Proof.Machine.execGraphFadeStart s
  | .fadeEnd => Sys2Proof.Machine.execFadeEnd s
  | .graphDiscard ch => Sys2Proof.Machine.execGraphDiscard ch s
  | .graphInfo ch => Sys2Proof.Machine.execGraphInfo ch s
  | .regionSettled region => Sys2Proof.Machine.execRegionSettled region s
  | .cellRetire ch => Sys2Proof.Machine.execCellRetire ch s
  | .retireCopyDone => Sys2Proof.Machine.execRetireCopyDone s
  | .retireSwap => Sys2Proof.Machine.execRetireSwap s
  | .stakeSet ch => Sys2Proof.Machine.execStakeSet ch s
  | .stakeGet ch => Sys2Proof.Machine.execStakeGet ch s
  | .stakeSave ch bad => Sys2Proof.Machine.execStakeSave ch bad s
  | .stakeLoad ch => Sys2Proof.Machine.execStakeLoad ch s
  | .paramWrite ch => Sys2Proof.Machine.execParamWrite ch s
  | .paramRead ch => Sys2Proof.Machine.execParamRead ch s
  | .gainSet ch => Sys2Proof.Machine.execGainSet ch s
  | .gainCfg ch => Sys2Proof.Machine.execGainCfg ch s
  | .gainGet ch => Sys2Proof.Machine.execGainGet ch s
  | .tailBind ch => Sys2Proof.Machine.execTailBind ch s
  | .tailUnbind ch => Sys2Proof.Machine.execTailUnbind ch s
  | .tailPeriod region turn => Sys2Proof.Machine.execTailPeriod region turn s
  | .tailGroupLate region stream first => Sys2Proof.Machine.execTailGroupLate region stream first s
  | .tileMoveComplete cell slot bad => Sys2Proof.Machine.execTileMoveComplete cell slot bad s
  | .streamerRefillDone cell slot bad => Sys2Proof.Machine.execStreamerRefillDone cell slot bad s
  | .fetchComplete cell tile bad => Sys2Proof.Machine.execFetchComplete cell tile bad s
  | .wakeEvent cell => Sys2Proof.Machine.execWakeEvent cell s
  | .cellOn cell => Sys2Proof.Machine.execCellOn cell s
  | .wakeFail cell => Sys2Proof.Machine.execWakeFail cell s
  | .dramReadaheadDone region tap tile bad => Sys2Proof.Machine.execDramReadaheadDone region tap tile bad s
  | .writeBehindOverflow region tiles => Sys2Proof.Machine.execWriteBehindOverflow region tiles s
  | .hostAccessAbort space off len write => Sys2Proof.Machine.execHostAccessAbort space off len write s
  | .hostMemoryWindowAccess bar2 off wide w => Sys2Proof.Machine.execHostMemoryWindowAccess bar2 off wide w s
  | .fieldbookWindowRead off wide => Sys2Proof.Machine.execFieldbookWindowRead off wide s
  | .tickLoRead eng => Sys2Proof.Machine.execTickLoRead eng s
  | .latchedLoRead addr => Sys2Proof.Machine.execLatchedLoRead addr s
  | .registerWrite addr wide w => Sys2Proof.Machine.execRegisterWrite addr wide w s
  | .dramWinWrite v => Sys2Proof.Machine.execDramWinWrite v s
  | .msixCollapseWrite on => Sys2Proof.Machine.execMsixCollapseWrite on s
  | .abortClr => Sys2Proof.Machine.execAbortClr s
  | .authChallenge ch => Sys2Proof.Machine.execAuthChallenge ch s
  | .authResponse ch => Sys2Proof.Machine.execAuthResponse ch s
  | .authClose ch => Sys2Proof.Machine.execAuthClose ch s
  | .challengeExpiry => Sys2Proof.Machine.execChallengeExpiry s
  | .authLockoutEnd => Sys2Proof.Machine.execAuthLockoutEnd s
  | .doorbellRing cluster unit bit taken => Sys2Proof.Machine.execDoorbellRing cluster unit bit taken s
  | .doorbellTake cluster unit access => Sys2Proof.Machine.execDoorbellTake cluster unit access s
  | .doorbellTimeout cluster unit bit ch => Sys2Proof.Machine.execDoorbellTimeout cluster unit bit ch s
  | .cmdRing ch => Sys2Proof.Machine.execCmdRing ch s
  | .cmdAbort ch => Sys2Proof.Machine.execCmdAbort ch s
  | .cmdTake => Sys2Proof.Machine.execCmdTake s
  | .commandAccept ch => Sys2Proof.Machine.execCommandAccept ch s
  | .cmdResponse ch => Sys2Proof.Machine.execCmdResponse ch s
  | .cmdTakeTimeout ch => Sys2Proof.Machine.execCmdTakeTimeout ch s
  | .cmdIgnoredWrite ch kind => Sys2Proof.Machine.execCmdIgnoredWrite ch kind s
  | .cmdTimeoutWrite ch v => Sys2Proof.Machine.execCmdTimeoutWrite ch v s
  | .functionLevelReset pf1 => Sys2Proof.Machine.execFunctionLevelReset pf1 s
  | .sysNop ch => Sys2Proof.Machine.execSysNop ch s
  | .sysInfo ch => Sys2Proof.Machine.execSysInfo ch s
  | .sysTime ch => Sys2Proof.Machine.execSysTime ch s
  | .sysSched ch => Sys2Proof.Machine.execSysSched ch s
  | .sysCancel ch => Sys2Proof.Machine.execSysCancel ch s
  | .refCfg ch => Sys2Proof.Machine.execRefCfg ch s
  | .refEnable ch => Sys2Proof.Machine.execRefEnable ch s
  | .datumCfg ch => Sys2Proof.Machine.execDatumCfg ch s
  | .datumFreqAdj ch => Sys2Proof.Machine.execDatumFreqAdj ch s
  | .datumStep ch => Sys2Proof.Machine.execDatumStep ch s
  | .datumStatus ch => Sys2Proof.Machine.execDatumStatus ch s
  | .holdoverSave ch bad => Sys2Proof.Machine.execHoldoverSave ch bad s
  | .refEnWrite ref v => Sys2Proof.Machine.execRefEnWrite ref v s
  | .refTimingPoint ref dev phase => Sys2Proof.Machine.execRefTimingPoint ref dev phase s
  | .missingEdge ref => Sys2Proof.Machine.execMissingEdge ref s
  | .freqGateEnd ref freq => Sys2Proof.Machine.execFreqGateEnd ref freq s
  | .datumLock => Sys2Proof.Machine.execDatumLock s
  | .holdoverUpdate => Sys2Proof.Machine.execHoldoverUpdate s
  | .modelRecord => Sys2Proof.Machine.execModelRecord s
  | .xoSensorRead val => Sys2Proof.Machine.execXoSensorRead val s
  | .holdLimitExpiry => Sys2Proof.Machine.execHoldLimitExpiry s
  | .modelSave bad => Sys2Proof.Machine.execModelSave bad s
  | .ptpSyncTimeout => Sys2Proof.Machine.execPtpSyncTimeout s
  | .timeAdjWrite v => Sys2Proof.Machine.execTimeAdjWrite v s
  | .timeIncWrite lo hi => Sys2Proof.Machine.execTimeIncWrite lo hi s
  | .mediaOffWrite v => Sys2Proof.Machine.execMediaOffWrite v s
  | .ppsInEdge clks eighth => Sys2Proof.Machine.execPpsInEdge clks eighth s
  | .startInEdge clks eighth => Sys2Proof.Machine.execStartInEdge clks eighth s
  | .captureNsRead start => Sys2Proof.Machine.execCaptureNsRead start s
  | .xoActivityTrip clks inStart => Sys2Proof.Machine.execXoActivityTrip clks inStart s
  | .xoWindowEnd count clks inStart => Sys2Proof.Machine.execXoWindowEnd count clks inStart s
  | .fbrcWindowEnd count clks => Sys2Proof.Machine.execFbrcWindowEnd count clks s
  | .fbrcStartTimeout => Sys2Proof.Machine.execFbrcStartTimeout s
  | .pllLockLoss pll => Sys2Proof.Machine.execPllLockLoss pll s
  | .internalResetRelease clks badA badB rec => Sys2Proof.Machine.execInternalResetRelease clks badA badB rec s
  | .resetHoldTimeout => Sys2Proof.Machine.execResetHoldTimeout s
  | .gateClose unit => Sys2Proof.Machine.execGateClose unit s
  | .gateForceWrite v => Sys2Proof.Machine.execGateForceWrite v s
  | .forceHit unit host off => Sys2Proof.Machine.execForceHit unit host off s
  | .clkObsWrite v => Sys2Proof.Machine.execClkObsWrite v s
  | .portCfg ch => Sys2Proof.Machine.execPortCfg ch s
  | .portEnable ch => Sys2Proof.Machine.execPortEnable ch s
  | .portDisable ch => Sys2Proof.Machine.execPortDisable ch s
  | .portSlots ch => Sys2Proof.Machine.execPortSlots ch s
  | .startArm ch => Sys2Proof.Machine.execStartArm ch s
  | .start ch => Sys2Proof.Machine.execStart ch s
  | .commonStartRelease => Sys2Proof.Machine.execCommonStartRelease s
  | .startOutPulse => Sys2Proof.Machine.execStartOutPulse s
  | .portStatus ch => Sys2Proof.Machine.execPortStatus ch s
  | .aesCfg ch => Sys2Proof.Machine.execAesCfg ch s
  | .madiCfg ch => Sys2Proof.Machine.execMadiCfg ch s
  | .tdmSlotReceived port slot bits => Sys2Proof.Machine.execTdmSlotReceived port slot bits s
  | .aes3FrameReceived rx good rate freq a b => Sys2Proof.Machine.execAes3FrameReceived rx good rate freq a b s
  | .nonaudioHoldEnd rx pair => Sys2Proof.Machine.execNonaudioHoldEnd rx pair s
  | .madiFrameReceived rx good rate freq subs => Sys2Proof.Machine.execMadiFrameReceived rx good rate freq subs s
  | .madiFrameStart tx delay => Sys2Proof.Machine.execMadiFrameStart tx delay s
  | .cueCfg ch => Sys2Proof.Machine.execCueCfg ch s
  | .cueStatus ch => Sys2Proof.Machine.execCueStatus ch s
  | .cueMeasure port plugged s1 s2 => Sys2Proof.Machine.execCueMeasure port plugged s1 s2 s
  | .cueClassifyTimeout port => Sys2Proof.Machine.execCueClassifyTimeout port s
  | .cueButtonStuck port => Sys2Proof.Machine.execCueButtonStuck port s
  | .receiverLockLoss rx => Sys2Proof.Machine.execReceiverLockLoss rx s
  | .macCfg ch => Sys2Proof.Machine.execMacCfg ch s
  | .macEnable ch => Sys2Proof.Machine.execMacEnable ch s
  | .groupFilter ch => Sys2Proof.Machine.execGroupFilter ch s
  | .streamRxCfg ch => Sys2Proof.Machine.execStreamRxCfg ch s
  | .streamTxCfg ch => Sys2Proof.Machine.execStreamTxCfg ch s
  | .streamEnable ch => Sys2Proof.Machine.execStreamEnable ch s
  | .streamDisable ch => Sys2Proof.Machine.execStreamDisable ch s
  | .netStats ch => Sys2Proof.Machine.execNetStats ch s
  | .netSend ch => Sys2Proof.Machine.execNetSend ch s
  | .netSendDone ch => Sys2Proof.Machine.execNetSendDone ch s
  | .ptpCfg ch => Sys2Proof.Machine.execPtpCfg ch s
  | .frameReceived mac bytes clks => Sys2Proof.Machine.execFrameReceived mac bytes clks s
  | .rxqTailWrite mac v => Sys2Proof.Machine.execRxqTailWrite mac v s
  | .frameTransmit mac => Sys2Proof.Machine.execFrameTransmit mac s
  | .linkChange mac lock lfault rfault => Sys2Proof.Machine.execLinkChange mac lock lfault rfault s
  | .sfpSidebandChange mac modabs los txfault => Sys2Proof.Machine.execSfpSidebandChange mac modabs los txfault s
  | .netSnapTake mac => Sys2Proof.Machine.execNetSnapTake mac s
  | .ptpAnnounceTimeout => Sys2Proof.Machine.execPtpAnnounceTimeout s
  | .ptpDelayReqInterval => Sys2Proof.Machine.execPtpDelayReqInterval s
  | .driveCfg ch => Sys2Proof.Machine.execDriveCfg ch s
  | .driveProtect ch => Sys2Proof.Machine.execDriveProtect ch s
  | .driveEnable ch => Sys2Proof.Machine.execDriveEnable ch s
  | .driveDisable ch => Sys2Proof.Machine.execDriveDisable ch s
  | .driveStatus ch => Sys2Proof.Machine.execDriveStatus ch s
  | .driveClear ch => Sys2Proof.Machine.execDriveClear ch s
  | .carrierBoundary mod => Sys2Proof.Machine.execCarrierBoundary mod s
  | .senseFrame mod bytes link => Sys2Proof.Machine.execSenseFrame mod bytes link s
  | .senseTimeout mod => Sys2Proof.Machine.execSenseTimeout mod s
  | .drvFltAssert chan => Sys2Proof.Machine.execDrvFltAssert chan s
  | .retryStart chan => Sys2Proof.Machine.execRetryStart chan s
  | .pilotMeasureDone chan z phase => Sys2Proof.Machine.execPilotMeasureDone chan z phase s
  | .dcWindowEnd chan => Sys2Proof.Machine.execDcWindowEnd chan s
  | .railRecover mod => Sys2Proof.Machine.execRailRecover mod s
  | .povinLinkUp gctlId chipId pairId => Sys2Proof.Machine.execPovinLinkUp gctlId chipId pairId s
  | .povinLinkDown => Sys2Proof.Machine.execPovinLinkDown s
  | .povinFrameError coding => Sys2Proof.Machine.execPovinFrameError coding s
  | .heartbeatReceived frame arrival drive => Sys2Proof.Machine.execHeartbeatReceived frame arrival drive s
  | .ownPoint left => Sys2Proof.Machine.execOwnPoint left s
  | .partnerPoint ownIn => Sys2Proof.Machine.execPartnerPoint ownIn s
  | .takeover => Sys2Proof.Machine.execTakeover s
  | .ownershipRelease => Sys2Proof.Machine.execOwnershipRelease s
  | .plannedRelease => Sys2Proof.Machine.execPlannedRelease s
  | .mirrorCopyReceived ch packet tick => Sys2Proof.Machine.execMirrorCopyReceived ch packet tick s
  | .mirrorAckReceived ch reason => Sys2Proof.Machine.execMirrorAckReceived ch reason s
  | .mirrorAckTimeout ch late => Sys2Proof.Machine.execMirrorAckTimeout ch late s
  | .mirrorForwardReceived ch packet => Sys2Proof.Machine.execMirrorForwardReceived ch packet s
  | .forwardResultReceived ch reason applied payload => Sys2Proof.Machine.execForwardResultReceived ch reason applied payload s
  | .bulkFrameReceived item => Sys2Proof.Machine.execBulkFrameReceived item s
  | .pairStatus ch => Sys2Proof.Machine.execPairStatus ch s
  | .pairHandover ch => Sys2Proof.Machine.execPairHandover ch s
  | .pairResync ch standby => Sys2Proof.Machine.execPairResync ch standby s
  | .resyncCommit bad => Sys2Proof.Machine.execResyncCommit bad s
  | .livenessUpdate => Sys2Proof.Machine.execLivenessUpdate s
  | .execWdogExpiry => Sys2Proof.Machine.execExecWdogExpiry s
  | .pairSigTake => Sys2Proof.Machine.execPairSigTake s
  | .dqsOscCheck drift => Sys2Proof.Machine.execDqsOscCheck drift s
  | .retrainWindow len => Sys2Proof.Machine.execRetrainWindow len s
  | .ddrFreqChange len => Sys2Proof.Machine.execDdrFreqChange len s
  | .dramReadDone init tile corr err1 err2 bad link => Sys2Proof.Machine.execDramReadDone init tile corr err1 err2 bad link s
  | .dramWriteDone init addr bytes mark link => Sys2Proof.Machine.execDramWriteDone init addr bytes mark link s
  | .bmxHeldIssue => Sys2Proof.Machine.execBmxHeldIssue s
  | .defaultTarget init addr write => Sys2Proof.Machine.execDefaultTarget init addr write s
  | .busTimeout init addr write => Sys2Proof.Machine.execBusTimeout init addr write s
  | .dmaStart ch => Sys2Proof.Machine.execDmaStart ch s
  | .dmaAbort ch => Sys2Proof.Machine.execDmaAbort ch s
  | .dmaChannelRun => Sys2Proof.Machine.execDmaChannelRun s
  | .dmaReadResponse err => Sys2Proof.Machine.execDmaReadResponse err s
  | .dmaWriteResponse err => Sys2Proof.Machine.execDmaWriteResponse err s
  | .faultAckWrite mask => Sys2Proof.Machine.execFaultAckWrite mask s
  | .blockReset => Sys2Proof.Machine.execBlockReset s
  | .faultCfg ch => Sys2Proof.Machine.execFaultCfg ch s
  | .faultAck ch => Sys2Proof.Machine.execFaultAck ch s
  | .faultStatus ch => Sys2Proof.Machine.execFaultStatus ch s
  | .cntRead ch => Sys2Proof.Machine.execCntRead ch s
  | .cntClear ch => Sys2Proof.Machine.execCntClear ch s
  | .counterSnapshot bad => Sys2Proof.Machine.execCounterSnapshot bad s
  | .vcoreAverage sum => Sys2Proof.Machine.execVcoreAverage sum s
  | .shedStageFall => Sys2Proof.Machine.execShedStageFall s
  | .dieTempRead t => Sys2Proof.Machine.execDieTempRead t s
  | .shedStageEffect => Sys2Proof.Machine.execShedStageEffect s
  | .shedResetRelease => Sys2Proof.Machine.execShedResetRelease s
  | .fwWrite ch bad => Sys2Proof.Machine.execFwWrite ch bad s
  | .fwVerify ch bad => Sys2Proof.Machine.execFwVerify ch bad s
  | .execSwap ch bad => Sys2Proof.Machine.execExecSwap ch bad s
  | .execHandover taken => Sys2Proof.Machine.execExecHandover taken s
  | .handoverTimeout => Sys2Proof.Machine.execHandoverTimeout s
  | .fwSlotSet ch bad rec => Sys2Proof.Machine.execFwSlotSet ch bad rec s
  | .fbWrite ch bad => Sys2Proof.Machine.execFbWrite ch bad s
  | .keySet ch bad => Sys2Proof.Machine.execKeySet ch bad s
  | .resetNAssert => Sys2Proof.Machine.execResetNAssert s
  | .resetNRelease straps => Sys2Proof.Machine.execResetNRelease straps s
  | .perstNAssert low => Sys2Proof.Machine.execPerstNAssert low s
  | .railPowerFail => Sys2Proof.Machine.execRailPowerFail s
  | .railPowerGood => Sys2Proof.Machine.execRailPowerGood s
  | .execReady trained ranks => Sys2Proof.Machine.execExecReady trained ranks s
  | .execRestartDone => Sys2Proof.Machine.execExecRestartDone s
  | .tapTestMode scan => Sys2Proof.Machine.execTapTestMode scan s
  | .keyLoad slot key => Sys2Proof.Machine.execKeyLoad slot key s
  | .debugEnableWrite on => Sys2Proof.Machine.execDebugEnableWrite on s
  | .pcieLinkLoss => Sys2Proof.Machine.execPcieLinkLoss s

end Sys2Proof.Machine
end

