-- ==== Sys2Proof/Safety.lean ====
section
/-! DEFINITION. What counts as a safe run and a well-formed state, in the terms claims use. -/
namespace Sys2Proof.Machine
open Sys2Proof

/-- The memories and their side arrays are in canonical form: addresses strictly rise and no entry equals what an unlisted
address reads as. -/
def Memory.wf (m : Mem) : Bool :=
  Map.wf byte0 m.prog && Map.wf chk0 m.progChk && Map.wf byte0 m.back && Map.wf chk0 m.backChk &&
    Map.wf byte0 m.region && Map.wf chk0 m.regionChk && Map.wf byte0 m.dram && Map.wf chk0 m.dramChk &&
  Map.wf byte0 m.sched && Map.wf chk0 m.schedChk

/-- The stored registers are in canonical form. -/
def Chip.regsWf (c : Chip) : Bool := Map.wf regReset c.regs

/-- The field book and the QSPI NOR are in canonical form. -/
def Sys.wf (x : Sys) : Bool := Map.wf byte0 x.fieldBook && Map.wf nor0 x.qspi

/-- The memories, the registers and the stores that survive a reset are in canonical form. -/
def State.wf (s : State) : Prop := Memory.wf s.chip.mem = true ∧ s.chip.regsWf = true ∧ s.chip.sys.wf = true

/-- A command completes: it answers a next state, neither a fault nor a refusal. -/
def Completes (i : Instr) (s : State) : Prop := ∃ t : State, exec i s = .next t

/-- A run of `k` steps meets neither a fault nor a refusal. -/
def SafeRun : Nat → State → Prop
  | 0, _ => True
  | k + 1, s => ∃ t : State, step s = .next t ∧ SafeRun k t

/-! ## Terms of the claims -/

/-- Every fault class is configured to LEVEL 0: an event is counted and nothing reacts (R501, R504). -/
def Quiet (s : State) : Prop := ∀ k : Nat, k < 28 → s.chip.level k = 0


/-- The cell stays in its context with the next issue: no RETB falls due (R114, R138). -/
def Cell.stays (x : Cell) : Bool :=
  match x.branch with
  | some b => decide (1 < b.left) || b.turn != .retb
  | none => true

/-- The cell after `n` more instructions without an effect of their own have issued (R110). -/
def Cell.after : Nat → Cell → Cell
  | 0, x => x
  | n + 1, x => (x.age).after n

/-- No port of the MEM field is enabled (R104). -/
def noPorts : MemPorts := { x := none, y := none, w := none }

/-- From `s` to `t` nothing has changed but cell `i`. -/
def OnlyCell (i : Nat) (s t : State) : Prop :=
  t.pending = s.pending ∧ { t.chip with cells := s.chip.cells } = s.chip ∧ ∀ j : Nat, j ≠ i → t.chip.cell j = s.chip.cell j

/-- An exact result as an accumulator holds it: modulo 2^80 (R94). -/
def accOf (n : Int) (p : Bool) : AccReg := { v := BitVec.ofInt 80 n, p := p }

/-- `n` is the integer nearest to a / d, and the even one of two that are equally near (R96, R145). -/
def IsRound (n a d : Int) : Prop := 2 * (a - n * d) ≤ d ∧ -d ≤ 2 * (a - n * d) ∧ (2 * (a - n * d) = d ∨ 2 * (a - n * d) = -d → n % 2 = 0)

/-- Channel `ch` holds an answer: the response that CMD_RESPONSE writes (R274). -/
def Chip.Answers (c : Chip) (ch reason : Nat) (applied : DWord) (payload : List Byte) : Prop :=
  (c.chan ch).work = .answered ∧ (c.chan ch).rsp = some { reason := reason, applied := applied, payload := payload }

/-- From `s` to `t` nothing has changed but what channel `ch` holds of its command, and whether it holds others back (R278). -/
def OnlyChan (ch : Nat) (s t : State) : Prop :=
  t.pending = s.pending ∧ { t.chip with cmd := { t.chip.cmd with chans := s.chip.cmd.chans, takes := s.chip.cmd.takes } } = s.chip ∧
    ∀ k : Nat, k ≠ ch → t.chip.chan k = s.chip.chan k

/-- `v` is the gain of a level of g/100 dB: the integer nearest to 10^(g/2000) × 2^28, at most 0x7FFF_FFFF (R241, R242).
Both sides of each comparison are the 2000th powers. -/
def IsDb (v : Nat) (g : Int) : Prop :=
  v ≤ 2147483647 ∧ (1 ≤ v → (2 * v - 1) ^ 2000 * 10 ^ (-g).toNat ≤ 2 ^ 2000 * 2 ^ 56000 * 10 ^ g.toNat) ∧
    (v < 2147483647 → 2 ^ 2000 * 2 ^ 56000 * 10 ^ g.toNat < (2 * v + 1) ^ 2000 * 10 ^ (-g).toNat)

/-- A COMMAND_EFFECT at tick entry finds `e` at the head of the accepted commands that are due, with the opcode `op` (R63, R280). -/
def Chip.EffectDue (c : Chip) (e : Sched) (op : Nat) : Prop :=
  c.eng.ticking = true ∧ c.eng.phase = .entry ∧ c.dueNow.head? = some e ∧ e.op = op

/-- From `s` to `t` the 16-bit counter of register `a` has counted one event more; it saturates at 0xFFFF (R509). -/
def CountsOne (a : Nat) (s t : State) : Prop := t.chip.regFld a 15 0 = min 65535 (s.chip.regFld a 15 0 + 1)

/-- From `s` to `t` every register but those listed has kept its value. -/
def RegsBut (l : List Nat) (s t : State) : Prop := ∀ a : Nat, a ∉ l → t.chip.reg a = s.chip.reg a

end Sys2Proof.Machine
end

