-- ==== Sys2Proof/WellFormed.lean ====
section
/-! DEFINITION. The commands whose operands name something that exists: a reference, an exchange, an initiator, a unit.
-/
namespace Sys2Proof

/-- A tile of a bulk frame is whole. -/
def itemWellFormed (item : BulkItem) : Bool :=
  match item with
  | .tile _ _ bytes _ => bytes.length == 256
  | _ => true

/-- An access of DRAM comes from an initiator and stays within one tile. -/
def accessWellFormed (a : DramAccess) : Bool :=
  decide (a.init.toNat < 9) && decide (a.addr.toNat % 256 + a.bytes.length ≤ 256)

/-- The operands of a command are within the ranges of its rule. -/
def wellFormed (i : Instr) : Bool :=
  match i with
  | .nop _ => true
  | .br _ _ => true
  | .brz _ _ _ => true
  | .brnz _ _ _ => true
  | .brn _ _ _ => true
  | .brnn _ _ _ => true
  | .brind _ _ => true
  | .loop _ _ _ _ => true
  | .retb _ => true
  | .bwait _ => true
  | .cmac _ _ _ _ _ => true
  | .cmacj _ _ _ _ _ => true
  | .cmsu _ _ _ _ _ => true
  | .cmsuj _ _ _ _ _ => true
  | .cmacr _ _ _ _ _ => true
  | .mac2 _ _ _ _ _ _ _ => true
  | .msu2 _ _ _ _ _ _ _ => true
  | .mas2 _ _ _ _ _ _ _ => true
  | .mac1 _ _ _ _ _ => true
  | .msu1 _ _ _ _ _ => true
  | .ext _ _ _ _ _ => true
  | .extp _ _ _ _ _ => true
  | .aclr _ _ _ => true
  | .ald _ _ _ _ => true
  | .ashr _ _ _ _ => true
  | .ashl _ _ _ _ => true
  | .aadd _ _ _ _ => true
  | .asub _ _ _ _ => true
  | .aget _ _ _ _ _ => true
  | .aput _ _ _ _ _ => true
  | .mov _ _ _ _ => true
  | .add _ _ _ _ _ => true
  | .sub _ _ _ _ _ => true
  | .and _ _ _ _ _ => true
  | .or _ _ _ _ _ => true
  | .xor _ _ _ _ _ => true
  | .neg _ _ _ _ => true
  | .abs _ _ _ _ => true
  | .min _ _ _ _ _ => true
  | .max _ _ _ _ _ => true
  | .asr _ _ _ _ _ => true
  | .lsr _ _ _ _ _ => true
  | .lsl _ _ _ _ _ => true
  | .sel _ _ _ _ _ _ => true
  | .ldi _ _ _ => true
  | .setp _ _ _ => true
  | .setb _ _ _ => true
  | .setl _ _ _ _ => true
  | .setm _ _ _ => true
  | .tload _ _ _ _ => true
  | .tstore _ _ _ _ => true
  | .twait _ _ => true
  | .strm _ _ _ _ _ => true
  | .stnext _ => true
  | .ststop _ => true
  | .recv _ _ _ _ => true
  | .recvp _ _ _ _ => true
  | .pub _ _ _ _ => true
  | .pubp _ _ _ _ => true
  | .gain _ _ _ _ _ => true
  | .mts _ _ _ => true
  | .mfs _ _ _ => true
  | .illegalInstruction _ _ => true
  | .tickBoundary _ _ => true
  | .forcedLegEntry _ => true
  | .legEnd _ => true
  | .windowEnd exch win _ => decide (exch.toNat < 37) && decide (win.toNat < 5)
  | .scheduleTileFetch exch win _ _ => decide (exch.toNat < 37) && decide (win.toNat < 5)
  | .commitWindow => true
  | .suspend _ => true
  | .resume _ => true
  | .setRate _ => true
  | .commandEffect => true
  | .suspendHoldEnd => true
  | .rateFadeEnd => true
  | .firstNewRateTick _ _ => true
  | .graphLoad _ => true
  | .graphLoadDone => true
  | .graphCommit _ => true
  | .graphCut => true
  | .graphFadeStart => true
  | .fadeEnd => true
  | .graphDiscard _ => true
  | .graphInfo _ => true
  | .regionSettled _ => true
  | .cellRetire _ => true
  | .retireCopyDone => true
  | .retireSwap => true
  | .stakeSet _ => true
  | .stakeGet _ => true
  | .stakeSave _ _ => true
  | .stakeLoad _ => true
  | .paramWrite _ => true
  | .paramRead _ => true
  | .gainSet _ => true
  | .gainCfg _ => true
  | .gainGet _ => true
  | .tailBind _ => true
  | .tailUnbind _ => true
  | .tailPeriod _ _ => true
  | .tailGroupLate _ _ _ => true
  | .tileMoveComplete _ _ _ => true
  | .streamerRefillDone _ _ _ => true
  | .fetchComplete _ _ _ => true
  | .wakeEvent _ => true
  | .cellOn _ => true
  | .wakeFail _ => true
  | .dramReadaheadDone _ _ _ _ => true
  | .writeBehindOverflow _ _ => true
  | .hostAccessAbort space _ _ _ => decide (space.toNat < 3)
  | .hostMemoryWindowAccess _ _ _ _ => true
  | .fieldbookWindowRead _ _ => true
  | .tickLoRead _ => true
  | .latchedLoRead _ => true
  | .registerWrite _ _ _ => true
  | .dramWinWrite _ => true
  | .msixCollapseWrite _ => true
  | .abortClr => true
  | .authChallenge _ => true
  | .authResponse _ => true
  | .authClose _ => true
  | .challengeExpiry => true
  | .authLockoutEnd => true
  | .doorbellRing cluster unit _ _ => cluster || decide (unit.toNat < 4)
  | .doorbellTake cluster unit _ => cluster || decide (unit.toNat < 4)
  | .doorbellTimeout cluster unit _ _ => cluster || decide (unit.toNat < 4)
  | .cmdRing _ => true
  | .cmdAbort _ => true
  | .cmdTake => true
  | .commandAccept _ => true
  | .cmdResponse _ => true
  | .cmdTakeTimeout _ => true
  | .cmdIgnoredWrite _ _ => true
  | .cmdTimeoutWrite _ _ => true
  | .functionLevelReset _ => true
  | .sysNop _ => true
  | .sysInfo _ => true
  | .sysTime _ => true
  | .sysSched _ => true
  | .sysCancel _ => true
  | .refCfg _ => true
  | .refEnable _ => true
  | .datumCfg _ => true
  | .datumFreqAdj _ => true
  | .datumStep _ => true
  | .datumStatus _ => true
  | .holdoverSave _ _ => true
  | .refEnWrite ref _ => decide (ref.toNat < 18)
  | .refTimingPoint ref _ _ => decide (ref.ref.toNat < 18) && (!ref.pps || ref.ref == 4)
  | .missingEdge ref => decide (ref.ref.toNat < 18) && (!ref.pps || ref.ref == 4)
  | .freqGateEnd ref _ => decide (ref.toNat < 18)
  | .datumLock => true
  | .holdoverUpdate => true
  | .modelRecord => true
  | .xoSensorRead _ => true
  | .holdLimitExpiry => true
  | .modelSave _ => true
  | .ptpSyncTimeout => true
  | .timeAdjWrite _ => true
  | .timeIncWrite _ _ => true
  | .mediaOffWrite _ => true
  | .ppsInEdge _ _ => true
  | .startInEdge _ _ => true
  | .captureNsRead _ => true
  | .xoActivityTrip _ _ => true
  | .xoWindowEnd _ _ _ => true
  | .fbrcWindowEnd _ _ => true
  | .fbrcStartTimeout => true
  | .pllLockLoss pll => decide (pll.toNat < 7)
  | .internalResetRelease _ _ _ _ => true
  | .resetHoldTimeout => true
  | .gateClose unit => decide (unit.toNat < 23)
  | .gateForceWrite _ => true
  | .forceHit unit _ _ => decide (unit.toNat < 5)
  | .clkObsWrite _ => true
  | .portCfg _ => true
  | .portEnable _ => true
  | .portDisable _ => true
  | .portSlots _ => true
  | .startArm _ => true
  | .start _ => true
  | .commonStartRelease => true
  | .startOutPulse => true
  | .portStatus _ => true
  | .aesCfg _ => true
  | .madiCfg _ => true
  | .tdmSlotReceived _ _ _ => true
  | .aes3FrameReceived _ _ _ _ _ _ => true
  | .nonaudioHoldEnd rx _ => decide (rx.toNat < 12)
  | .madiFrameReceived _ _ _ _ subs => decide (subs.length ≤ 64)
  | .madiFrameStart _ _ => true
  | .cueCfg _ => true
  | .cueStatus _ => true
  | .cueMeasure _ _ _ _ => true
  | .cueClassifyTimeout _ => true
  | .cueButtonStuck _ => true
  | .receiverLockLoss rx => decide (rx.toNat < 12)
  | .macCfg _ => true
  | .macEnable _ => true
  | .groupFilter _ => true
  | .streamRxCfg _ => true
  | .streamTxCfg _ => true
  | .streamEnable _ => true
  | .streamDisable _ => true
  | .netStats _ => true
  | .netSend _ => true
  | .netSendDone _ => true
  | .ptpCfg _ => true
  | .frameReceived _ _ _ => true
  | .rxqTailWrite _ _ => true
  | .frameTransmit _ => true
  | .linkChange _ _ _ _ => true
  | .sfpSidebandChange _ _ _ _ => true
  | .netSnapTake _ => true
  | .ptpAnnounceTimeout => true
  | .ptpDelayReqInterval => true
  | .driveCfg _ => true
  | .driveProtect _ => true
  | .driveEnable _ => true
  | .driveDisable _ => true
  | .driveStatus _ => true
  | .driveClear _ => true
  | .carrierBoundary _ => true
  | .senseFrame _ _ _ => true
  | .senseTimeout _ => true
  | .drvFltAssert _ => true
  | .retryStart _ => true
  | .pilotMeasureDone _ _ _ => true
  | .dcWindowEnd _ => true
  | .railRecover _ => true
  | .povinLinkUp _ _ _ => true
  | .povinLinkDown => true
  | .povinFrameError _ => true
  | .heartbeatReceived _ _ _ => true
  | .ownPoint _ => true
  | .partnerPoint _ => true
  | .takeover => true
  | .ownershipRelease => true
  | .plannedRelease => true
  | .mirrorCopyReceived _ _ _ => true
  | .mirrorAckReceived _ _ => true
  | .mirrorAckTimeout _ _ => true
  | .mirrorForwardReceived _ _ => true
  | .forwardResultReceived _ _ _ _ => true
  | .bulkFrameReceived item => itemWellFormed item
  | .pairStatus _ => true
  | .pairHandover _ => true
  | .pairResync _ _ => true
  | .resyncCommit _ => true
  | .livenessUpdate => true
  | .execWdogExpiry => true
  | .pairSigTake => true
  | .dqsOscCheck _ => true
  | .retrainWindow len => decide (len.toNat ≤ 20)
  | .ddrFreqChange len => decide (len.toNat ≤ 600)
  | .dramReadDone init _ _ _ _ _ link => decide (init.toNat < 9) && link.arrivals.all accessWellFormed
  | .dramWriteDone init addr bytes mark link => !bytes.isEmpty && accessWellFormed { init := init, addr := addr, bytes := bytes, mark := mark } && link.arrivals.all accessWellFormed
  | .bmxHeldIssue => true
  | .defaultTarget init _ _ => decide (init.toNat < 9)
  | .busTimeout init _ _ => decide (init.toNat < 9)
  | .dmaStart _ => true
  | .dmaAbort _ => true
  | .dmaChannelRun => true
  | .dmaReadResponse _ => true
  | .dmaWriteResponse _ => true
  | .faultAckWrite _ => true
  | .blockReset => true
  | .faultCfg _ => true
  | .faultAck _ => true
  | .faultStatus _ => true
  | .cntRead _ => true
  | .cntClear _ => true
  | .counterSnapshot _ => true
  | .vcoreAverage _ => true
  | .shedStageFall => true
  | .dieTempRead _ => true
  | .shedStageEffect => true
  | .shedResetRelease => true
  | .fwWrite _ _ => true
  | .fwVerify _ _ => true
  | .execSwap _ _ => true
  | .execHandover _ => true
  | .handoverTimeout => true
  | .fwSlotSet _ _ _ => true
  | .fbWrite _ _ => true
  | .keySet _ _ => true
  | .resetNAssert => true
  | .resetNRelease _ => true
  | .perstNAssert _ => true
  | .railPowerFail => true
  | .railPowerGood => true
  | .execReady _ _ => true
  | .execRestartDone => true
  | .tapTestMode _ => true
  | .keyLoad slot _ => decide (slot.toNat < 4)
  | .debugEnableWrite _ => true
  | .pcieLinkLoss => true

end Sys2Proof
end

