-- ==== Sys2Proof/Certificates/Slice0/Obligations.lean ====
section
/-! DEFINITION. The statements for the provers, from the numbered rules of the spec: what the commands do, what they leave
unchanged, where they complete, and what every step keeps. -/
section
open Sys2Proof Sys2Proof.Machine

/-- R108, R141: the functions of group ALU and LDI, every register at every value, every MEM field. -/
def Obligations.AluResults : Prop :=
  ∀ (s : State) (cell : BitVec 9) (ra rb rc rd : BitVec 4) (mem : MemPorts) (imm : BitVec 32),
    let x := s.chip.cell cell.toNat
    let a := x.rd ra.toNat
    let b := x.rd rb.toNat
    let k := x.rd rc.toNat
    let word (fn a b c : Nat) : Prop := s.chip.issues cell.toNat (encWord 4 fn a b c rd.toNat 0 (encPorts mem)) = true
    let gives (i : Instr) (v : Word) (p sv : Bool) : Prop := ∃ t : State, exec i s = .next t ∧
      (t.chip.cell cell.toNat).rd rd.toNat = { v := v, p := p } ∧
      (t.chip.cell cell.toNat).sr.getLsbD 1 = (x.age.sr.getLsbD 1 || sv)
    let sum (n : Int) : Word :=
      if x.dsat = true ∧ 2147483647 < n then 0x7FFFFFFF else if x.dsat = true ∧ n < -2147483648 then 0x80000000 else BitVec.ofInt 32 n
    let beyond (n : Int) : Bool := x.dsat && (decide (2147483647 < n) || decide (n < -2147483648))
    portsLegal mem = true → x.stays = true →
    (word 0 ra.toNat 0 0 → gives (.mov cell ra rd mem) a.v a.p false) ∧
    (word 1 ra.toNat rb.toNat 0 →
      gives (.add cell ra rb rd mem) (sum (a.v.toInt + b.v.toInt)) (a.p || b.p) (beyond (a.v.toInt + b.v.toInt))) ∧
    (word 2 ra.toNat rb.toNat 0 →
      gives (.sub cell ra rb rd mem) (sum (a.v.toInt - b.v.toInt)) (a.p || b.p) (beyond (a.v.toInt - b.v.toInt))) ∧
    (word 3 ra.toNat rb.toNat 0 → gives (.and cell ra rb rd mem) (a.v &&& b.v) (a.p || b.p) false) ∧
    (word 4 ra.toNat rb.toNat 0 → gives (.or cell ra rb rd mem) (a.v ||| b.v) (a.p || b.p) false) ∧
    (word 5 ra.toNat rb.toNat 0 → gives (.xor cell ra rb rd mem) (a.v ^^^ b.v) (a.p || b.p) false) ∧
    (word 6 ra.toNat 0 0 → gives (.neg cell ra rd mem) (if x.dsat = true ∧ a.v = 0x80000000 then 0x7FFFFFFF else -a.v) a.p
      (x.dsat && decide (a.v = 0x80000000))) ∧
    (word 7 ra.toNat 0 0 → gives (.abs cell ra rd mem)
      (if a.v = 0x80000000 then 0x7FFFFFFF else if a.v.msb then -a.v else a.v) a.p (decide (a.v = 0x80000000))) ∧
    (word 8 ra.toNat rb.toNat 0 → gives (.min cell ra rb rd mem) (if a.v.toInt ≤ b.v.toInt then a.v else b.v) (a.p || b.p) false) ∧
    (word 9 ra.toNat rb.toNat 0 → gives (.max cell ra rb rd mem) (if a.v.toInt ≤ b.v.toInt then b.v else a.v) (a.p || b.p) false) ∧
    (word 10 ra.toNat rb.toNat 0 → gives (.asr cell ra rb rd mem) (a.v.sshiftRight (b.v.toNat % 32)) (a.p || b.p) false) ∧
    (word 11 ra.toNat rb.toNat 0 → gives (.lsr cell ra rb rd mem) (a.v >>> (b.v.toNat % 32)) (a.p || b.p) false) ∧
    (word 12 ra.toNat rb.toNat 0 → gives (.lsl cell ra rb rd mem) (a.v <<< (b.v.toNat % 32)) (a.p || b.p) false) ∧
    (word 13 ra.toNat rb.toNat rc.toNat → gives (.sel cell ra rb rc rd mem) (if k.v.msb then a.v else b.v)
      ((if k.v.msb then a.p else b.p) || k.p) false) ∧
    (s.chip.issues cell.toNat (encWord 5 0 0 0 0 rd.toNat 0 imm.toNat) = true → gives (.ldi cell rd imm) imm false false)

/-- R96, R97, R108: extraction and the copy of a part, for every accumulator value, scale and MEM field. -/
def Obligations.AccToRegister : Prop :=
  ∀ (s : State) (cell : BitVec 9) (a : BitVec 2) (p : BitVec 1) (rd sc : BitVec 4) (part : BitVec 2) (mem : MemPorts) (n n0 n1 : Int),
    let x := s.chip.cell cell.toNat
    let word (fn ra aux : Nat) : Prop := s.chip.issues cell.toNat (encWord 3 fn ra 0 0 rd.toNat aux (encPorts mem)) = true
    let val (n : Int) : Word :=
      if x.sat = true ∧ 2147483647 < n then 0x7FFFFFFF else if x.sat = true ∧ n < -2147483648 then 0x80000000 else BitVec.ofInt 32 n
    let beyond (n : Int) : Bool := x.sat && (decide (2147483647 < n) || decide (n < -2147483648))
    let acc0 := x.ra (2 * p.toNat)
    let acc1 := x.ra (2 * p.toNat + 1)
    let gives (i : Instr) (l : List (Nat × Sample)) (sv : Bool) : Prop := ∃ t : State, exec i s = .next t ∧
      (∀ e ∈ l, ((t.chip.cell cell.toNat).after 1).rd e.1 = e.2) ∧
      (t.chip.cell cell.toNat).sr.getLsbD 1 = (x.age.sr.getLsbD 1 || sv) ∧
      (∀ i : Nat, (t.chip.cell cell.toNat).ra i = x.age.ra i)
    portsLegal mem = true → x.stays = true →
    (word 0 a.toNat sc.toNat → sc.toNat ≤ 8 → IsRound n (x.ra a.toNat).v.toInt (2 ^ (40 + sc.toNat)) →
      gives (.ext cell a rd sc mem) [(rd.toNat, { v := val n, p := (x.ra a.toNat).p })] (beyond n)) ∧
    (word 1 p.toNat sc.toNat → sc.toNat ≤ 8 → rd.toNat % 2 = 0 →
      IsRound n0 acc0.v.toInt (2 ^ (40 + sc.toNat)) → IsRound n1 acc1.v.toInt (2 ^ (40 + sc.toNat)) →
      gives (.extp cell p rd sc mem) [(rd.toNat, { v := val n0, p := acc0.p }), (rd.toNat + 1, { v := val n1, p := acc1.p })]
        (beyond n0 || beyond n1)) ∧
    (word 8 a.toNat part.toNat → part.toNat ≤ 2 →
      gives (.aget cell a rd part mem)
        [(rd.toNat, { v := BitVec.ofNat 32 ((x.ra a.toNat).v.toNat / 2 ^ (32 * part.toNat)), p := (x.ra a.toNat).p })] false)

/-- R94, R108, R112, R141: accumulator arithmetic, for every value of both operands and every MEM field. -/
def Obligations.AccResults : Prop :=
  ∀ (s : State) (cell : BitVec 9) (a b : BitVec 2) (rb sh : BitVec 4) (part : BitVec 2) (mem : MemPorts),
    let x := s.chip.cell cell.toNat
    let word (fn rb aux : Nat) : Prop := s.chip.issues cell.toNat (encWord 3 fn a.toNat rb 0 0 aux (encPorts mem)) = true
    let q := x.ra a.toNat
    let r := x.ra b.toNat
    let d := x.rd rb.toNat
    let beyond (n : Int) : Bool := decide (n < -2 ^ 79) || decide (2 ^ 79 ≤ n)
    let gives (i : Instr) (v : AccReg) (av : Bool) : Prop := ∃ t : State, exec i s = .next t ∧
      ((t.chip.cell cell.toNat).after 1).ra a.toNat = v ∧ (t.chip.cell cell.toNat).macIn false a.toNat = v ∧
      (t.chip.cell cell.toNat).sr.getLsbD 0 = (x.age.sr.getLsbD 0 || av) ∧
      (∀ i : Nat, i ≠ a.toNat → (t.chip.cell cell.toNat).ra i = x.age.ra i)
    portsLegal mem = true → x.stays = true →
    (word 2 0 0 → gives (.aclr cell a mem) AccReg.zero false) ∧
    (word 3 rb.toNat 0 → gives (.ald cell a rb mem) (accOf (d.v.toInt * 2 ^ 40) d.p) false) ∧
    (word 4 0 sh.toNat → gives (.ashr cell a sh mem) (accOf (q.v.toInt / 2 ^ sh.toNat) q.p) false) ∧
    (word 5 0 sh.toNat → gives (.ashl cell a sh mem) (accOf (q.v.toInt * 2 ^ sh.toNat) q.p) (beyond (q.v.toInt * 2 ^ sh.toNat))) ∧
    (word 6 b.toNat 0 → gives (.aadd cell a b mem) (accOf (q.v.toInt + r.v.toInt) (q.p || r.p)) (beyond (q.v.toInt + r.v.toInt))) ∧
    (word 7 b.toNat 0 → gives (.asub cell a b mem) (accOf (q.v.toInt - r.v.toInt) (q.p || r.p)) (beyond (q.v.toInt - r.v.toInt))) ∧
    (word 9 rb.toNat part.toNat → part.toNat ≤ 2 → gives (.aput cell a rb part mem)
      (let w := if part.toNat = 2 then 16 else 32
       { v := BitVec.ofNat 80 (q.v.toNat - q.v.toNat / 2 ^ (32 * part.toNat) % 2 ^ w * 2 ^ (32 * part.toNat)
           + d.v.toNat % 2 ^ w * 2 ^ (32 * part.toNat)),
         p := if part.toNat = 0 then d.p else q.p || d.p }) false)

/-- R94, R95, R98 to R100, R112, R141: the ten MAC functions, all registers, both pairs, both formats, with and without
CLR. -/
def Obligations.MacResults : Prop :=
  ∀ (s : State) (cell : BitVec 9) (ra rb rc rd : BitVec 4) (aux : BitVec 3) (aux4 : BitVec 4) (mem : MemPorts),
    let x := s.chip.cell cell.toNat
    let d (r : BitVec 4) : Int := (x.rd r.toNat).v.toInt
    let dp (r : BitVec 4) : Bool := (x.rd r.toNat).p
    let d1 (r : BitVec 4) : Int := (x.rd (r.toNat + 1)).v.toInt
    let dp1 (r : BitVec 4) : Bool := (x.rd (r.toNat + 1)).p
    let beyond (n : Int) : Bool := decide (n < -2 ^ 79) || decide (2 ^ 79 ≤ n)
    let word (grp fn a b c e u : Nat) : Prop := s.chip.issues cell.toNat (encWord grp fn a b c e u (encPorts mem)) = true
    let gives (i : Instr) (u : Nat) (l : List (Nat × Int × Bool)) : Prop :=
      let e : Int := if u.testBit 1 then 2 ^ 10 else 2 ^ 9
      let old (k : Nat) : AccReg := if u.testBit 2 then AccReg.zero else x.macIn false k
      ∃ t : State, exec i s = .next t ∧
        (∀ k ∈ l, let v := accOf ((old k.1).v.toInt + k.2.1 * e) ((old k.1).p || k.2.2)
          ((t.chip.cell cell.toNat).after 1).ra k.1 = v ∧ (t.chip.cell cell.toNat).macIn false k.1 = v) ∧
        (t.chip.cell cell.toNat).sr.getLsbD 0 = (x.age.sr.getLsbD 0 || l.any (fun k => beyond ((old k.1).v.toInt + k.2.1 * e)))
    let u := aux.toNat
    let pr := 2 * (u % 2)
    let cp := dp ra || dp1 ra || dp rb || dp1 rb
    let w := aux4.toNat
    portsLegal mem = true → x.stays = true →
    (word 1 0 ra.toNat rb.toNat 0 0 u → ra.toNat % 2 = 0 → rb.toNat % 2 = 0 → gives (.cmac cell ra rb aux mem) u
      [(pr, d ra * d rb - d1 ra * d1 rb, cp), (pr + 1, d ra * d1 rb + d1 ra * d rb, cp)]) ∧
    (word 1 1 ra.toNat rb.toNat 0 0 u → ra.toNat % 2 = 0 → rb.toNat % 2 = 0 → gives (.cmacj cell ra rb aux mem) u
      [(pr, d ra * d rb + d1 ra * d1 rb, cp), (pr + 1, d1 ra * d rb - d ra * d1 rb, cp)]) ∧
    (word 1 2 ra.toNat rb.toNat 0 0 u → ra.toNat % 2 = 0 → rb.toNat % 2 = 0 → gives (.cmsu cell ra rb aux mem) u
      [(pr, -(d ra * d rb - d1 ra * d1 rb), cp), (pr + 1, -(d ra * d1 rb + d1 ra * d rb), cp)]) ∧
    (word 1 3 ra.toNat rb.toNat 0 0 u → ra.toNat % 2 = 0 → rb.toNat % 2 = 0 → gives (.cmsuj cell ra rb aux mem) u
      [(pr, -(d ra * d rb + d1 ra * d1 rb), cp), (pr + 1, -(d1 ra * d rb - d ra * d1 rb), cp)]) ∧
    (word 1 4 ra.toNat rb.toNat 0 0 u → rb.toNat % 2 = 0 → gives (.cmacr cell ra rb aux mem) u
      [(pr, d ra * d rb, dp ra || dp rb || dp1 rb), (pr + 1, d ra * d1 rb, dp ra || dp rb || dp1 rb)]) ∧
    (word 2 0 ra.toNat rb.toNat rc.toNat rd.toNat u → gives (.mac2 cell ra rb rc rd aux mem) u
      [(pr, d ra * d rb, dp ra || dp rb), (pr + 1, d rc * d rd, dp rc || dp rd)]) ∧
    (word 2 1 ra.toNat rb.toNat rc.toNat rd.toNat u → gives (.msu2 cell ra rb rc rd aux mem) u
      [(pr, -(d ra * d rb), dp ra || dp rb), (pr + 1, -(d rc * d rd), dp rc || dp rd)]) ∧
    (word 2 2 ra.toNat rb.toNat rc.toNat rd.toNat u → gives (.mas2 cell ra rb rc rd aux mem) u
      [(pr, d ra * d rb, dp ra || dp rb), (pr + 1, -(d rc * d rd), dp rc || dp rd)]) ∧
    (word 2 3 ra.toNat rb.toNat 0 0 w → gives (.mac1 cell ra rb aux4 mem) w
      [(2 * (w % 2) + w / 8, d ra * d rb, dp ra || dp rb)]) ∧
    (word 2 4 ra.toNat rb.toNat 0 0 w → gives (.msu1 cell ra rb aux4 mem) w
      [(2 * (w % 2) + w / 8, -(d ra * d rb), dp ra || dp rb)])

/-- R91, R108, R119, R141: every special register as the SYS table numbers them. -/
def Obligations.SpecialRegisters : Prop :=
  ∀ (s : State) (cell : BitVec 9) (ra rd : BitVec 4) (n : BitVec 3) (k : BitVec 6) (imm : BitVec 11) (imm12 : BitVec 12) (brev : Bool),
    let x := s.chip.cell cell.toNat
    let word (grp fn a d low : Nat) : Prop := s.chip.issues cell.toNat (encWord grp fn a 0 0 d 0 low) = true
    let d := x.rd ra.toNat
    let later (i : Instr) (f : Cell → Prop) : Prop := ∃ t : State, exec i s = .next t ∧ f ((t.chip.cell cell.toNat).after 1)
    let reads (v : Word) (p : Bool) : Prop := ∃ t : State, exec (.mfs cell rd k) s = .next t ∧
      (t.chip.cell cell.toNat).rd rd.toNat = { v := v, p := p }
    let lenOk (l : Nat) (r : Bool) : Prop := l ≤ 2048 ∧ (r = true → ∃ e : Nat, 1 ≤ e ∧ e ≤ 11 ∧ l = 2 ^ e)
    let mts := word 8 0 ra.toNat 0 k.toNat
    let mfs := word 8 1 0 rd.toNat k.toNat
    x.stays = true →
    (word 5 1 0 n.toNat imm.toNat → later (.setp cell n imm) (fun y => y.p n.toNat = { v := imm, p := false })) ∧
    (word 5 2 0 n.toNat imm.toNat → later (.setb cell n imm) (fun y => y.b n.toNat = { v := imm, p := false })) ∧
    (word 5 3 0 n.toNat ((if brev then 32768 else 0) + imm12.toNat) → lenOk imm12.toNat brev →
      later (.setl cell n brev imm12) (fun y => y.l n.toNat = { len := imm12, brev := brev, p := false })) ∧
    (word 5 4 0 n.toNat imm12.toNat → later (.setm cell n imm12) (fun y => y.m n.toNat = { v := imm12, p := false })) ∧
    (mts → k.toNat = 0 → later (.mts cell ra k) (fun y => ∀ i : Nat, i < 3 → y.sr.getLsbD i = d.v.getLsbD i)) ∧
    (mts → k.toNat = 1 → later (.mts cell ra k) (fun y => y.mr = d.v &&& 3)) ∧
    (mts → k.toNat = 2 ∨ k.toNat = 5 → later (.mts cell ra k) (fun y => y.lcN (k.toNat / 4) = d.v.setWidth 16)) ∧
    (mts → k.toNat = 3 ∨ k.toNat = 6 → later (.mts cell ra k) (fun y => y.lsN (k.toNat / 4) = d.v.setWidth 12)) ∧
    (mts → k.toNat = 4 ∨ k.toNat = 7 → later (.mts cell ra k) (fun y => y.leN (k.toNat / 5) = d.v.setWidth 12)) ∧
    (mts → 8 ≤ k.toNat → k.toNat < 16 → later (.mts cell ra k) (fun y => y.p (k.toNat - 8) = { v := d.v.setWidth 11, p := d.p })) ∧
    (mts → 16 ≤ k.toNat → k.toNat < 24 → later (.mts cell ra k) (fun y => y.b (k.toNat - 16) = { v := d.v.setWidth 11, p := d.p })) ∧
    (mts → 24 ≤ k.toNat → k.toNat < 32 → lenOk (d.v.toNat % 4096) (d.v.getLsbD 15) → later (.mts cell ra k) (fun y =>
      y.l (k.toNat - 24) = { len := d.v.setWidth 12, brev := d.v.getLsbD 15, p := d.p })) ∧
    (mts → 24 ≤ k.toNat → k.toNat < 32 → ¬ lenOk (d.v.toNat % 4096) (d.v.getLsbD 15) →
      exec (.mts cell ra k) s = .next { s with chip := s.chip.illegal cell.toNat }) ∧
    (mts → 32 ≤ k.toNat → k.toNat < 40 → later (.mts cell ra k) (fun y => y.m (k.toNat - 32) = { v := d.v.setWidth 12, p := d.p })) ∧
    (mfs → k.toNat = 0 → ∃ v : Word, reads v false ∧ v.toNat % 16 = x.sr.toNat % 16 ∧ v.getLsbD 4 = decide (x.lcN 0 ≠ 0) ∧
      v.getLsbD 5 = decide (x.lcN 1 ≠ 0) ∧ v.getLsbD 6 = decide (x.ctx = .background) ∧ v.toNat / 128 = x.leg % 4) ∧
    (mfs → k.toNat = 1 → reads x.mr false) ∧
    (mfs → k.toNat = 2 ∨ k.toNat = 5 → reads ((x.lcN (k.toNat / 4)).setWidth 32) false) ∧
    (mfs → k.toNat = 3 ∨ k.toNat = 6 → reads ((x.lsN (k.toNat / 4)).setWidth 32) false) ∧
    (mfs → k.toNat = 4 ∨ k.toNat = 7 → reads ((x.leN (k.toNat / 5)).setWidth 32) false) ∧
    (mfs → 8 ≤ k.toNat → k.toNat < 16 → reads ((x.p (k.toNat - 8)).v.setWidth 32) (x.p (k.toNat - 8)).p) ∧
    (mfs → 16 ≤ k.toNat → k.toNat < 24 → reads ((x.b (k.toNat - 16)).v.setWidth 32) (x.b (k.toNat - 16)).p) ∧
    (mfs → 24 ≤ k.toNat → k.toNat < 32 →
      reads ((x.l (k.toNat - 24)).len.setWidth 32 ||| (if (x.l (k.toNat - 24)).brev then 0x8000 else 0)) (x.l (k.toNat - 24)).p) ∧
    (mfs → 32 ≤ k.toNat → k.toNat < 40 → reads ((x.m (k.toNat - 32)).v.signExtend 32) (x.m (k.toNat - 32)).p) ∧
    (mfs → k.toNat = 40 → reads (x.bpc.setWidth 32) false) ∧
    (mfs → k.toNat = 41 → reads x.bsr false) ∧
    (mfs → k.toNat = 42 → reads (BitVec.ofNat 32 (s.chip.logOf cell.toNat)) false) ∧
    (mfs → k.toNat = 43 → reads (s.chip.eng.tick.setWidth 32) false)

/-- R115: both forms of the count, both levels, every index. -/
def Obligations.LoopStarts : Prop :=
  ∀ (s : State) (cell : BitVec 9) (lvl : BitVec 1) (ra : BitVec 4) (n : BitVec 16) (le : BitVec 12) (byReg : Bool),
    let x := s.chip.cell cell.toNat
    let k : BitVec 16 := if byReg then (x.rd ra.toNat).v.setWidth 16 else n
    let i : Instr := if byReg then .loop cell lvl (.reg ra) le else .loop cell lvl (.imm n) le
    let w := if byReg then encWord 0 7 ra.toNat 0 0 0 (2 + lvl.toNat) le.toNat else encWord 0 7 0 0 0 0 lvl.toNat (n.toNat * 4096 + le.toNat)
    s.chip.issues cell.toNat w = true → x.branch = none →
    (x.pc.toNat + 1 ≤ le.toNat → ∃ t : State, exec i s = .next t ∧
      (t.chip.cell cell.toNat).lsN lvl.toNat = x.pc + 1 ∧ (t.chip.cell cell.toNat).leN lvl.toNat = le ∧
      (t.chip.cell cell.toNat).lcN lvl.toNat = k ∧
      ((∀ m : Nat, m < 2 → x.leN m ≠ x.pc) → (t.chip.cell cell.toNat).pc = if k = 0 then le + 1 else x.pc + 1)) ∧
    (le.toNat < x.pc.toNat + 1 → exec i s = .next { s with chip := s.chip.illegal cell.toNat })

/-- R108, R110, R114, R116, R142: the six branches and NOP. -/
def Obligations.ControlFlow : Prop :=
  ∀ (s : State) (cell : BitVec 9) (ra : BitVec 4) (g : BitVec 12),
    let x := s.chip.cell cell.toNat
    let d := x.rd ra.toNat
    let word (fn a low : Nat) : Prop := s.chip.issues cell.toNat (encWord 0 fn a 0 0 0 0 low) = true
    let turns (i : Instr) (u : Turn) (p : Bool) : Prop :=
      (x.branch = none → ∃ t : State, exec i s = .next t ∧
        (t.chip.cell cell.toNat).branch = some { left := 2, turn := u } ∧
        (t.chip.cell cell.toNat).sr.getLsbD 3 = (x.age.sr.getLsbD 3 || p)) ∧
      (x.branch ≠ none → exec i s = .next { s with chip := s.chip.illegal cell.toNat })
    let ends (n : Nat) : Bool := decide (x.leN n = x.pc) && decide (x.lcN n ≠ 0)
    let back (n : Nat) : Bool := ends n && decide (x.lcN n ≠ 1)
    let seq : BitVec 12 := if back 1 then x.lsN 1 else if back 0 then x.lsN 0 else x.pc + 1
    (word 1 0 g.toNat → turns (.br cell g) (.target g) false) ∧
    (word 2 ra.toNat g.toNat → turns (.brz cell ra g) (if d.v = 0 then .target g else .fall) d.p) ∧
    (word 3 ra.toNat g.toNat → turns (.brnz cell ra g) (if d.v ≠ 0 then .target g else .fall) d.p) ∧
    (word 4 ra.toNat g.toNat → turns (.brn cell ra g) (if d.v.toInt < 0 then .target g else .fall) d.p) ∧
    (word 5 ra.toNat g.toNat → turns (.brnn cell ra g) (if 0 ≤ d.v.toInt then .target g else .fall) d.p) ∧
    (word 6 ra.toNat 0 → turns (.brind cell ra) (.target (d.v.setWidth 12)) d.p) ∧
    (word 0 0 0 → x.stays = true → ∃ t : State, exec (.nop cell) s = .next t ∧
      (t.chip.cell cell.toNat).lcN 1 = (if ends 1 then x.lcN 1 - 1 else x.age.lcN 1) ∧
      (t.chip.cell cell.toNat).lcN 0 = (if ends 0 && !back 1 then x.lcN 0 - 1 else x.age.lcN 0) ∧
      (x.branch = none → (t.chip.cell cell.toNat).pc = seq ∧ (t.chip.cell cell.toNat).branch = none) ∧
      (∀ p : BitVec 12, x.branch = some { left := 1, turn := .target p } →
        (t.chip.cell cell.toNat).pc = p ∧ (t.chip.cell cell.toNat).branch = none) ∧
      (x.branch = some { left := 1, turn := .fall } →
        (t.chip.cell cell.toNat).pc = seq ∧ (t.chip.cell cell.toNat).branch = none) ∧
      (∀ u : Turn, x.branch = some { left := 2, turn := u } →
        (t.chip.cell cell.toNat).pc = seq ∧ (t.chip.cell cell.toNat).branch = some { left := 1, turn := u }))

/-- R54, R114, R135, R138, R139, R571. -/
def Obligations.LegShareEnds : Prop :=
  ∀ (s : State) (cell : BitVec 9),
    let x := s.chip.cell cell.toNat
    let word (fn : Nat) : Prop := s.chip.issues cell.toNat (encWord 0 fn 0 0 0 0 0 0) = true
    let bad (i : Instr) : Prop := exec i s = .next { s with chip := s.chip.illegal cell.toNat }
    (word 8 → x.ctx = .traverse → x.branch = none → ∃ t : State, exec (.retb cell) s = .next t ∧
      (t.chip.cell cell.toNat).branch = some { left := 2, turn := .retb } ∧ (t.chip.cell cell.toNat).ctx = .traverse) ∧
    (word 8 → x.ctx ≠ .traverse ∨ x.branch ≠ none → bad (.retb cell)) ∧
    (word 0 → x.ctx = .traverse → x.branch = some { left := 1, turn := .retb } → (s.chip.progs cell.toNat).length ≠ 2 →
      ∃ t : State, exec (.nop cell) s = .next t ∧ (t.chip.cell cell.toNat).legDone = true ∧ (t.chip.cell cell.toNat).pend = [] ∧
        (x.bgSaved = true ∧ x.bg = .ready → (t.chip.cell cell.toNat).ctx = .background ∧ (t.chip.cell cell.toNat).pc = x.bpc ∧
          (∀ i : Nat, i < 4 → (t.chip.cell cell.toNat).sr.getLsbD i = x.bsr.getLsbD i) ∧
          (t.chip.cell cell.toNat).branch = x.bbranch) ∧
        (x.bgSaved = false ∨ x.bg ≠ .ready → (t.chip.cell cell.toNat).ctx = .idle)) ∧
    (word 9 → x.ctx = .background → x.branch = none → ∃ t : State, exec (.bwait cell) s = .next t ∧
      (t.chip.cell cell.toNat).bg = .waiting ∧ (t.chip.cell cell.toNat).ctx = .idle ∧ (t.chip.cell cell.toNat).pend = [] ∧
      (t.chip.cell cell.toNat).bsr.getLsbD 3 = false ∧
      ((∀ n : Nat, n < 2 → x.leN n ≠ x.pc) → (t.chip.cell cell.toNat).bpc = x.pc + 1)) ∧
    (word 9 → x.ctx ≠ .background ∨ x.branch ≠ none → bad (.bwait cell))

/-- R104 to R107, R110, R117, R118, R120, R124, R129: each port at each width, over every pointer and slot. -/
def Obligations.MemoryPorts : Prop :=
  ∀ (s : State) (cell : BitVec 9) (ra rd : BitVec 4) (q : MemPort) (port : Fin 3),
    let x := s.chip.cell cell.toNat
    let mem : MemPorts := if port = 0 then { x := some q, y := none, w := none } else
      if port = 1 then { x := none, y := some q, w := none } else { x := none, y := none, w := some q }
    let n := q.ptr.toNat
    let adr := (x.p n).v.toNat
    let word := if q.wide then adr / 8 * 2 else adr / 4
    let slot := adr / 256
    let pp := (x.p n).p || (x.b n).p || (x.l n).p || (x.m n).p
    let regs : List Nat := if q.wide then [0, 1] else [0]
    let busy := x.moves.any (fun m => m.slot == slot) || x.streamer.any (fun t => t.refills.any (fun r => r.1 == slot))
    let owned := x.streamer.any (fun t => slot == t.cfg.slot || slot == t.cfg.slot + 1)
    s.chip.issues cell.toNat (encWord 4 0 ra.toNat 0 0 rd.toNat 0 (encPorts mem)) = true → x.stays = true →
    (q.wide = true → q.reg.toNat % 2 = 0) →
    ∃ t : State, exec (.mov cell ra rd mem) s = .next t ∧
      let y := t.chip.cell cell.toNat
      (port ≠ 2 → busy = false → ∀ k ∈ regs, (y.after 2).rd (q.reg.toNat + k) =
        { v := (x.word (word + k)).v, p := (x.word (word + k)).p || pp }) ∧
      (port ≠ 2 → busy = true → y.sr.getLsbD 2 = true ∧ ∀ k ∈ regs, (y.after 2).rd (q.reg.toNat + k) = { v := 0, p := true }) ∧
      (port = 2 → busy = false → owned = false → ∀ k ∈ regs, y.word (word + k) =
        { v := (x.rd (q.reg.toNat + k)).v, p := (x.rd (q.reg.toNat + k)).p || pp || (decide (x.ctx = .background) && x.sr.getLsbD 3) }) ∧
      (port = 2 → busy = true ∨ owned = true → y.sr.getLsbD 2 = true ∧ y.slots = x.age.slots) ∧
      (port ≠ 2 → y.slots = x.age.slots) ∧
      (q.upd = false → y.ptr = x.age.ptr) ∧
      (q.upd = true → (y.p n).p = pp) ∧
      (q.upd = true → (x.l n).len = 0 → (y.p n).v = BitVec.ofInt 11 ((adr : Int) + (x.m n).v.toInt)) ∧
      (q.upd = true → (x.l n).len ≠ 0 → (x.l n).brev = false →
        (y.p n).v = BitVec.ofInt 11 ((x.b n).v.toNat + ((adr : Int) - (x.b n).v.toNat + (x.m n).v.toInt) % ((x.l n).len.toNat : Int)))

/-- R121 to R130: tile moves and the coefficient streamer. -/
def Obligations.TileMovesAndStreamer : Prop :=
  ∀ (s : State) (cell : BitVec 9) (slot : BitVec 3) (region store : Bool) (tile : TileIdx) (mask more : BitVec 8) (first : BitVec 14),
    let x := s.chip.cell cell.toNat
    let move : Instr := if store then .tstore cell slot region tile else .tload cell slot region tile
    let idx : Nat := match tile with
      | .imm n => n.toNat
      | .reg ra => (x.rd ra.toNat).v.toNat % 16384
    let odd : Bool := match tile with
      | .imm _ => false
      | .reg ra => (x.rd ra.toNat).p || (!region && decide (511 < (x.rd ra.toNat).v.toNat % 16384))
    let legal : Bool := !x.owned slot.toNat && (match tile with
      | .imm n => region || decide (n.toNat ≤ 511)
      | .reg _ => true)
    let word (w : DWord) : Prop := s.chip.issues cell.toNat w = true
    let ctl (fn : Nat) : DWord := encWord 6 fn 0 0 0 0 0 0
    x.stays = true →
    (word (encMove (if store then 1 else 0) slot.toNat region tile) → legal = true → x.busy slot.toNat = false → x.moves.length < 2 →
      ∃ t : State, exec move s = .next t ∧
        (odd = false → (t.chip.cell cell.toNat).moves = x.moves ++ [{ bg := x.ctx == .background, store := store, slot := slot.toNat, region := region, tile := idx }] ∧
          (t.chip.cell cell.toNat).busy slot.toNat = true) ∧
        (odd = true → (t.chip.cell cell.toNat).moves = x.moves ∧ (t.chip.cell cell.toNat).sr.getLsbD 3 = true ∧
          (store = false → ∀ w : Nat, w < 64 → (t.chip.cell cell.toNat).word (64 * slot.toNat + w) = { v := 0, p := true }))) ∧
    (word (encMove (if store then 1 else 0) slot.toNat region tile) → legal = true → x.busy slot.toNat = true ∨ 2 ≤ x.moves.length →
      exec move s = .next s) ∧
    (word (encMove (if store then 1 else 0) slot.toNat region tile) → legal = false →
      exec move s = .next { s with chip := s.chip.illegal cell.toNat }) ∧
    (word (encWord 6 2 0 0 0 0 0 mask.toNat) → (∃ k : Nat, k < 8 ∧ mask.getLsbD k = true ∧ x.busy k = true) →
      exec (.twait cell mask) s = .next s) ∧
    (word (encWord 6 2 0 0 0 0 0 mask.toNat) → (∀ k : Nat, k < 8 → mask.getLsbD k = true → x.busy k = false) →
      ∃ t : State, exec (.twait cell mask) s = .next t ∧ (x.branch = none → (∀ n : Nat, n < 2 → x.leN n ≠ x.pc) →
        (t.chip.cell cell.toNat).pc = x.pc + 1)) ∧
    (word (encWord 6 3 0 0 0 0 slot.toNat ((if region then 2147483648 else 0) + more.toNat * 65536 + first.toNat)) → slot.toNat % 2 = 0 →
      first.toNat + more.toNat ≤ (if region then 16383 else 511) → x.streamer = none →
      ∃ t : State, exec (.strm cell slot region more first) s = .next t ∧
        (t.chip.cell cell.toNat).owned slot.toNat = true ∧ (t.chip.cell cell.toNat).owned (slot.toNat + 1) = true ∧
        (t.chip.cell cell.toNat).busy slot.toNat = true ∧ (t.chip.cell cell.toNat).busy (slot.toNat + 1) = true ∧
        (t.chip.cell cell.toNat).streamer = some
          { cfg := { slot := slot.toNat, region := region, first := first.toNat, count := more.toNat + 1 }
            next := 2 % (more.toNat + 1)
            olderHigh := false
            refills := [(slot.toNat, 0), (slot.toNat + 1, 1 % (more.toNat + 1))]
            stopping := false
            restart := none }) ∧
    (word (ctl 4) → ∃ t : State, exec (.stnext cell) s = .next t ∧
      (∀ g : Streamer, x.streamer = some g → g.stopping = false → x.busy (g.cfg.slot + (if g.olderHigh then 1 else 0)) = false →
        (t.chip.cell cell.toNat).streamer = some
          { g with
            refills := g.refills ++ [(g.cfg.slot + (if g.olderHigh then 1 else 0), g.next)]
            next := (g.next + 1) % g.cfg.count
            olderHigh := !g.olderHigh }) ∧
      (x.streamer = none → (t.chip.cell cell.toNat).streamer = none ∧ (t.chip.cell cell.toNat).sr = x.age.sr)) ∧
    (word (ctl 5) → ∃ t : State, exec (.ststop cell) s = .next t ∧
      (∀ g : Streamer, x.streamer = some g → g.refills = [] → (t.chip.cell cell.toNat).streamer = none) ∧
      (x.streamer = none → (t.chip.cell cell.toNat).streamer = none ∧ (t.chip.cell cell.toNat).sr = x.age.sr))

/-- R108, R110, R135, R141, R164. -/
def Obligations.ChainSlots : Prop :=
  ∀ (s : State) (cell : BitVec 9) (ra rd : BitVec 4) (slot : BitVec 6) (mem : MemPorts) (k : Nat),
    let x := s.chip.cell cell.toNat
    let word (fn a d : Nat) : Prop := s.chip.issues cell.toNat (encChain fn a d slot.toNat mem) = true
    let bad (i : Instr) : Prop := exec i s = .next { s with chip := s.chip.illegal cell.toNat }
    let put (t : State) (j r : Nat) : Prop := ∀ l : Nat, s.chip.slotLeg cell.toNat j = some l → k ≤ l →
      (t.chip.cell cell.toNat).pub j = { (x.pub j) with
        s := { v := (x.rd r).v, p := (x.rd r).p || x.sr.getLsbD 3 }, written := decide (l = k) }
    portsLegal mem = true → x.stays = true →
    (word 0 0 rd.toNat → x.ctx = .traverse → ∃ t : State, exec (.recv cell rd slot mem) s = .next t ∧
      ((t.chip.cell cell.toNat).after 1).rd rd.toNat = (x.sub slot.toNat).s) ∧
    (word 1 0 rd.toNat → x.ctx = .traverse → rd.toNat % 2 = 0 → slot.toNat % 2 = 0 → ∃ t : State, exec (.recvp cell rd slot mem) s = .next t ∧
      ((t.chip.cell cell.toNat).after 1).rd rd.toNat = (x.sub slot.toNat).s ∧
      ((t.chip.cell cell.toNat).after 1).rd (rd.toNat + 1) = (x.sub (slot.toNat + 1)).s) ∧
    (word 2 ra.toNat 0 → x.ctx = .traverse → s.chip.eng.phase = .leg k → ∃ t : State, exec (.pub cell ra slot mem) s = .next t ∧
      put t slot.toNat ra.toNat) ∧
    (word 2 ra.toNat 0 → x.ctx = .traverse → s.chip.eng.phase = .leg k → s.chip.level 2 = 0 →
      (∀ l : Nat, s.chip.slotLeg cell.toNat slot.toNat = some l → l < k) → ∃ t : State, exec (.pub cell ra slot mem) s = .next t ∧
        (t.chip.cell cell.toNat).pub slot.toNat = x.pub slot.toNat ∧
        t.chip.regFld Reg.ENG_LATE_CNT 15 0 = min 65535 (s.chip.regFld Reg.ENG_LATE_CNT 15 0 + 1)) ∧
    (word 3 ra.toNat 0 → x.ctx = .traverse → ra.toNat % 2 = 0 → slot.toNat % 2 = 0 → s.chip.eng.phase = .leg k → s.chip.level 2 = 0 →
      ∃ t : State, exec (.pubp cell ra slot mem) s = .next t ∧ put t slot.toNat ra.toNat ∧ put t (slot.toNat + 1) (ra.toNat + 1)) ∧
    (x.ctx = .background → (word 0 0 rd.toNat → bad (.recv cell rd slot mem)) ∧ (word 1 0 rd.toNat → bad (.recvp cell rd slot mem)) ∧
      (word 2 ra.toNat 0 → bad (.pub cell ra slot mem)) ∧ (word 3 ra.toNat 0 → bad (.pubp cell ra slot mem)))

/-- R145, R146: every sample, every state of the slot. -/
def Obligations.GainSteps : Prop :=
  ∀ (s : State) (cell : BitVec 9) (ra rd : BitVec 4) (slot : BitVec 6) (mem : MemPorts) (up dn prod : Int),
    let x := s.chip.cell cell.toNat
    let a := x.rd ra.toNat
    let g := x.gain slot.toNat
    let cross : Bool := decide (a.v = 0) || a.v.msb != g.prev
    let trig : Bool := !a.p && (cross || decide (g.tmoCnt = 0))
    let n : Int := if g.cur.toNat < g.floor.toNat then g.floor.toNat else min up 2147483647
    let m : Int := if min dn 2147483647 < (g.floor.toNat : Int) then 0 else min dn 2147483647
    let cur : Word := if trig && decide (g.cur ≠ g.tgt) then
        (if g.cur.toNat < g.tgt.toNat then BitVec.ofInt 32 (min n g.tgt.toNat) else BitVec.ofInt 32 (max m g.tgt.toNat))
      else g.cur
    let beyond : Bool := decide (2147483647 < prod) || decide (prod < -2147483648)
    s.chip.issues cell.toNat (encChain 4 ra.toNat rd.toNat slot.toNat mem) = true →
    portsLegal mem = true → x.stays = true → x.ctx = .traverse →
    IsRound up (g.cur.toNat * g.stepUp.toNat) (2 ^ 28) → IsRound dn (g.cur.toNat * g.stepDn.toNat) (2 ^ 28) →
    IsRound prod (a.v.toInt * cur.toNat) (2 ^ 28) →
    ∃ t : State, exec (.gain cell ra rd slot mem) s = .next t ∧
      (t.chip.cell cell.toNat).gain slot.toNat = { g with
        cur := cur, tmoCnt := if trig && decide (g.cur ≠ g.tgt) then g.tmo else g.tmoCnt,
        prev := if a.p then g.prev else a.v.msb } ∧
      ((t.chip.cell cell.toNat).after 1).rd rd.toNat =
        { v := if 2147483647 < prod then 0x7FFFFFFF else if prod < -2147483648 then 0x80000000 else BitVec.ofInt 32 prod, p := a.p } ∧
      (t.chip.cell cell.toNat).sr.getLsbD 1 = (x.age.sr.getLsbD 1 || beyond) ∧
      t.chip.regFld Reg.ENG_GAIN_TMO 15 0 = (if trig && decide (g.cur ≠ g.tgt) && !cross then
        min 65535 (s.chip.regFld Reg.ENG_GAIN_TMO 15 0 + 1) else s.chip.regFld Reg.ENG_GAIN_TMO 15 0)

/-- R102, R103, R70, R71. -/
def Obligations.IllegalWords : Prop :=
  (∀ w : DWord, 9 ≤ w.toNat / 2 ^ 60 → wordIllegal w = true) ∧
  ∀ (s : State) (cell : BitVec 9) (w : DWord),
    let x := s.chip.cell cell.toNat
    wordIllegal w = true → s.chip.issues cell.toNat w = true → s.chip.level 1 = 0 →
    ∃ t : State, exec (.illegalInstruction cell w) s = .next t ∧
      t.chip.regFld Reg.ENG_ILL_CNT 15 0 = min 65535 (s.chip.regFld Reg.ENG_ILL_CNT 15 0 + 1) ∧
      t.chip.regFld Reg.ENG_ILL_CNT 31 23 = cell.toNat ∧
      (t.chip.cell cell.toNat).sticky.getLsbD 6 = true ∧
      (∀ i : Nat, (t.chip.cell cell.toNat).rd i = x.flush.rd i ∧ (t.chip.cell cell.toNat).ra i = x.flush.ra i ∧
        (t.chip.cell cell.toNat).p i = x.flush.p i) ∧
      (x.ctx = .traverse → (t.chip.cell cell.toNat).ctx = .idle ∧ (t.chip.cell cell.toNat).legDone = true ∧
        t.chip.regFld Reg.ENG_CLOSURE_OVR 15 0 = min 65535 (s.chip.regFld Reg.ENG_CLOSURE_OVR 15 0 + 1)) ∧
      (x.ctx = .background → (t.chip.cell cell.toNat).ctx = .idle ∧ (t.chip.cell cell.toNat).bg = .abandoned)

/-- The frame of every instruction whose whole effect lies in the cell's registers: the statement names the destination of
each. -/
def Obligations.CellFrame : Prop :=
  ∀ (s : State) (cell : BitVec 9) (ra rb rc rd : BitVec 4) (aux part : BitVec 2) (a3 : BitVec 3) (a4 : BitVec 4) (n3 : BitVec 3)
    (k : BitVec 6) (imm : BitVec 32) (g : BitVec 12) (i11 : BitVec 11) (mem : MemPorts),
    let x := s.chip.cell cell.toNat
    let frame (i : Instr) (dst : List Nat) : Prop := ∃ t : State, exec i s = .next t ∧ OnlyCell cell.toNat s t ∧
      let y := t.chip.cell cell.toNat
      y.power = x.power ∧ y.ctx = x.ctx ∧ y.leg = x.leg ∧ y.pubs = x.pubs ∧ y.subs = x.subs ∧ y.gains = x.gains ∧ y.moves = x.moves ∧
      y.streamer = x.streamer ∧ y.bpc = x.bpc ∧ y.bsr = x.bsr ∧ y.bg = x.bg ∧ y.bgSaved = x.bgSaved ∧ y.mr = x.age.mr ∧
      (∀ r : Nat, r ∉ dst → y.rd r = x.age.rd r) ∧ y.acc = x.age.acc ∧ y.base = x.age.base ∧ y.len = x.age.len ∧ y.step = x.age.step ∧
      (mem = noPorts → y.ptr = x.age.ptr ∧ y.slots = x.age.slots)
    let word (grp fn a b c d e low : Nat) : Prop := s.chip.issues cell.toNat (encWord grp fn a b c d e low) = true
    let m := encPorts mem
    let A := ra.toNat
    let B := rb.toNat
    let C := rc.toNat
    let D := rd.toNat
    portsLegal mem = true → x.stays = true →
    ((word 4 0 A 0 0 D 0 m → frame (.mov cell ra rd mem) [D]) ∧ (word 4 1 A B 0 D 0 m → frame (.add cell ra rb rd mem) [D]) ∧
      (word 4 2 A B 0 D 0 m → frame (.sub cell ra rb rd mem) [D]) ∧ (word 4 3 A B 0 D 0 m → frame (.and cell ra rb rd mem) [D]) ∧
      (word 4 4 A B 0 D 0 m → frame (.or cell ra rb rd mem) [D]) ∧ (word 4 5 A B 0 D 0 m → frame (.xor cell ra rb rd mem) [D]) ∧
      (word 4 6 A 0 0 D 0 m → frame (.neg cell ra rd mem) [D]) ∧ (word 4 7 A 0 0 D 0 m → frame (.abs cell ra rd mem) [D]) ∧
      (word 4 8 A B 0 D 0 m → frame (.min cell ra rb rd mem) [D]) ∧ (word 4 9 A B 0 D 0 m → frame (.max cell ra rb rd mem) [D]) ∧
      (word 4 10 A B 0 D 0 m → frame (.asr cell ra rb rd mem) [D]) ∧ (word 4 11 A B 0 D 0 m → frame (.lsr cell ra rb rd mem) [D]) ∧
      (word 4 12 A B 0 D 0 m → frame (.lsl cell ra rb rd mem) [D]) ∧ (word 4 13 A B C D 0 m → frame (.sel cell ra rb rc rd mem) [D])) ∧
    ((word 5 0 0 0 0 D 0 imm.toNat → mem = noPorts → frame (.ldi cell rd imm) [D]) ∧
      (word 5 1 0 0 0 n3.toNat 0 i11.toNat → mem = noPorts → frame (.setp cell n3 i11) []) ∧
      (word 5 2 0 0 0 n3.toNat 0 i11.toNat → mem = noPorts → frame (.setb cell n3 i11) []) ∧
      (word 5 4 0 0 0 n3.toNat 0 g.toNat → mem = noPorts → frame (.setm cell n3 g) []) ∧
      (word 8 0 A 0 0 0 0 k.toNat → k.toNat < 24 → mem = noPorts → frame (.mts cell ra k) []) ∧
      (word 8 1 0 0 0 D 0 k.toNat → k.toNat ≤ 43 → mem = noPorts → frame (.mfs cell rd k) [D]) ∧
      (word 0 0 0 0 0 0 0 0 → mem = noPorts → frame (.nop cell) []) ∧
      (word 0 1 0 0 0 0 0 g.toNat → x.branch = none → mem = noPorts → frame (.br cell g) []) ∧
      (word 0 2 A 0 0 0 0 g.toNat → x.branch = none → mem = noPorts → frame (.brz cell ra g) []) ∧
      (word 0 3 A 0 0 0 0 g.toNat → x.branch = none → mem = noPorts → frame (.brnz cell ra g) []) ∧
      (word 0 4 A 0 0 0 0 g.toNat → x.branch = none → mem = noPorts → frame (.brn cell ra g) []) ∧
      (word 0 5 A 0 0 0 0 g.toNat → x.branch = none → mem = noPorts → frame (.brnn cell ra g) []) ∧
      (word 0 6 A 0 0 0 0 0 → x.branch = none → mem = noPorts → frame (.brind cell ra) []) ∧
      (word 0 8 0 0 0 0 0 0 → x.ctx = .traverse → x.branch = none → mem = noPorts → frame (.retb cell) [])) ∧
    ((word 3 0 aux.toNat 0 0 D a4.toNat m → a4.toNat ≤ 8 → frame (.ext cell aux rd a4 mem) []) ∧
      (word 3 8 aux.toNat 0 0 D part.toNat m → part.toNat ≤ 2 → frame (.aget cell aux rd part mem) []) ∧
      (word 3 2 aux.toNat 0 0 0 0 m → frame (.aclr cell aux mem) []) ∧
      (word 3 3 aux.toNat B 0 0 0 m → frame (.ald cell aux rb mem) []) ∧
      (word 3 4 aux.toNat 0 0 0 a4.toNat m → frame (.ashr cell aux a4 mem) []) ∧
      (word 3 5 aux.toNat 0 0 0 a4.toNat m → frame (.ashl cell aux a4 mem) []) ∧
      (word 3 6 aux.toNat part.toNat 0 0 0 m → frame (.aadd cell aux part mem) []) ∧
      (word 3 7 aux.toNat part.toNat 0 0 0 m → frame (.asub cell aux part mem) []) ∧
      (word 3 9 aux.toNat B 0 0 part.toNat m → part.toNat ≤ 2 → frame (.aput cell aux rb part mem) [])) ∧
    ((word 1 0 A B 0 0 a3.toNat m → A % 2 = 0 → B % 2 = 0 → frame (.cmac cell ra rb a3 mem) []) ∧
      (word 1 4 A B 0 0 a3.toNat m → B % 2 = 0 → frame (.cmacr cell ra rb a3 mem) []) ∧
      (word 2 0 A B C D a3.toNat m → frame (.mac2 cell ra rb rc rd a3 mem) []) ∧
      (word 2 3 A B 0 0 a4.toNat m → frame (.mac1 cell ra rb a4 mem) [])) ∧
    (s.chip.issues cell.toNat (encChain 0 0 D k.toNat mem) = true → x.ctx = .traverse → frame (.recv cell rd k mem) [])

/-- R50, R52, R57, R61, R62, R70, R133, R134, R137: the tick number at a boundary, the order of the phases and the forced entries.
`failed` is the model's own record of the last closure failure. -/
def Obligations.TraversePhases : Prop :=
  ∀ (s : State) (k : BitVec 2) (cycles : BitVec 16) (clks : BitVec 32),
    let before : Phase := if k = 0 then .entry else .gap (k.toNat - 1)
    let after : Phase := if k = 3 then .margin else .gap k.toNat
    let run := s.chip.eng.ticking = true ∧ s.chip.traversed = true
    let still := s.chip.eng.ticking = true ∧ s.chip.traversed = false
    let reset (t : State) : Prop := t.chip.eng = { Eng.reset with failed := t.chip.eng.failed }
    let at_ (t : State) (p : Phase) : Prop := t.chip.eng = { s.chip.eng with phase := p, failed := t.chip.eng.failed }
    let ticked (t : State) : Prop :=
      t.chip.eng.tick = s.chip.eng.tick + 1 ∧ t.chip.eng.phase = .entry ∧ t.chip.eng.ticking = true ∧ t.chip.eng.rate = s.chip.eng.rate ∧
      t.chip.graph.live = s.chip.graph.live ∧ t.chip.graph.bank = s.chip.graph.bank ∧ t.chip.cmd.sched = s.chip.cmd.sched
    let entered (t : State) : Prop := ∀ i ∈ t.chip.runCells, ∀ e : CellEntry, (t.chip.progs i).head? = some e →
      let x := s.chip.cell i
      let y := t.chip.cell i
      y.leg = k.toNat ∧ y.pc = BitVec.ofNat 12 (e.leg k.toNat) ∧ y.sr = 0 ∧ y.branch = none ∧ y.pend = [] ∧
      ((y.ctx = .traverse ∧ y.legDone = false) ∨
        (y.ctx = .idle ∧ y.legDone = true ∧ (x.fetchFailed = true ∨ y.sticky.getLsbD 7 = true))) ∧
      (x.fetched.contains (e.leg k.toNat % 4096 / 32) = true → x.fetchFailed = false → y.ctx = .traverse)
    let halted (t : State) : Prop := (∀ i ∈ s.chip.runCells, (t.chip.cell i).ctx ≠ .traverse) ∧
      ∀ ep ∈ s.chip.boundOuts, s.chip.carried ep = true → ((t.chip.outCh ep).committed).isSome = true
    (s.chip.eng.ticking = true → ∃ t : State, exec (.tickBoundary cycles clks) s = .next t ∧ t.pending = s.pending ∧ (reset t ∨ ticked t)) ∧
    (s.chip.eng.ticking = true → Quiet s → ∃ t : State, exec (.tickBoundary cycles clks) s = .next t ∧ ticked t) ∧
    (s.chip.eng.ticking = false → exec (.tickBoundary cycles clks) s = .next s) ∧
    (run → s.chip.eng.phase = before → ∃ t : State, exec (.forcedLegEntry k) s = .next t ∧ (reset t ∨ at_ t (.leg k.toNat)) ∧ entered t) ∧
    (run → s.chip.eng.phase = before → Quiet s → ∃ t : State, exec (.forcedLegEntry k) s = .next t ∧ at_ t (.leg k.toNat) ∧ entered t) ∧
    (still → s.chip.eng.phase = before → ∃ t : State, exec (.forcedLegEntry k) s = .next t ∧ at_ t (.leg k.toNat) ∧ t.chip.cells = s.chip.cells) ∧
    (run → s.chip.eng.phase = .leg k.toNat → ∃ t : State, exec (.legEnd k) s = .next t ∧ (reset t ∨ at_ t after)) ∧
    (run → s.chip.eng.phase = .leg k.toNat → Quiet s → ∃ t : State, exec (.legEnd k) s = .next t ∧ at_ t after) ∧
    (still → s.chip.eng.phase = .leg k.toNat → ∃ t : State, exec (.legEnd k) s = .next t ∧ at_ t after ∧ t.chip.cells = s.chip.cells) ∧
    (run → s.chip.eng.phase = .margin → ∃ t : State, exec .commitWindow s = .next t ∧ (reset t ∨ (at_ t .commit ∧ halted t))) ∧
    (run → s.chip.eng.phase = .margin → Quiet s → ∃ t : State, exec .commitWindow s = .next t ∧ at_ t .commit ∧ halted t) ∧
    (still → s.chip.eng.phase = .margin → ∃ t : State, exec .commitWindow s = .next t ∧ at_ t .commit ∧ t.chip.cells = s.chip.cells) ∧
    (s.chip.eng.phase ≠ before → exec (.forcedLegEntry k) s = .next s) ∧
    (s.chip.eng.phase ≠ .leg k.toNat → exec (.legEnd k) s = .next s) ∧
    (s.chip.eng.phase ≠ .margin → exec .commitWindow s = .next s)

/-- R163, R164, R167, R168, and the count of R70; a schedule tile holds 32 entries (log entry 10). -/
def Obligations.LatePublishes : Prop :=
  ∀ (s : State) (k : BitVec 2) (exch : BitVec 6) (win : BitVec 3) (first tile : BitVec 16) (bad : Bool),
    let fails := bad || s.chip.mem.fails .sched (schedTile exch.toNat tile.toNat)
    Quiet s → s.chip.eng.ticking = true → s.chip.traversed = true →
    (s.chip.eng.phase = .leg k.toNat → ∃ t : State, exec (.legEnd k) s = .next t ∧
      (let open_ := s.chip.runCells.filter (fun i => (s.chip.cell i).ctx == .traverse && !(s.chip.cell i).legDone)
       t.chip.regFld Reg.ENG_CLOSURE_OVR 15 0 = min 65535 (s.chip.regFld Reg.ENG_CLOSURE_OVR 15 0 + open_.length)) ∧
      (k = 0 → ∀ i ∈ s.chip.runCells, (s.chip.cell i).legDone = true → ∀ j : Nat, j < 64 → s.chip.slotLeg i j = some 0 →
        let q := (s.chip.cell i).pub j
        ((t.chip.cell i).pub j).taken = if q.written || q.failed then q.s else { q.s with p := true })) ∧
    (exch.toNat < 37 → ∃ t : State, exec (.windowEnd exch win first) s = .next t ∧
      let owed := ((s.chip.windowOf exch.toNat win.toNat).drop first.toNat).filter (fun e => exch.toNat != 0 || decide (e.2.dst < 32768))
      t.chip.regFld Reg.ENG_LATE_CNT 15 0 = min 65535 (s.chip.regFld Reg.ENG_LATE_CNT 15 0 + owed.length) ∧
      ∀ e ∈ (s.chip.windowOf exch.toNat win.toNat).drop first.toNat, t.chip.skipped exch.toNat win.toNat e.1 = true) ∧
    (exch.toNat < 37 → fails = false → exec (.scheduleTileFetch exch win tile bad) s = .next { s with chip := { s.chip with
      chain := { s.chip.chain with refetch := s.chip.chain.refetch.filter (fun e => e != (exch.toNat, tile.toNat)) } } }) ∧
    (exch.toNat < 37 → fails = true → ∃ t : State, exec (.scheduleTileFetch exch win tile bad) s = .next t ∧
      t.chip.regFld Reg.ENG_TCHK_CNT 15 0 = min 65535 (s.chip.regFld Reg.ENG_TCHK_CNT 15 0 + 1) ∧
      ((exch.toNat, tile.toNat) ∈ s.chip.chain.refetch → ∀ e ∈ s.chip.windowOf exch.toNat win.toNat, e.1 / 32 = tile.toNat →
        t.chip.skipped exch.toNat win.toNat e.1 = true) ∧
      ((exch.toNat, tile.toNat) ∉ s.chip.chain.refetch → (exch.toNat, tile.toNat) ∈ t.chip.chain.refetch ∧ t.chip.chain.skips = s.chip.chain.skips))

/-- R183, R184 (with the hold of R58): every state of a channel, every sample. `muteStep` says where a ramp-out stands after
step j. -/
def Obligations.HoldAndRamp : Prop :=
  ∀ (o : OutCh) (v : Word) (r : Int),
    let clean : Sample := { v := v, p := false }
    let bad : Sample := { v := v, p := true }
    let held : Word := o.held.getD 0
    let down (j : Nat) : Mute := if 64 ≤ j then .muted else .out j
    (o.mute = .clear → (o.commit clean).v = v ∧ (o.commit clean).ch.held = some v ∧ (o.commit clean).ch.h = 0 ∧ (o.commit clean).ch.mute = .clear) ∧
    (o.mute = .clear → (o.commit bad).v = held ∧ (o.commit bad).ch.held = o.held ∧ (o.commit bad).ch.h = o.h + 1 ∧
      (o.commit bad).ch.mute = if o.h + 1 = 8 then .out 0 else .clear) ∧
    (∀ j : Nat, o.mute = .out j → j < 64 →
      (IsRound r (held.toInt * (63 - j : Nat)) 64 → (o.commit bad).v = BitVec.ofInt 32 r) ∧ (o.commit bad).ch.mute = down (j + 1) ∧
      (IsRound r (v.toInt * (63 - j : Nat)) 64 → (o.commit clean).v = BitVec.ofInt 32 r) ∧ (o.commit clean).ch.mute = down (j + 1)) ∧
    (o.mute = .muted → (o.commit clean).v = 0 ∧ (o.commit bad).v = 0 ∧ (o.commit bad).ch.c = 0 ∧ (o.commit bad).ch.mute = .muted ∧
      (o.commit clean).ch.c = o.c + 1 ∧ (o.commit clean).ch.mute = if o.c + 1 = 1024 then .ramIn 0 else .muted) ∧
    (∀ j : Nat, o.mute = .ramIn j → j < 64 →
      (IsRound r (v.toInt * (j + 1 : Nat)) 64 → (o.commit clean).v = BitVec.ofInt 32 r) ∧
      (o.commit clean).ch.mute = (if j + 1 = 64 then .clear else .ramIn (j + 1)) ∧
      (IsRound r (held.toInt * (64 - (65 - j) : Nat)) 64 → (o.commit bad).v = BitVec.ofInt 32 r) ∧
      (o.commit bad).ch.mute = down (65 - j) ∧ (o.commit bad).started = false)

/-- R67, R74, R77, R80, R82: the effects on the run state of the engine. -/
def Obligations.SuspendAndRate : Prop :=
  ∀ (s : State) (e : Sched) (rest : List Sched),
    let c := s.chip
    let r := parseReq e.req
    let due (op : Nat) : Prop := c.eng.ticking = true ∧ c.eng.phase = .entry ∧ c.dueNow = e :: rest ∧ e.op = op
    let fadeEnds (k : RateChange) : Prop := c.eng.change = some k ∧ k.stopped = false ∧ c.eng.ticking = true ∧ c.eng.phase = .entry ∧ c.tickN = k.t + 64
    let stopped (k : RateChange) (t : State) : Prop := t.chip.graph.live = none ∧ t.chip.graph.fade = none ∧ t.chip.cmd.sched = [] ∧
      t.chip.eng.engine = .suspended ∧ t.chip.eng.rate = none ∧ t.chip.eng.ticking = false ∧ t.chip.eng.change = some { k with stopped := true }
    let holdOver := c.eng.ticking = true ∧ c.eng.phase = .entry ∧ c.eng.suspended = true ∧ c.eng.holdIndef = false ∧ c.eng.holdLeft = 0 ∧
      (∀ d ∈ c.dueNow, d.op ≠ 0x0110) ∧ ∀ k : RateChange, ¬ fadeEnds k
    let waits (k : RateChange) (w : Nat) : Prop := w ≤ if k.oldRate.map Rate.fam48 = some k.rate.fam48 then 0 else k.rate.hz / 50
    let resumed (k : RateChange) (w : Nat) (t : State) : Prop := t.chip.eng.engine = .staked ∧ t.chip.eng.rate = some k.rate ∧
      t.chip.eng.ticking = true ∧ t.chip.eng.change = none ∧
      t.chip.eng.tick = BitVec.ofNat 64 (match k.align with
        | some a => a + w
        | none => ((k.t + 64) * k.rate.hz + ((k.oldRate.getD k.rate).hz - 1)) / (k.oldRate.getD k.rate).hz + w)
    (due 0x0110 → c.eng.engine = .running → ∃ t : State, exec .commandEffect s = .next t ∧ t.chip.eng.suspended = true ∧
      t.chip.eng.holdLeft = r.p 0 4 ∧ t.chip.eng.holdIndef = decide (r.p 0 4 = 0) ∧ t.chip.cmd.sched = c.cmd.sched.erase e ∧
      t.chip.cells = c.cells ∧ t.chip.mem = c.mem ∧ t.chip.traversed = false) ∧
    (due 0x0111 → c.eng.suspended = true → ∃ t : State, exec .commandEffect s = .next t ∧ t.chip.eng.suspended = false ∧
      t.chip.eng.holdIndef = false ∧ t.chip.cmd.sched = c.cmd.sched.erase e ∧ t.chip.cells = c.cells ∧ t.chip.mem = c.mem) ∧
    (∀ x : Rate, due 0x0112 → c.eng.change = none → Rate.ofCode (r.p 0 1) = some x → ∃ t : State, exec .commandEffect s = .next t ∧
      t.chip.eng.change = some { t := c.tickN, rate := x, ch := e.ch, stopped := false, oldRate := c.eng.rate, align := none }) ∧
    (holdOver → ∃ t : State, exec .suspendHoldEnd s = .next t ∧ t.chip.eng.suspended = false ∧ t.chip.eng.holdIndef = false ∧
      t.chip.regBit Reg.ENG_EVENT 1 = true ∧ t.chip.cells = c.cells ∧ t.chip.mem = c.mem ∧ t.chip.cmd = c.cmd) ∧
    (¬ holdOver → exec .suspendHoldEnd s = .next s) ∧
    (∀ k : RateChange, fadeEnds k → ∃ t : State, exec .rateFadeEnd s = .next t ∧ (t.chip.eng = Eng.reset ∨ stopped k t)) ∧
    (∀ k : RateChange, fadeEnds k → Quiet s → ∃ t : State, exec .rateFadeEnd s = .next t ∧ stopped k t) ∧
    ((∀ k : RateChange, ¬ fadeEnds k) → exec .rateFadeEnd s = .next s) ∧
    (∀ (k : RateChange) (w : BitVec 12) (clks : Word), c.eng.change = some k → k.stopped = true → waits k w.toNat →
      ∃ t : State, exec (.firstNewRateTick w clks) s = .next t ∧ (t.chip.eng = Eng.reset ∨ resumed k w.toNat t)) ∧
    (∀ (k : RateChange) (w : BitVec 12) (clks : Word), c.eng.change = some k → k.stopped = true → waits k w.toNat → Quiet s →
      ∃ t : State, exec (.firstNewRateTick w clks) s = .next t ∧ resumed k w.toNat t) ∧
    (∀ (w : BitVec 12) (clks : Word), (∀ k : RateChange, c.eng.change = some k → k.stopped = false ∨ ¬ waits k w.toNat) →
      exec (.firstNewRateTick w clks) s = .next s)

/-- R263 to R265, R268, R274, R277: the life of a channel of the host. -/
def Obligations.ChannelLife : Prop :=
  ∀ (s : State) (ch : BitVec 3) (rest : List Nat) (x : Resp),
    let c := s.chip
    let n := ch.toNat
    let k := c.chan n
    let word (t : State) (i : Nat) : Word := t.chip.reg (Reg.CMD_RSP n i)
    let rspHead (t : State) (op reason seq : Nat) (applied : DWord) (plen : Nat) : Prop :=
      word t 0 = BitVec.ofNat 32 (op + 65536 * reason) ∧ word t 1 = BitVec.ofNat 32 seq ∧ word t 2 = applied.setWidth 32 ∧
      word t 3 = (applied >>> 32).setWidth 32 ∧ word t 4 = BitVec.ofNat 32 plen ∧
      (t.chip.chan n).st = .idle ∧ (t.chip.chan n).lastSeq = seq ∧ t.chip.regBit (Reg.CMD_EVENT n) 1 = true
    let cleared (t : State) : Prop := ∀ i : Nat, i < 256 → t.chip.reg (Reg.CMD_REQ n i) = 0
    (c.pfUp (decide (4 ≤ n)) = true → k.st = .idle → c.cmd.held = false → ∃ t : State, exec (.cmdRing ch) s = .next t ∧
      t.chip.chan n = { k with st := .ringing, limit := c.regFld (Reg.CMD_TIMEOUT n) 13 0 } ∧ t.chip.cmd.rings = c.cmd.rings ++ [n] ∧
      t.chip.regs = c.regs) ∧
    (c.cmd.rings = n :: rest → c.sys.execReady = true → c.sys.execAlive = true → c.cmd.held = false →
      let b := c.reqBytes n (32 + min (parseReq (c.reqBytes n 32)).len 992)
      let r := parseReq b
      let reason := c.headerReason n b
      ∃ t : State, exec .cmdTake s = .next t ∧ cleared t ∧ n ∉ t.chip.cmd.rings ∧
        t.chip.reg (Reg.CMD_ACK n) = BitVec.ofNat 32 (65536 * r.seq + reason) ∧ t.chip.regBit (Reg.CMD_EVENT n) 0 = true ∧
        t.chip.regBit (Reg.CMD_TIMEOUT n) 31 = false ∧
        (reason = 0 → (t.chip.chan n).st = .taken ∧ (t.chip.chan n).req = b ∧ (t.chip.chan n).work = .fresh) ∧
        (reason ≠ 0 → rspHead t r.op reason r.seq 0xFFFFFFFFFFFFFFFF 0)) ∧
    (k.st = .taken → k.rsp = some x → k.orphan = false → c.sys.execReady = true → c.sys.execAlive = true → c.cmd.held = false →
      x.payload.length ≤ 992 → x.reason < 65536 → ∃ t : State, exec (.cmdResponse (ch.setWidth 4)) s = .next t ∧
        rspHead t (parseReq k.req).op x.reason (parseReq k.req).seq x.applied x.payload.length) ∧
    (c.pfUp (decide (4 ≤ n)) = true → k.st = .ringing → ∃ t : State, exec (.cmdAbort ch) s = .next t ∧ cleared t ∧ n ∉ t.chip.cmd.rings ∧
      rspHead t (parseReq (c.reqBytes n 32)).op 0x000A (parseReq (c.reqBytes n 32)).seq 0xFFFFFFFFFFFFFFFF 0)

/-- R279 (with R262). The opcodes are those of the index of R301, written out; the secure ones are marked there. -/
def Obligations.HeaderChecks : Prop :=
  let secure : List Nat := [0x0403, 0x0707, 0x0B01, 0x0B02, 0x0B03, 0x0B10, 0x0B11, 0x0B12, 0x0B13, 0x0B20, 0x0B21]
  let listed (op : Nat) : Bool := decide (0x0101 ≤ op ∧ op ≤ 0x0105) || decide (0x0110 ≤ op ∧ op ≤ 0x0112) || decide (0x0201 ≤ op ∧ op ≤ 0x0205) ||
    decide (0x0301 ≤ op ∧ op ≤ 0x0307) || decide (0x0401 ≤ op ∧ op ≤ 0x0404) || decide (0x0501 ≤ op ∧ op ≤ 0x0509) ||
    decide (0x0601 ≤ op ∧ op ≤ 0x060A) || decide (0x0701 ≤ op ∧ op ≤ 0x0707) || decide (0x0801 ≤ op ∧ op ≤ 0x0806) ||
    decide (0x0901 ≤ op ∧ op ≤ 0x0903) || decide (0x0A01 ≤ op ∧ op ≤ 0x0A05) || decide (0x0B01 ≤ op ∧ op ≤ 0x0B03) ||
    decide (0x0B10 ≤ op ∧ op ≤ 0x0B13) || decide (0x0B20 ≤ op ∧ op ≤ 0x0B21) || decide (0x0C01 ≤ op ∧ op ≤ 0x0C02)
  (∀ (c : Chip) (ch : BitVec 3) (b : List Byte),
    let r := parseReq b
    let n := ch.toNat
    let crcOk : Bool := !r.flags.testBit 1 || leField b 24 4 == (crc32c (b.take 24 ++ [0, 0, 0, 0] ++ (b.drop 28).take (4 + r.len))).toNat
    b.length = 32 + min r.len 992 → c.headerReason n b =
      if 992 < r.len then 0x0003
      else if crcOk = false then 0x0009
      else if 8 ≤ r.flags ∨ leField b 20 4 ≠ 0 ∨ leField b 28 4 ≠ 0 then 0x0004
      else if listed r.op = false then 0x0002
      else if n < 4 ∧ (r.op ∈ secure ∨ r.flags.testBit 2 = true) then 0x0005
      else if 4 ≤ n ∧ c.cmd.session.isOpen = false ∧ r.op ≠ 0x0B01 ∧ r.op ≠ 0x0B02 then 0x0005
      else 0x0000) ∧
  (∀ (s : State) (ch : BitVec 3) (rest : List Nat),
    let c := s.chip
    let n := ch.toNat
    let b := c.reqBytes n (32 + min (parseReq (c.reqBytes n 32)).len 992)
    c.cmd.rings = n :: rest → c.sys.execReady = true → c.sys.execAlive = true → c.cmd.held = false →
    ∃ t : State, exec .cmdTake s = .next t ∧ t.chip.regFld (Reg.CMD_ACK n) 15 0 = c.headerReason n b ∧
      (c.headerReason n b ≠ 0 → t.chip.regFld (Reg.CMD_RSP n 0) 31 16 = c.headerReason n b))

/-- R264, R266, R267, R269 to R271, R287; the count of an ignored write is the own effect of the row CMD_IGNORED_WRITE. MBX_TIMEOUT at LEVEL 0, where its count has no reaction. -/
def Obligations.ChannelRegisters : Prop :=
  ∀ (s : State) (ch : BitVec 3) (kind : BitVec 2) (v : Word) (pf1 : Bool),
    let c := s.chip
    let n := ch.toNat
    let k := c.chan n
    let up := c.pfUp (decide (4 ≤ n)) = true
    let counts (i : Instr) : Prop := ∃ t : State, exec i s = .next t ∧ t.chip.cmd = c.cmd ∧
      t.chip.regFld (Reg.CMD_IGNORED n) 15 0 = min 65535 (c.regFld (Reg.CMD_IGNORED n) 15 0 + 1) ∧
      ∀ a : Nat, a ≠ Reg.CMD_IGNORED n → t.chip.reg a = c.reg a
    let busy := k.st ≠ .idle ∨ c.cmd.held = true
    (up → busy → counts (.cmdRing ch)) ∧
    (up → k.st ≠ .ringing → counts (.cmdAbort ch)) ∧
    (up → (kind.toNat ≤ 1 → busy) → (kind = 2 → k.st ≠ .ringing) → counts (.cmdIgnoredWrite ch kind)) ∧
    (k.st = .ringing → c.regBit (Reg.CMD_TIMEOUT n) 31 = false → c.cmd.held = false → c.level 8 = 0 →
      ∃ t : State, exec (.cmdTakeTimeout ch) s = .next t ∧ t.chip.cmd = c.cmd ∧ t.chip.regBit (Reg.CMD_TIMEOUT n) 31 = true ∧
        t.chip.regBit (Reg.CMD_EVENT n) 2 = true ∧
        t.chip.regFld (Reg.CMD_TMO_CNT (decide (4 ≤ n))) 15 0 = min 65535 (c.regFld (Reg.CMD_TMO_CNT (decide (4 ≤ n))) 15 0 + 1) ∧
        t.chip.regFld (Reg.CMD_TMO_CNT (decide (4 ≤ n))) 18 16 = n ∧ ∀ i : Nat, i < 256 → t.chip.reg (Reg.CMD_REQ n i) = c.reg (Reg.CMD_REQ n i)) ∧
    (up → ∃ t : State, exec (.cmdTimeoutWrite ch v) s = .next t ∧
      t.chip.regFld (Reg.CMD_TIMEOUT n) 13 0 = (if 20 ≤ v.toNat % 16384 ∧ v.toNat % 16384 ≤ 10000 then v.toNat % 16384
        else c.regFld (Reg.CMD_TIMEOUT n) 13 0) ∧
      t.chip.regBit (Reg.CMD_TIMEOUT n) 31 = c.regBit (Reg.CMD_TIMEOUT n) 31 ∧ t.chip.cmd = c.cmd) ∧
    (c.pfUp pf1 = true → ∃ t : State, exec (.functionLevelReset pf1) s = .next t ∧
      (∀ m : Nat, m < 8 → decide (4 ≤ m) = pf1 → (∀ i : Nat, i < 256 → t.chip.reg (Reg.CMD_REQ m i) = 0 ∧ t.chip.reg (Reg.CMD_RSP m i) = 0) ∧
        t.chip.reg (Reg.CMD_ACK m) = 0 ∧ t.chip.reg (Reg.CMD_TIMEOUT m) = 0xC8 ∧ t.chip.reg (Reg.CMD_EVENT m) = 0 ∧
        t.chip.reg (Reg.CMD_INT_EN m) = 0xF ∧ t.chip.reg (Reg.CMD_IGNORED m) = 0 ∧ m ∉ t.chip.cmd.rings ∧
        (t.chip.chan m).st = (if (c.chan m).st = .taken then .taken else .idle) ∧ ((c.chan m).st = .taken → (t.chip.chan m).orphan = true)) ∧
      (∀ m : Nat, m < 8 → decide (4 ≤ m) ≠ pf1 → t.chip.chan m = c.chan m) ∧
      t.chip.cmd.session.isOpen = (!pf1 && c.cmd.session.isOpen) ∧ t.chip.eng = c.eng ∧ t.chip.cmd.sched = c.cmd.sched) ∧
    (c.sys.execReady = false → exec .cmdTake s = .next s)

/-- R275, R278, R297, R352, R353, R570: the rows of the opcodes that take effect at a tick; `checkOf` is the first reason. -/
def Obligations.TickOpcodesChecked : Prop :=
  ∀ (s : State) (ch : BitVec 4),
    let c := s.chip
    let n := ch.toNat
    let r := c.reqOf n
    let refused (t : State) (k : Nat) : Prop := t.chip.Answers n k 0xFFFFFFFFFFFFFFFF [] ∧ t.chip.cmd.takes = c.cmd.takes.filter (fun j => j != n)
    let runs (op : Nat) (i : Instr) : Prop := c.isFresh n op = true → ∃ t : State, exec i s = .next t ∧
      (c.opForced op = none ∨ c.checkOf n r ≠ 6 → OnlyChan n s t) ∧ RegsBut [Reg.CLK_FORCE_HIT, Reg.CLK_EVENT] s t ∧
      (c.opForced op ≠ none → c.checkOf n r = 6 → opEnables op = false → CountsOne Reg.CLK_FORCE_HIT s t) ∧
      (c.checkOf n r = 0 → t.chip.chan n = { c.chan n with work := .checked } ∧ t.chip.cmd.takes = c.cmd.takes) ∧
      (c.checkOf n r ≠ 0 → refused t (c.checkOf n r))
    let fixed (op len : Nat) (i : Instr) : Prop := c.isFresh n op = true → ∃ t : State, exec i s = .next t ∧
      (r.len ≠ len → refused t 0x0003) ∧ (r.len = len → r.handle ≠ 0 → refused t 0x0004)
    (runs 0x0101 (.sysNop ch) ∧ runs 0x0110 (.suspend ch) ∧ runs 0x0111 (.resume ch) ∧ runs 0x0112 (.setRate ch) ∧
      runs 0x0202 (.graphCommit ch) ∧ runs 0x0205 (.cellRetire ch) ∧ runs 0x0301 (.paramWrite ch) ∧ runs 0x0303 (.gainSet ch) ∧
      runs 0x0304 (.gainCfg ch) ∧ runs 0x0306 (.tailBind ch) ∧ runs 0x0307 (.tailUnbind ch) ∧ runs 0x0401 (.stakeSet ch) ∧
      runs 0x0404 (.stakeLoad ch)) ∧
    (runs 0x0501 (.portCfg ch) ∧ runs 0x0502 (.portEnable ch) ∧ runs 0x0503 (.portDisable ch) ∧ runs 0x0504 (.portSlots ch) ∧
      runs 0x0505 (.startArm ch) ∧ runs 0x0506 (.start ch) ∧ runs 0x0508 (.aesCfg ch) ∧ runs 0x0509 (.madiCfg ch)) ∧
    (runs 0x0601 (.macCfg ch) ∧ runs 0x0602 (.macEnable ch) ∧ runs 0x0603 (.groupFilter ch) ∧ runs 0x0604 (.streamRxCfg ch) ∧
      runs 0x0605 (.streamTxCfg ch) ∧ runs 0x0606 (.streamEnable ch) ∧ runs 0x0607 (.streamDisable ch) ∧ runs 0x060A (.ptpCfg ch)) ∧
    (fixed 0x0601 64 (.macCfg ch) ∧ fixed 0x0602 4 (.macEnable ch) ∧ fixed 0x0603 72 (.groupFilter ch) ∧ fixed 0x0604 96 (.streamRxCfg ch) ∧
      fixed 0x0605 80 (.streamTxCfg ch) ∧ fixed 0x0606 4 (.streamEnable ch) ∧ fixed 0x0607 4 (.streamDisable ch) ∧ fixed 0x060A 32 (.ptpCfg ch)) ∧
    (runs 0x0701 (.refCfg ch) ∧ runs 0x0702 (.refEnable ch) ∧ runs 0x0703 (.datumCfg ch) ∧ runs 0x0704 (.datumFreqAdj ch) ∧
      runs 0x0705 (.datumStep ch) ∧ runs 0x0801 (.driveCfg ch) ∧ runs 0x0802 (.driveProtect ch) ∧ runs 0x0803 (.driveEnable ch) ∧
      runs 0x0804 (.driveDisable ch) ∧ runs 0x0806 (.driveClear ch) ∧ runs 0x0902 (.pairHandover ch)) ∧
    (fixed 0x0110 4 (.suspend ch) ∧ fixed 0x0111 0 (.resume ch) ∧ fixed 0x0112 4 (.setRate ch) ∧ fixed 0x0202 16 (.graphCommit ch) ∧
      fixed 0x0205 4 (.cellRetire ch) ∧ fixed 0x0307 4 (.tailUnbind ch) ∧ fixed 0x0404 4 (.stakeLoad ch) ∧ fixed 0x0501 16 (.portCfg ch) ∧
      fixed 0x0502 4 (.portEnable ch) ∧ fixed 0x0503 4 (.portDisable ch) ∧ fixed 0x0504 12 (.portSlots ch) ∧ fixed 0x0505 8 (.startArm ch) ∧
      fixed 0x0506 0 (.start ch) ∧ fixed 0x0508 32 (.aesCfg ch) ∧ fixed 0x0509 32 (.madiCfg ch) ∧ fixed 0x0701 16 (.refCfg ch) ∧
      fixed 0x0702 4 (.refEnable ch) ∧ fixed 0x0703 24 (.datumCfg ch) ∧ fixed 0x0704 4 (.datumFreqAdj ch) ∧ fixed 0x0705 4 (.datumStep ch) ∧
      fixed 0x0801 44 (.driveCfg ch) ∧ fixed 0x0803 4 (.driveEnable ch) ∧ fixed 0x0804 4 (.driveDisable ch) ∧ fixed 0x0806 4 (.driveClear ch) ∧
      fixed 0x0902 0 (.pairHandover ch))

/-- R63 to R66, R278, R299, R300, with PAIR_EN = 0. -/
def Obligations.AcceptanceSchedules : Prop :=
  ∀ (s : State) (ch : BitVec 4) (e : Sched) (g : Graph),
    let c := s.chip
    let n := ch.toNat
    let k := c.chan n
    let r := parseReq k.req
    let later := [0x0101, 0x0112, 0x0205, 0x0B12]
    let first : Nat := if c.eng.phase = .commit then c.eng.tick.toNat + 2 else c.eng.tick.toNat + 1
    let tick : Nat := if r.flags.testBit 0 = true ∧ r.atTick ≠ 0 then r.atTick else first
    let ready := k.st = .taken ∧ k.work = .checked ∧ opTicks r.op = true ∧ r.op ≠ 0x0902 ∧ c.sys.execReady = true ∧ c.sys.execAlive = true ∧
      c.pairEn = false
    let named (x : Sched) : Bool := x.ch % 8 == r.p 0 1 && x.seq == r.p 2 2 && x.tick == r.p 4 8
    (ready → c.cmd.takes.head? = some n → c.checkOf n r = 0 → ∃ t : State, exec (.commandAccept ch) s = .next t ∧
      (∃ x : Sched, t.chip.cmd.sched = c.cmd.sched ++ [x] ∧ x.ch = n ∧ x.op = r.op ∧ x.seq = r.seq ∧ x.tick = tick ∧ x.req = k.req) ∧
      n ∉ t.chip.cmd.takes ∧ t.chip.eng = c.eng ∧
      (r.op ∉ later → (t.chip.chan n).work = .answered ∧ ∃ p : List Byte, (t.chip.chan n).rsp = some { reason := 0, applied := BitVec.ofNat 64 tick, payload := p }) ∧
      (r.op ∈ later → (t.chip.chan n).work = .accepted ∧ (t.chip.chan n).rsp = k.rsp)) ∧
    (ready → c.cmd.takes.head? = some n → c.checkOf n r ≠ 0 → ∃ t : State, exec (.commandAccept ch) s = .next t ∧
      t.chip.cmd.sched = c.cmd.sched ∧ t.chip.Answers n (c.checkOf n r) 0xFFFFFFFFFFFFFFFF [] ∧ OnlyChan n s t) ∧
    (256 ≤ c.cmd.sched.length → opTicks r.op = true → r.op ≠ 0x0B12 → c.checkOf n r ≠ 0) ∧
    (c.cmd.takes.head? ≠ some n → exec (.commandAccept ch) s = .next s) ∧
    (c.EffectDue e 0x0101 → ∃ t : State, exec .commandEffect s = .next t ∧ t.chip.cmd.sched = c.cmd.sched.erase e ∧
      t.chip.Answers e.ch 0 c.eng.tick (parseReq e.req).par) ∧
    (c.isFresh n 0x0103 = true → r.len = 0 → r.flags.testBit 0 = false → r.handle = 0 → c.eng.rate.isSome = true →
      ∃ t : State, exec (.sysTime ch) s = .next t ∧ OnlyChan n s t ∧ t.chip.chan n = { k with work := .accepted, effTick := first }) ∧
    (c.isFresh n 0x0105 = true → c.pairEn = false → c.chkCancel n r = 0 → ∃ t : State, exec (.sysCancel ch) s = .next t ∧
      t.chip.cmd.sched = c.cmd.sched.filter (fun x => !named x) ∧
      t.chip.Answers n 0 c.eng.tick (leBytes 2 (c.cmd.sched.filter named).length) ∧
      (c.graph.bank = .scheduled g → (c.cmd.sched.filter named).any (fun x => x.op == 0x0202) = true → t.chip.graph.bank = .loaded g))

/-- R274, R275, R299, R353, R570: the reading opcodes; counters 0 to 95 as CNT_READ numbers them are `counter`. -/
def Obligations.QueriesChangeNothing : Prop :=
  ∀ (s : State) (ch : BitVec 4) (y : Symbol),
    let c := s.chip
    let n := ch.toNat
    let r := c.reqOf n
    let at_ : Bool := r.flags.testBit 0
    let h : Bool := decide (r.handle = 0)
    let query (op : Nat) (i : Instr) (len : Nat) (own : Bool) (known : Bool) (pay : List Byte → Prop) : Prop := c.isFresh n op = true →
      let ok := r.len = len ∧ at_ = false ∧ own = true ∧ known = true
      ∃ t : State, exec i s = .next t ∧ (¬ ok ∨ c.opForced op = none → OnlyChan n s t) ∧
        (ok → c.opForced op ≠ none → t.chip.Answers n 6 0xFFFFFFFFFFFFFFFF [] ∧ CountsOne Reg.CLK_FORCE_HIT s t ∧
          RegsBut [Reg.CLK_FORCE_HIT, Reg.CLK_EVENT] s t) ∧
        (r.len ≠ len → t.chip.Answers n 3 0xFFFFFFFFFFFFFFFF []) ∧
        (r.len = len → (at_ || !own) = true → t.chip.Answers n 4 0xFFFFFFFFFFFFFFFF []) ∧
        (r.len = len → at_ = false → own = true → known = false → t.chip.Answers n 0x0106 0xFFFFFFFFFFFFFFFF []) ∧
        (ok → c.opForced op = none → ∃ p : List Byte, pay p ∧ t.chip.Answers n 0 c.eng.tick p)
    let size (k : Nat) (p : List Byte) : Prop := p.length = k
    let gain (y : Symbol) : GainSlot := (c.cell (c.physOf y.owner)).gain y.loc
    let sched := (sortSched c.cmd.sched).filter (fun e => r.p 0 1 == 255 || e.ch % 8 == r.p 0 1)
    query 0x0102 (.sysInfo ch) 0 h true (size 64) ∧
    query 0x0104 (.sysSched ch) 4 (h && (decide (r.p 0 1 < 8) || decide (r.p 0 1 = 255)) && r.z 1 3) true
      (fun p => p = leBytes 2 sched.length ++ leBytes 2 (min 61 sched.length) ++
        (sched.take 61).flatMap (fun e => leBytes 2 e.op ++ leBytes 1 (e.ch % 8) ++ [0] ++ leBytes 2 e.seq ++ [0, 0] ++ leBytes 8 e.tick)) ∧
    query 0x0204 (.graphInfo ch) 0 h true (size 32) ∧
    (symOf c.liveSyms r.handle = none → query 0x0302 (.paramRead ch) 0 true false (fun _ => True)) ∧
    (symOf c.liveSyms r.handle = some y → y.kind = 2 → query 0x0302 (.paramRead ch) 0 true true (fun p => p = leBytes 4 (gain y).tgt.toNat)) ∧
    ((∀ y : Symbol, symOf c.liveSyms r.handle = some y → y.kind ≠ 2) → query 0x0305 (.gainGet ch) 0 true false (fun _ => True)) ∧
    (symOf c.liveSyms r.handle = some y → y.kind = 2 → query 0x0305 (.gainGet ch) 0 true true
      (fun p => p = leBytes 4 (gain y).cur.toNat ++ leBytes 4 (gain y).tgt.toNat ++ leBytes 4 (gain y).floor.toNat ++
        leBytes 2 (gain y).tmo.toNat ++ leBytes 2 (gain y).tmoCnt.toNat)) ∧
    query 0x0402 (.stakeGet ch) 4 (h && decide (1 ≤ r.p 2 2 ∧ r.p 2 2 ≤ 480 ∧ r.p 0 2 + r.p 2 2 ≤ 4944)) true
      (fun p => p = (List.range (r.p 2 2)).flatMap (fun i => leBytes 2 (c.stakeAt (r.p 0 2 + i)).toNat)) ∧
    query 0x0507 (.portStatus ch) 4 (h && r.portOk) true (size 40) ∧
    query 0x0C02 (.cueStatus ch) 4 (h && decide (r.p 0 1 < 2) && r.z 1 3) true (fun p => p = leBytes 4 (c.reg (Reg.CUE_STAT (r.p 0 1))).toNat) ∧
    query 0x0608 (.netStats ch) 4 (h && decide (r.p 0 1 ≤ 2) && r.z 1 1 && decide (r.p 2 2 < if r.p 0 1 = 0 then 4 else 512)) true (size 128) ∧
    query 0x0706 (.datumStatus ch) 0 h true (size 232) ∧
    query 0x0805 (.driveStatus ch) 4 (h && decide (r.p 0 1 < 8) && r.z 1 3) true
      (fun p => let m := r.p 0 1
        p = ([Reg.DRV_MOD_CTRL m, Reg.DRV_MOD_RAIL m, Reg.DRV_MOD_TEMP m, Reg.DRV_MOD_FCARR m] ++
          (List.range 8).flatMap (fun k => [Reg.DRV_CH_STAT (8 * m + k), Reg.DRV_CH_Z (8 * m + k)])).flatMap (fun a => leBytes 4 (c.reg a).toNat)) ∧
    query 0x0901 (.pairStatus ch) 0 h true (size 64) ∧
    query 0x0A03 (.faultStatus ch) 0 h true (size 544) ∧
    query 0x0A04 (.cntRead ch) 4 (h && decide (1 ≤ r.p 2 2 ∧ r.p 2 2 ≤ 96 ∧ r.p 0 2 + r.p 2 2 ≤ 96)) true
      (fun p => p = leBytes 8 c.eng.tick.toNat ++ (List.range (r.p 2 2)).flatMap (fun i => leBytes 2 (c.counter (r.p 0 2 + i))))

/-- R201, R209: the load of an image; `loadReason` is the result of the checks of R209 on the bytes read. -/
def Obligations.GraphLoads : Prop :=
  ∀ (s : State) (ch : BitVec 4) (k a len : Nat),
    let c := s.chip
    let n := ch.toNat
    let r := c.reqOf n
    let free : Prop := ∀ (i b l : Nat) (g : Graph), c.graph.bank ≠ .loading i b l ∧ c.graph.bank ≠ .scheduled g
    let calm := c.graph.retire = none ∧ c.pair.resync = none ∧ c.sys.swap = none ∧
      (c.eng.engine = .staked ∨ c.eng.engine = .running ∨ c.eng.engine = .suspended)
    let addr := r.p 0 8
    let size := r.p 8 4
    let good := r.len = 16 ∧ r.flags.testBit 0 = false ∧ r.handle = 0 ∧ r.z 12 4 = true ∧ addr % 256 = 0 ∧ size % 256 = 0 ∧ 256 ≤ size ∧
      addr + size ≤ c.dramUsable
    let b := memRead c.mem.dram a len
    c.pairEn = false →
    (c.isFresh n 0x0201 = true → good → calm → free → ∃ t : State, exec (.graphLoad ch) s = .next t ∧
      t.chip.graph = { c.graph with bank := .loading n addr size } ∧ t.chip.chan n = { c.chan n with work := .accepted } ∧
      t.chip.mem = c.mem ∧ t.chip.cells = c.cells ∧ t.chip.eng = c.eng ∧ t.chip.regs = c.regs) ∧
    (c.isFresh n 0x0201 = true → ∃ t : State, exec (.graphLoad ch) s = .next t ∧
      (r.len ≠ 16 → OnlyChan n s t ∧ t.chip.Answers n 0x0003 0xFFFFFFFFFFFFFFFF []) ∧
      (good → ¬ free → OnlyChan n s t ∧ t.chip.Answers n 0x0006 0xFFFFFFFFFFFFFFFF [])) ∧
    (c.graph.bank = .loading k a len → k < 16 → Quiet s → ∃ t : State, exec .graphLoadDone s = .next t ∧
      t.chip.graph.live = c.graph.live ∧ t.chip.eng = c.eng ∧ t.chip.mem.dram = c.mem.dram ∧
      (∀ i : Nat, ((c.cell i).power = .on → t.chip.cell i = c.cell i) ∧
        t.chip.cell i = { c.cell i with writes := (t.chip.cell i).writes, power := (t.chip.cell i).power } ∧
        ((t.chip.cell i).power = (c.cell i).power ∨ ((c.cell i).power = .off ∧ (t.chip.cell i).power = .waking))) ∧
      let bad := c.dramRead a len
      (leField b 0 4 ≠ 0x4D49475A → t.chip.graph.bank = .empty ∧ t.chip.Answers k 0x0107 0xFFFFFFFFFFFFFFFF []) ∧
      (versionOk b = true → (bad.2.2 = true ∨ leField b 40 4 ≠ (crc32c (b.take 40 ++ [0, 0, 0, 0] ++ b.drop 44)).toNat) →
        t.chip.graph.bank = .empty ∧ t.chip.Answers k 0x0009 0xFFFFFFFFFFFFFFFF []) ∧
      (bad.1.loadReason b bad.2.2 ≠ 0 → t.chip.graph.bank = .empty ∧ t.chip.cells = c.cells ∧
        t.chip.Answers k (bad.1.loadReason b bad.2.2) 0xFFFFFFFFFFFFFFFF []) ∧
      (bad.1.loadReason b bad.2.2 = 0 → t.chip.graph.bank = .loaded (readGraph b) ∧
        t.chip.Answers k 0 c.eng.tick (leBytes 8 (readGraph b).imageId.toNat))) ∧
    (c.isFresh n 0x0203 = true → r.len = 0 → r.flags.testBit 0 = false → r.handle = 0 → free → c.pair.resync = none →
      ∃ t : State, exec (.graphDiscard ch) s = .next t ∧ t.chip.graph = { c.graph with bank := .empty } ∧ t.chip.Answers n 0 c.eng.tick [])

/-- R213, R214, R217, R219, R221, R245. -/
def Obligations.GraphCommits : Prop :=
  ∀ (s : State) (e : Sched) (g o : Graph) (fd : Fade) (region : BitVec 2),
    let c := s.chip
    let f := (parseReq e.req).p 0 4
    let lineless := g.patch = true ∨ (g.lines = [] ∧ g.taps = [])
    let due := c.EffectDue e 0x0202 ∧ c.graph.bank = .scheduled g ∧ (lineless ∨ Quiet s)
    let live (t : State) (h : Graph) : Prop := t.chip.graph.live = some h ∧ t.chip.graph.bank = .empty ∧ t.chip.cmd.sched = c.cmd.sched.erase e ∧
      t.chip.graph.stake = c.graph.stake ∧ t.chip.eng.tick = c.eng.tick ∧ t.chip.mem.prog = c.mem.prog ∧ t.chip.mem.back = c.mem.back ∧
      (lineless → t.chip.mem = { c.mem with sched := t.chip.mem.sched, schedChk := t.chip.mem.schedChk })
    let anew (t : State) : Prop := t.chip.graph.settled = 0 ∧ (∀ i : Nat, i < 4 → Map.get (fun _ => 0) t.chip.graph.settleCnt i = 0) ∧
      t.chip.regBit Reg.ENG_GRAPH_EVENT 0 = true ∧ (c.eng.engine = .staked → c.pwr.stage < 4 → t.chip.eng.engine = .running) ∧
      (c.eng.engine ≠ .staked ∨ ¬ c.pwr.stage < 4 → t.chip.eng.engine = c.eng.engine)
    let cut (t : State) : Prop := t.chip.graph.fade = none ∧
      ∀ x ∈ g.cells, ∀ j : Nat, j < 64 → (t.chip.cell (c.physOf x.laddr)).pub j = PubSlot.zero
    (due → g.patch = false → f = 0 → ∃ t : State, exec .graphCut s = .next t ∧ live t g ∧ anew t ∧ cut t) ∧
    (due → g.patch = false → f ≠ 0 → c.pwr.stage < 2 → ∃ t : State, exec .graphFadeStart s = .next t ∧ live t g ∧ anew t ∧
      t.chip.graph.fade = some { old := c.graph.live, f := f, j := 0 }) ∧
    (due → g.patch = false → f ≠ 0 → 2 ≤ c.pwr.stage → ∃ t : State, exec .graphCut s = .next t ∧ live t g ∧ anew t ∧ cut t ∧
      t.chip.regBit Reg.ENG_GRAPH_EVENT 3 = true) ∧
    (due → g.patch = true → f = 0 → c.graph.live = some o → ∃ t : State, exec .graphCut s = .next t ∧ live t (o.patched g) ∧
      (o.patched g).imageId = g.imageId ∧ t.chip.graph.fade = c.graph.fade ∧ t.chip.regBit Reg.ENG_GRAPH_EVENT 1 = true ∧
      ∀ x ∈ g.cells, ∀ j : Nat, j < 64 → (t.chip.cell (c.physOf x.laddr)).pub j = PubSlot.zero) ∧
    (c.eng.ticking = true → c.eng.phase = .entry → c.graph.fade = some fd → fd.f ≤ fd.j → ∃ t : State, exec .fadeEnd s = .next t ∧
      t.chip.graph = { c.graph with fade := none } ∧ t.chip.regBit Reg.ENG_GRAPH_EVENT 2 = true ∧ t.chip.eng = c.eng ∧
      t.chip.mem = { c.mem with sched := t.chip.mem.sched, schedChk := t.chip.mem.schedChk }) ∧
    (c.graph.live = some g → g.settle ≤ Map.get (fun _ => 0) c.graph.settleCnt region.toNat → c.graph.settled.testBit region.toNat = false →
      ∃ t : State, exec (.regionSettled region) s = .next t ∧ t.chip.graph = { c.graph with settled := c.graph.settled ||| 2 ^ region.toNat } ∧
        t.chip.cells = c.cells ∧ t.chip.eng = c.eng ∧ t.chip.mem = c.mem) ∧
    ((∀ x : Sched, c.dueNow.head? = some x → x.op ≠ 0x0202) → exec .graphCut s = .next s ∧ exec .graphFadeStart s = .next s)

/-- R149, R195, R196, R224. -/
def Obligations.Retirement : Prop :=
  ∀ (s : State) (e : Sched) (x : Retire),
    let c := s.chip
    let l := (parseReq e.req).p 0 2 / 64
    let p := c.physOf x.laddr
    let q := c.spareOf x.laddr
    let cl := x.laddr / 16
    let a := c.ctt cl (x.laddr % 16)
    let b := c.ctt cl 15
    let copied (t : State) (sp : Space) (n : Nat) : Prop := ∀ i : Nat, i < n →
      t.chip.mem.tile sp (n * q + i) = c.mem.tile sp (n * p + i) ∧
      (marked (t.chip.mem.entry sp (n * q + i)) = true ↔ (marked (c.mem.entry sp (n * p + i)) = true ∨ c.mem.fails sp (n * p + i) = true))
    (c.EffectDue e 0x0205 → ∃ t : State, exec .commandEffect s = .next t ∧ t.chip.cmd.sched = c.cmd.sched.erase e ∧
      t.chip.graph = { c.graph with retire := some { laddr := l, ch := e.ch, shadow := false, wait := false, left := 0 } } ∧
      ((c.cell (c.spareOf l)).power = .off → (t.chip.cell (c.spareOf l)).power = .waking) ∧
      ((c.cell (c.spareOf l)).power ≠ .off → ∀ i : Nat, t.chip.cell i = c.cell i) ∧ t.chip.chain = c.chain ∧ t.chip.mem = c.mem) ∧
    (c.graph.retire = some x → x.shadow = false → (c.cell q).power = .on → Quiet s → q ≠ p → ∃ t : State, exec .retireCopyDone s = .next t ∧
      copied t .prog 128 ∧ copied t .back 512 ∧ (t.chip.cell q).gains = (c.cell p).gains ∧ (t.chip.cell q).subs = (c.cell p).subs ∧
      t.chip.graph = { c.graph with retire := some { x with
        shadow := true, wait := true
        left := match c.liveEntry x.laddr, c.graph.live with
          | some _, some g => max g.settle 64
          | _, _ => 0 } } ∧ t.chip.chain = c.chain) ∧
    (c.graph.retire = some x → x.shadow = true → x.wait = false → x.left = 0 → c.eng.ticking = true → c.eng.phase = .entry →
      ∃ t : State, exec .retireSwap s = .next t ∧ t.chip.ctt cl (x.laddr % 16) = b ∧ t.chip.ctt cl 15 = a ∧ t.chip.graph = { c.graph with retire := none } ∧
        ((c.cell (16 * cl + a)).power = .on → (c.cell (16 * cl + a)).portIdle = true → t.chip.hasWork (16 * cl + a) = false →
          (t.chip.cell (16 * cl + a)).power = .off) ∧
        ((c.cell (16 * cl + a)).power ≠ .on → (t.chip.cell (16 * cl + a)).power = (c.cell (16 * cl + a)).power) ∧ t.chip.Answers x.ch 0 c.eng.tick (leBytes 2 (16 * cl + a) ++ leBytes 2 (16 * cl + b)) ∧
        t.chip.regBit Reg.ENG_GRAPH_EVENT 4 = true) ∧
    (c.graph.retire = some x → (x.shadow = false ∨ x.wait = true ∨ x.left ≠ 0) → exec .retireSwap s = .next s)

/-- R226 to R229. -/
def Obligations.StakeTable : Prop :=
  ∀ (s : State) (ch : BitVec 4) (e : Sched) (bad : Byte),
    let c := s.chip
    let n := ch.toNat
    let r := parseReq e.req
    let idx (i : Nat) : Option Nat := stakeIdx (r.p (4 + 4 * i) 2)
    let q := c.reqOf n
    let at_ := c.stakeNewer
    let copy : Bool := match at_ with
      | some b => !b
      | none => false
    let seq : Nat := match at_ with
      | some b => (leField (c.stakeBytes b) 8 4 + 1) % 2 ^ 32
      | none => 1
    let save := c.isFresh n 0x0403 = true ∧ c.pairEn = false ∧ q.len = 4 ∧ q.flags.testBit 0 = false ∧ q.handle = 0 ∧ 1 ≤ q.p 0 1 ∧ q.p 0 1 ≤ 6 ∧
      q.z 1 3 = true ∧ c.pair.resync = none ∧ c.sys.swap = none
    (c.EffectDue e 0x0401 → (∀ i j : Nat, i < r.p 0 2 → j < r.p 0 2 → i ≠ j → idx i ≠ idx j) → ∃ t : State, exec .commandEffect s = .next t ∧
      t.chip.cmd.sched = c.cmd.sched.erase e ∧
      (∀ i k : Nat, i < r.p 0 2 → idx i = some k → t.chip.stakeAt k = BitVec.ofNat 16 (r.p (6 + 4 * i) 2)) ∧
      (∀ k : Nat, (∀ i : Nat, i < r.p 0 2 → idx i ≠ some k) → t.chip.stakeAt k = c.stakeAt k) ∧ t.chip.graph.stakeMod = true ∧
      t.chip.graph.live = c.graph.live ∧ t.chip.cells = c.cells ∧ t.chip.mem = c.mem) ∧
    (c.EffectDue e 0x0404 → ∃ t : State, exec .commandEffect s = .next t ∧ t.chip.cmd.sched = c.cmd.sched.erase e ∧
      (∀ k : Nat, k < 4944 → t.chip.stakeAt k = Map.get stake0 e.table k) ∧ t.chip.graph.stakeMod = false ∧ t.chip.cells = c.cells) ∧
    ((c.chan n).st = .taken → (c.chan n).work = .checked → q.op = 0x0404 → c.sys.execReady = true → c.sys.execAlive = true → c.pairEn = false →
      c.cmd.takes.head? = some n → c.checkOf n q = 0 → ∃ t : State, exec (.commandAccept ch) s = .next t ∧
        ∃ x : Sched, t.chip.cmd.sched = c.cmd.sched ++ [x] ∧ x.op = 0x0404 ∧ ∀ b : Bool, c.stakePick (q.p 0 1) = some b →
          ∀ k : Nat, k < 4944 → Map.get stake0 x.table k = BitVec.ofNat 16 (leField (c.stakeBytes b) (64 + 2 * k) 2)) ∧
    (save → ∃ t : State, exec (.stakeSave ch none) s = .next t ∧
      (∀ k : Nat, k < 4944 → leField (t.chip.stakeBytes copy) (64 + 2 * k) 2 = (c.stakeAt k).toNat) ∧ leField (t.chip.stakeBytes copy) 8 4 = seq ∧
      leField (t.chip.stakeBytes copy) 12 1 = q.p 0 1 ∧ t.chip.stakeBytes (!copy) = c.stakeBytes (!copy) ∧ t.chip.graph = { c.graph with stakeMod := false } ∧
      t.chip.Answers n 0 c.eng.tick (leBytes 4 seq)) ∧
    (save → bad.toNat < 160 → c.level 27 = 0 → ∃ t : State, exec (.stakeSave ch (some bad)) s = .next t ∧
      t.chip.Answers n 0x0009 0xFFFFFFFFFFFFFFFF [] ∧ t.chip.graph = c.graph ∧
      t.chip.regFld Reg.FLT_FB_CNT 15 0 = min 65535 (c.regFld Reg.FLT_FB_CNT 15 0 + 1))

/-- R149, R191, R224, R234 to R237, R280. -/
def Obligations.ParameterWrites : Prop :=
  ∀ (s : State) (e : Sched) (l : List ((Nat × Nat × List Word) × Symbol)) (hd first : Nat) (ws : List Word) (w : Word) (y : Symbol) (g : Graph),
    let c := s.chip
    let r := parseReq e.req
    let same := ∀ x ∈ e.syms, c.liveSyms.find? (fun z => z.handle == x.handle) = some x
    let tile := (4194304 * (y.owner % 4) + y.loc) / 256
    let fits (size : Nat) := y.loc % 256 + 4 * (first + ws.length) ≤ 256 ∧ y.loc < size
    c.EffectDue e 0x0301 → Quiet s → ∃ t : State, exec .commandEffect s = .next t ∧ t.chip.cmd.sched = c.cmd.sched.erase e ∧
      t.chip.mem.prog = c.mem.prog ∧ t.chip.mem.dram = c.mem.dram ∧ t.chip.chain = { c.chain with taps := t.chip.chain.taps } ∧ t.chip.eng = c.eng ∧
      (∀ i : Nat, { (t.chip.cell i) with gains := (c.cell i).gains, writes := (c.cell i).writes, power := (c.cell i).power } = c.cell i ∧
        ((c.cell i).power = .on → (t.chip.cell i).power = .on ∧ (t.chip.cell i).writes = (c.cell i).writes)) ∧
      (¬ same → t.chip.mem = c.mem ∧ t.chip.cells = c.cells ∧ t.chip.graph = c.graph ∧
        t.chip.regFld Reg.ENG_PARAM_DROP 15 0 = min 65535 (c.regFld Reg.ENG_PARAM_DROP 15 0 + e.syms.length) ∧
        t.chip.regBit Reg.ENG_PARAM_EVENT 0 = true) ∧
      (same → r.paramList.zip e.syms = l ++ [((hd, first, ws), y)] →
        (y.kind = 0 → fits 131072 → ∀ p ∈ c.paramCells y.owner, (c.cell p).power = .on → ∀ j : Nat, j < ws.length →
          memWord t.chip.mem.back (131072 * p + y.loc + 4 * (first + j)) = ws.getD j 0) ∧
        (y.kind = 0 → ∀ p ∈ c.paramCells y.owner, (c.cell p).power ≠ .on → ((c.cell p).power = .off → (t.chip.cell p).power = .waking) ∧
          ∃ u : List PortWrite, (t.chip.cell p).writes = u ++
            [{ back := true, addr := y.loc + 4 * first, bytes := ws.flatMap (fun w => leBytes 4 w.toNat), whole := none }]) ∧
        (y.kind = 1 → fits 4194304 → ∀ j : Nat, j < ws.length →
          memWord t.chip.mem.region (4194304 * (y.owner % 4) + y.loc + 4 * (first + j)) = ws.getD j 0) ∧
        (y.kind = 1 → fits 4194304 → l = [] → 1 ≤ ws.length →
          (ws.length < 64 → (marked (c.mem.entry .region tile) = true ∨ c.mem.fails .region tile = true) →
            marked (t.chip.mem.entry .region tile) = true ∧
            t.chip.regFld Reg.ENG_PARAM_MARK 15 0 = min 65535 (c.regFld Reg.ENG_PARAM_MARK 15 0 + 1)) ∧
          ((ws.length = 64 ∨ (marked (c.mem.entry .region tile) = false ∧ c.mem.fails .region tile = false)) →
            marked (t.chip.mem.entry .region tile) = false ∧ t.chip.mem.fails .region tile = false ∧ t.chip.regs = c.regs)) ∧
        (y.kind = 2 → ws = [w] → ∀ p ∈ c.paramCells y.owner, (t.chip.cell p).gain y.loc =
          { ((c.cell p).gain y.loc) with cur := w, tgt := w, tmoCnt := ((c.cell p).gain y.loc).tmo }) ∧
        (y.kind = 3 → ws = [w] → c.graph.live = some g → ∃ h : Graph, t.chip.graph.live = some h ∧
          ∀ x ∈ h.taps, x.region = y.owner % 4 → x.tap = y.loc → x.delay = w.toNat))

/-- R224, R234, R241 to R244; `IsDb` says that a number is the gain of a level. -/
def Obligations.GainCommands : Prop :=
  ∀ (s : State) (e : Sched) (l : List Symbol) (y : Symbol) (raw : Word) (g : Int),
    let c := s.chip
    let r := parseReq e.req
    let o := 4 + 16 * l.length
    let same := ∀ x ∈ e.syms, c.liveSyms.find? (fun z => z.handle == x.handle) = some x
    let fl := r.p (o + 8) 1
    let v := gainTarget (BitVec.ofNat 32 (r.p (o + 4) 4)) (fl.testBit 0)
    let st : Int := r.p (o + 4) 2
    let hz : Nat := match c.eng.rate with
      | some x => x.hz
      | none => 0
    let kept (t : State) : Prop := t.chip.cmd.sched = c.cmd.sched.erase e ∧ t.chip.mem = c.mem ∧ t.chip.graph = c.graph ∧ t.chip.eng = c.eng ∧
      (∀ i : Nat, { (t.chip.cell i) with gains := (c.cell i).gains } = c.cell i) ∧
      (¬ same → t.chip.cells = c.cells ∧ t.chip.regFld Reg.ENG_PARAM_DROP 15 0 = min 65535 (c.regFld Reg.ENG_PARAM_DROP 15 0 + e.syms.length))
    (c.EffectDue e 0x0303 → ∃ t : State, exec .commandEffect s = .next t ∧ kept t ∧ (same → e.syms = l ++ [y] → ∀ p ∈ c.paramCells y.owner,
      let q := (t.chip.cell p).gain y.loc
      let old := (c.cell p).gain y.loc
      q.tgt = v ∧ q.tmoCnt = old.tmo ∧ q.stepUp = old.stepUp ∧ q.stepDn = old.stepDn ∧ q.floor = old.floor ∧ q.tmo = old.tmo ∧
        (fl.testBit 1 = true → q.cur = v) ∧ (fl.testBit 1 = false → l = [] → q.cur = old.cur))) ∧
    (c.EffectDue e 0x0304 → ∃ t : State, exec .commandEffect s = .next t ∧ kept t ∧ (same → e.syms = l ++ [y] → ∀ p ∈ c.paramCells y.owner,
      let q := (t.chip.cell p).gain y.loc
      let old := (c.cell p).gain y.loc
      q.cur = old.cur ∧ q.tgt = old.tgt ∧ q.tmoCnt = old.tmoCnt ∧ q.tmo = BitVec.ofNat 16 ((r.p (o + 6) 2 * hz + 9999) / 10000) ∧
        (10 ≤ st → st ≤ 1200 → IsDb q.stepUp.toNat st ∧ IsDb q.stepDn.toNat (-st)) ∧
        (-14400 ≤ (BitVec.ofNat 32 (r.p (o + 8) 4)).toInt → (BitVec.ofNat 32 (r.p (o + 8) 4)).toInt ≤ 0 →
          IsDb q.floor.toNat (BitVec.ofNat 32 (r.p (o + 8) 4)).toInt))) ∧
    gainTarget raw true = raw ∧ gainTarget 0x80000000 false = 0 ∧
    (raw.toInt = g → -14400 ≤ g → g ≤ 1806 → IsDb (gainTarget raw false).toNat g)

/-- R249, R250, R252, R253. -/
def Obligations.TailStreams : Prop :=
  ∀ (s : State) (e : Sched) (region : BitVec 2) (stream : BitVec 6) (first : Half) (bad : Option (BitVec 10)) (w : Tail),
    let c := s.chip
    let r := parseReq e.req
    let n := r.p 0 2
    let num (i : Nat) : Nat := 64 * r.p (8 + 32 * i) 1 + r.p (9 + 32 * i) 1
    let k := 64 * region.toNat + stream.toNat
    let ring (j : Nat) : Nat := 16384 * region.toNat + w.ringTile j
    let group (g : Nat) (i : Nat) : Nat := g * w.tiles + i
    let q := w.periods
    let lost (sp : Space) (j : Nat) : Prop := marked (c.mem.entry sp j) = true ∨ c.mem.fails sp j = true
    (c.EffectDue e 0x0306 → (∀ i j : Nat, i < n → j < n → i ≠ j → num i ≠ num j) → ∃ t : State, exec .commandEffect s = .next t ∧
      (∀ i : Nat, i < n → ∃ d : Tail, t.chip.tail (num i) = some d ∧ d.write = decide (r.p (10 + 32 * i) 1 = 1) ∧ d.dramBase = r.p (12 + 32 * i) 4 ∧
        d.dramTiles = r.p (16 + 32 * i) 4 ∧ d.ringBase = r.p (20 + 32 * i) 2 ∧ d.tiles = r.p (22 + 32 * i) 2 ∧ d.group = r.p (24 + 32 * i) 4 ∧
        d.skip = r.p (28 + 32 * i) 4 ∧ d.ticks = 0 ∧ d.periods = 0) ∧
      (∀ j : Nat, (∀ i : Nat, i < n → num i ≠ j) → t.chip.tail j = c.tail j) ∧ t.chip.mem = c.mem ∧ t.chip.cells = c.cells) ∧
    (c.EffectDue e 0x0307 → ∃ t : State, exec .commandEffect s = .next t ∧ ∀ j : Nat, t.chip.tail j =
      if (r.p 0 1 = 255 ∨ j / 64 = r.p 0 1) ∧ (r.p 1 1 = 255 ∨ j % 64 = r.p 1 1) then none else c.tail j) ∧
    (c.traversed = false → exec (.tailPeriod region ⟨stream, bad⟩) s = .next s) ∧
    (c.tail k = some w → c.traversed = true → 32 * q ≤ w.ticks → Quiet s → ∃ t : State, exec (.tailPeriod region ⟨stream, bad⟩) s = .next t ∧
      t.chip.tail k = some { w with periods := q + 1 } ∧
      (w.write = false → t.chip.mem.dram = c.mem.dram ∧ (q < 2 → t.chip.mem = c.mem) ∧
        (2 ≤ q → ∀ i : Nat, i < w.tiles →
          ((∀ b : BitVec 10, bad = some b → b.toNat ≠ i) →
            t.chip.mem.tile .region (ring (group (q - 2) i)) = c.mem.tile .dram (w.dramTile (group (q - 2) i))) ∧
          (marked (t.chip.mem.entry .region (ring (group (q - 2) i))) = true ↔
            (lost .dram (w.dramTile (group (q - 2) i)) ∨ ∃ b : BitVec 10, bad = some b ∧ b.toNat = i)))) ∧
      (w.write = true → t.chip.mem.region = c.mem.region ∧ (q < 1 → t.chip.mem = c.mem) ∧
        (1 ≤ q → (∀ i j : Nat, i < w.tiles → j < w.tiles → i ≠ j → w.dramTile (group (q - 1) i) ≠ w.dramTile (group (q - 1) j)) →
          ∀ i : Nat, i < w.tiles → t.chip.mem.tile .dram (w.dramTile (group (q - 1) i)) = c.mem.tile .region (ring (group (q - 1) i)) ∧
            (marked (t.chip.mem.entry .dram (w.dramTile (group (q - 1) i))) = true ↔ lost .region (ring (group (q - 1) i)))))) ∧
    (c.tail k = some w → (if w.write then 4 else 3) ≤ q → c.level 2 = 0 → ∃ t : State, exec (.tailGroupLate region stream first) s = .next t ∧
      (w.write = false → ∀ i : Nat, first.toNat ≤ i → i < w.tiles → marked (t.chip.mem.entry .region (ring (group (q - 3) i))) = true) ∧
      (w.write = true → t.chip.mem.region = c.mem.region ∧ ∀ i : Nat, i < w.tiles →
        marked (t.chip.mem.entry .dram (w.dramTile (group (q - 4) i))) = true ∧
        t.chip.mem.tile .dram (w.dramTile (group (q - 4) i)) = c.mem.tile .dram (w.dramTile (group (q - 4) i))) ∧
      t.chip.regFld Reg.ENG_TAIL_LATE 15 0 = min 65535 (c.regFld Reg.ENG_TAIL_LATE 15 0 + 1) ∧
      t.chip.regFld Reg.ENG_TAIL_LATE 23 16 = k ∧ t.chip.regBit Reg.ENG_TAIL_LATE 24 = w.write ∧
      t.chip.regFld Reg.ENG_LATE_CNT 15 0 = min 65535 (c.regFld Reg.ENG_LATE_CNT 15 0 + 1) ∧ t.chip.tail k = some w)

/-- R121, R122, R128, R131, R133, R134, R175 to R177. -/
def Obligations.TileMovesComplete : Prop :=
  ∀ (s : State) (cell : BitVec 9) (slot : BitVec 3) (tile : BitVec 7) (bad : Bool) (m : Move) (g : Streamer) (r : Nat × Nat) (f : Fetch),
    let c := s.chip
    let i := cell.toNat
    let x := c.cell i
    let n := slot.toNat
    let space (region : Bool) : Space := if region then .region else .back
    let at_ (region : Bool) (t : Nat) : Nat := if region then 16384 * (i / 128) + t else 512 * i + t
    let mk (region : Bool) (t : Nat) : Bool := marked (c.mem.entry (space region) (at_ region t))
    let fails (region : Bool) (t : Nat) : Bool := (bad && !mk region t) || c.mem.fails (space region) (at_ region t)
    let arrived (t : State) (region : Bool) (k : Nat) : Prop :=
      (∀ w : Nat, w < 64 → ((t.chip.cell i).word (64 * n + w)).p = (mk region k || fails region k)) ∧
      (¬ (bad = true ∧ mk region k = false) → ∀ w : Nat, w < 64 → ((t.chip.cell i).word (64 * n + w)).v =
        BitVec.ofNat 32 (leField (c.mem.tile (space region) (at_ region k)) (4 * w) 4)) ∧
      (∀ w : Nat, w / 64 ≠ n → (t.chip.cell i).word w = x.word w) ∧
      t.chip.regFld Reg.ENG_TCHK_CNT 15 0 = min 65535 (c.regFld Reg.ENG_TCHK_CNT 15 0 + if fails region k then 1 else 0) ∧
      t.chip.mem = c.mem ∧ (t.chip.cell i).d = x.d ∧ ∀ j : Nat, j ≠ i → t.chip.cell j = c.cell j
    let pm := marked (c.mem.entry .prog (128 * i + tile.toNat))
    let pf := !pm && (bad || c.mem.fails .prog (128 * i + tile.toNat))
    (x.moves.find? (fun m => m.slot == n) = some m → m.store = true → ∃ t : State, exec (.tileMoveComplete cell slot bad) s = .next t ∧
      t.chip.mem.tile (space m.region) (at_ m.region m.tile) = (List.range 64).flatMap (fun w => leBytes 4 (x.word (64 * n + w)).v.toNat) ∧
      (marked (t.chip.mem.entry (space m.region) (at_ m.region m.tile)) = true ↔ ∃ w : Nat, w < 64 ∧ (x.word (64 * n + w)).p = true) ∧
      t.chip.mem.fails (space m.region) (at_ m.region m.tile) = false ∧ (t.chip.cell i).moves = x.moves.filter (fun m => m.slot != n) ∧
      t.chip.regs = c.regs) ∧
    (x.moves.find? (fun m => m.slot == n) = some m → m.store = false → Quiet s → ∃ t : State, exec (.tileMoveComplete cell slot bad) s = .next t ∧
      arrived t m.region m.tile ∧ (t.chip.cell i).moves = x.moves.filter (fun m => m.slot != n)) ∧
    (x.streamer = some g → g.refills.find? (fun q => q.1 == n) = some r → Quiet s → ∃ t : State, exec (.streamerRefillDone cell slot bad) s = .next t ∧
      arrived t g.cfg.region (g.cfg.first + r.2) ∧
      (let rest := g.refills.filter (fun q => q.1 != n)
       (¬ (g.stopping = true ∧ rest = []) → (t.chip.cell i).streamer = some { g with refills := rest }) ∧
       (g.stopping = true → rest = [] → g.restart = none → (t.chip.cell i).streamer = none))) ∧
    (c.fetchOf i tile.toNat = some f → pm = false → pf = false → ∃ t : State, exec (.fetchComplete cell tile bad) s = .next t ∧
      (t.chip.cell i).fetched.head? = some tile.toNat ∧ (x.fetched.length ≤ 4 → x.fetched.Nodup → (t.chip.cell i).fetched.length ≤ 4) ∧
      (t.chip.cell i).fetches = x.fetches.filter (fun q => q.tile != tile.toNat) ∧ t.chip.regs = c.regs) ∧
    (c.fetchOf i tile.toNat = some f → (pm || pf) = true → f.second = false → Quiet s → ∃ t : State, exec (.fetchComplete cell tile bad) s = .next t ∧
      (t.chip.cell i).fetches = x.fetches.filter (fun q => q.tile != tile.toNat) ++ [{ f with second := true }] ∧
      (t.chip.cell i).fetched = x.fetched ∧
      t.chip.regFld Reg.ENG_TCHK_CNT 15 0 = min 65535 (c.regFld Reg.ENG_TCHK_CNT 15 0 + if pf then 1 else 0)) ∧
    (c.fetchOf i tile.toNat = some f → (pm || pf) = true → f.second = true → Quiet s → ∃ t : State, exec (.fetchComplete cell tile bad) s = .next t ∧
      (t.chip.cell i).sticky.getLsbD 7 = true ∧
      (f.trav = true → x.ctx = .traverse → (t.chip.cell i).ctx = .idle ∧ (t.chip.cell i).legDone = true) ∧
      (f.back = true → x.ctx = .background → (t.chip.cell i).ctx = .idle ∧ (t.chip.cell i).bg = .abandoned) ∧
      (f.back = true → x.bg = .ready → (t.chip.cell i).bg = .abandoned) ∧ (f.lead = true → (t.chip.cell i).fetchFailed = true))

/-- R92, R147 to R149, R224, R291; that a woken cell waits for tick entry is read from R148. -/
def Obligations.CellPower : Prop :=
  ∀ (s : State) (cell : BitVec 9) (r : Retire) (w : PortWrite),
    let c := s.chip
    let i := cell.toNat
    let x := c.cell i
    let others (t : State) : Prop := ∀ j : Nat, j ≠ i → t.chip.cell j = c.cell j
    (c.sys.up = true → c.pwr.stage < 4 → x.power = .off → ∃ t : State, exec (.wakeEvent cell) s = .next t ∧
      t.chip.cell i = { x with power := .waking } ∧ others t ∧ t.chip.regs = c.regs ∧ t.chip.eng = c.eng) ∧
    (x.power = .waking → (x.writes = [] ∨ Quiet s) → ∃ t : State, exec (.cellOn cell) s = .next t ∧ others t ∧
      (x.writes = [] → t.chip.regs = c.regs ∧ t.chip.mem = c.mem) ∧ (t.chip.cell i).writes = [] ∧
      (∀ mk : Bool, x.writes = [w] → w.whole = some mk → w.bytes.length = 256 →
        let sp : Space := if w.back then .back else .prog
        let k := ((if w.back then 131072 else 32768) * i + w.addr) / 256
        t.chip.mem.tile sp k = w.bytes ∧ marked (t.chip.mem.entry sp k) = mk ∧ t.chip.mem.fails sp k = false) ∧
      (let y := t.chip.cell i
       y.power = .on ∧ y.fresh = true ∧ (∀ k : Nat, y.rd k = Sample.zero ∧ y.ra k = AccReg.zero ∧ (y.p k).v = 0) ∧ y.sr = 0 ∧
       y.ctx = .idle ∧ y.streamer = none ∧ y.moves = x.moves ∧ y.fetched = [] ∧
       y.bg = (if c.progs i = [] then .noProgram else .waiting) ∧
       (c.progs i ≠ [] → y.bpc = BitVec.ofNat 12 (c.restartOf i)))) ∧
    (x.power = .waking → c.level 8 = 0 → ∃ t : State, exec (.wakeFail cell) s = .next t ∧ (t.chip.cell i).dead = true ∧
      (t.chip.bellFlag (36 + i / 16)).getLsbD (i % 16) = true ∧
      t.chip.regFld Reg.ENG_MBX_CNT 15 0 = min 65535 (c.regFld Reg.ENG_MBX_CNT 15 0 + 1) ∧ t.chip.regFld Reg.ENG_MBX_LAST 31 30 = 2 ∧
      t.chip.regFld Reg.ENG_MBX_LAST 15 14 = i / 128 ∧ t.chip.regFld Reg.ENG_MBX_LAST 13 11 = i / 16 % 8 ∧
      t.chip.regFld Reg.ENG_MBX_LAST 10 6 = i % 16 ∧ t.chip.regBit Reg.ENG_MBX_EVENT 0 = true ∧
      (c.graph.retire = none → others t ∧ (t.chip.cell i).power = .wakeFail) ∧
      (c.graph.retire = some r → c.spareOf r.laddr ≠ i → others t ∧ (t.chip.cell i).power = .wakeFail ∧ t.chip.graph = c.graph) ∧
      (c.graph.retire = some r → c.spareOf r.laddr = i → t.chip.graph.retire = none ∧ (t.chip.cell i).power = .off ∧ t.chip.Answers r.ch 0x0007 0xFFFFFFFFFFFFFFFF [] ∧
        t.chip.chain = c.chain ∧ others t)) ∧
    (x.power ≠ .off → exec (.wakeEvent cell) s = .next s) ∧ (x.power ≠ .waking → exec (.cellOn cell) s = .next s ∧ exec (.wakeFail cell) s = .next s)

/-- R176 to R178, R193, R194, R199; when a late tile reaches DRAM is read from R194 (log entry 49). -/
def Obligations.DelayTiles : Prop :=
  ∀ (s : State) (region : BitVec 2) (tap : BitVec 10) (tile : BitVec 18) (bad : Bool) (tp : Tap) (d : Line) (tiles : List (BitVec 9 × BitVec 18))
    (n b : Nat),
    let c := s.chip
    let r := region.toNat
    let k := 1024 * r + tap.toNat
    let st := c.tapSt k
    let ls := c.lineSt (512 * r + d.line)
    let a := ls.w - 1 - tp.delay
    let m := if st.cur.any (fun h => h.lap == a / 64) then a / 64 + 1 else a / 64
    let dst := 16384 * r + b
    let waits := ls.behind.any (fun x => x.lap == n)
    let sp : Space := if waits then .region else .dram
    let src := if waits then 16384 * r + d.buf + n % 2 else d.base + n % d.tiles
    let mk := marked (c.mem.entry sp src)
    let fails := (bad && !mk) || c.mem.fails sp src
    let named (l : Line) (x : Behind) : Prop := ∃ e ∈ tiles, e.1.toNat = l.line ∧ e.2.toNat = x.lap % l.tiles
    let hit (l : Line) : Prop := l ∈ c.linesLive ∧ l.region = r ∧ l.dram = true ∧ ∃ x ∈ (c.lineSt (512 * r + l.line)).behind, named l x
    (c.tapsLive.find? (fun t => t.region == r && t.tap == tap.toNat) = some tp → c.linesLive.find? (fun l => l.region == r && l.line == tp.line) = some d →
      d.dram = true → 2 ≤ d.tiles → tile.toNat = n % d.tiles → (n = m ∨ n = m + 1) → n < ls.w / 64 → n ∉ st.ahead → c.tapBuf tp n = some b → Quiet s →
      ∃ t : State, exec (.dramReadaheadDone region tap tile bad) s = .next t ∧
        t.chip.tapSt k = { st with ahead := st.ahead.filter (fun j => j + 1 == n || j == n + 1) ++ [n] } ∧
        (∀ j : Nat, j ≠ k → t.chip.tapSt j = c.tapSt j) ∧
        (¬ (bad = true ∧ mk = false) → t.chip.mem.tile .region dst = c.mem.tile sp src) ∧ marked (t.chip.mem.entry .region dst) = (mk || fails) ∧
        t.chip.mem.fails .region dst = false ∧
        (∀ j : Nat, j ≠ dst → t.chip.mem.tile .region j = c.mem.tile .region j ∧ t.chip.mem.entry .region j = c.mem.entry .region j) ∧
        t.chip.mem.dram = c.mem.dram ∧ t.chip.mem.dramChk = c.mem.dramChk ∧ t.chip.cells = c.cells ∧
        t.chip.regFld Reg.DDR_TCHK_CNT 15 0 = min 65535 (c.regFld Reg.DDR_TCHK_CNT 15 0 + if fails && !waits then 1 else 0) ∧
        t.chip.regFld Reg.ENG_TCHK_CNT 15 0 = min 65535 (c.regFld Reg.ENG_TCHK_CNT 15 0 + if fails && waits then 1 else 0)) ∧
    (c.level 2 = 0 → c.traversed = true → (∃ l : Line, hit l) → ∃ t : State, exec (.writeBehindOverflow region tiles) s = .next t ∧
      (∀ (l : Line) (x : Behind), hit l → x ∈ (c.lineSt (512 * r + l.line)).behind → named l x →
        { x with late := true, absent := true } ∈ (t.chip.lineSt (512 * r + l.line)).behind) ∧
      (∀ j : Nat, (t.chip.lineSt j).w = (c.lineSt j).w ∧ (t.chip.lineSt j).behind.map (fun x => (x.lap, x.age)) = (c.lineSt j).behind.map (fun x => (x.lap, x.age)) ∧
        ((∀ l : Line, hit l → j ≠ 512 * r + l.line) → t.chip.lineSt j = c.lineSt j)) ∧
      t.chip.mem = c.mem ∧ t.chip.chain.dlyLate.testBit r = true ∧
      t.chip.regFld Reg.ENG_LATE_CNT 15 0 = min 65535 (c.regFld Reg.ENG_LATE_CNT 15 0 + if c.chain.dlyLate.testBit r then 0 else 1) ∧
      (c.chain.dlyLate.testBit r = false → ∃ l : Line, hit l ∧
        t.chip.regFld Reg.ENG_LATE_LAST 15 0 = (32768 + 0x6000 + 512 * r + l.line) % 65536 ∧ ∀ u : Line, hit u → l.line ≤ u.line)) ∧
    (c.traversed = false ∨ (∀ l : Line, ¬ hit l) → exec (.writeBehindOverflow region tiles) s = .next s)

/-- R40, R61, R180, R288, R350. -/
def Obligations.HostReads : Prop :=
  ∀ (s : State) (eng : Bool) (addr : Word) (off : BitVec 30) (foff : BitVec 18) (wide : Bool) (tick : DWord),
    let c := s.chip
    let lo := if eng then 0xE0000 else 0x8
    let n := if wide then 8 else 4
    let only (t : State) : Prop := { t.chip with host := c.host } = c ∧ t.pending = s.pending
    let region := off.toNat - 0x1000000
    let dram := c.regFld Reg.GCTL_DRAM_WIN 4 0 * 2 ^ 30 + off.toNat
    let got (t : State) (sp : Space) (a : Nat) : Prop := t.chip.host.rsp.data = BitVec.ofNat 64 (leNat (memRead (c.mem.bytes sp) a n)) ∧
      t.chip.host.rsp.status = (if c.mem.fails sp (a / 256) = true ∨ marked (c.mem.entry sp (a / 256)) = true then 3 else 1) ∧ t.chip.mem = c.mem ∧
      t.chip.eng = c.eng ∧ t.chip.cells = c.cells
    (c.pfUp false = true → ∃ t : State, exec (.tickLoRead eng) s = .next t ∧ only t ∧
      t.chip.host.rsp = { status := 1, data := BitVec.ofNat 64 (c.eng.tick.toNat % 2 ^ 32) } ∧
      ({ t.chip with eng := { t.chip.eng with tick := tick } }).regRead (lo + 4) = (c.eng.tick >>> 32).setWidth 32) ∧
    (c.pfUp false = true → latchOf addr.toNat ≠ [] → c.gatedAt addr.toNat = none → ∃ t : State, exec (.latchedLoRead addr) s = .next t ∧
      { t.chip with host := c.host } = c.openGates addr.toNat ∧ t.pending = s.pending ∧
      t.chip.host.rsp = { status := 1, data := BitVec.ofNat 64 (c.regRead addr.toNat).toNat } ∧
      ∀ h ∈ latchOf addr.toNat, t.chip.regRead h = c.regLive h) ∧
    (c.pfUp false = true → off.toNat % n = 0 → 0x1000000 ≤ off.toNat → off.toNat < 0x2000000 → Quiet s →
      ∃ t : State, exec (.hostMemoryWindowAccess false off wide none) s = .next t ∧ got t .region region) ∧
    (c.pfUp false = true → off.toNat % n = 0 → dram + n ≤ c.dramUsable → Quiet s →
      ∃ t : State, exec (.hostMemoryWindowAccess true off wide none) s = .next t ∧ got t .dram dram) ∧
    (c.pfUp true = true → c.cmd.session.isOpen = true → foff.toNat % n = 0 → ∃ t : State, exec (.fieldbookWindowRead foff wide) s = .next t ∧ only t ∧
      t.chip.host.rsp = { status := 1, data := BitVec.ofNat 64 (leNat (memRead c.sys.fieldBook foff.toNat n)) })

/-- R36, R37, R39, R41, R181, R288, R353; the answer with Completer Abort is the own effect of the row HOST_ACCESS_ABORT. BAR spaces 0 (PF0 BAR0), 1 (PF0 BAR2) and 2 (PF1 BAR0). -/
def Obligations.HostAborts : Prop :=
  ∀ (s : State) (space : BitVec 2) (off : BitVec 30) (len : BitVec 4) (write wide : Bool) (foff : BitVec 18) (w : Option TlpWrite) (v : DWord) (u : Nat),
    let c := s.chip
    let o := off.toNat
    let aborted (i : Instr) (sp a : Nat) : Prop := ∃ t : State, exec i s = .next t ∧ t.chip.host.rsp = { status := 2, data := 0 } ∧
      t.chip.host.latches = c.host.latches ∧ t.chip.regFld Reg.GCTL_ABORT_CNT 15 0 = min 65535 (c.regFld Reg.GCTL_ABORT_CNT 15 0 + 1) ∧
      t.chip.regFld Reg.GCTL_ABORT_LAST 31 30 = sp ∧ t.chip.regFld Reg.GCTL_ABORT_LAST 29 0 = a ∧
      (∀ r : Nat, r ≠ Reg.GCTL_ABORT_CNT → r ≠ Reg.GCTL_ABORT_LAST → t.chip.reg r = c.reg r) ∧ { t.chip with host := c.host, regs := c.regs } = c
    let aligned (l : Nat) : Prop := (l = 4 ∧ o % 4 = 0) ∨ (l = 8 ∧ o % 8 = 0)
    let n := if wide then 8 else 4
    let rule : Prop := ¬ aligned len.toNat ∨ (space = 0 ∧ ¬ (o < 0xF0000 ∨ (0x1000000 ≤ o ∧ o < 0x2000000))) ∨
      (space = 1 ∧ c.dramUsable < c.regFld Reg.GCTL_DRAM_WIN 4 0 * 2 ^ 30 + o + len.toNat) ∨
      (space = 2 ∧ ¬ (0x10000 ≤ o ∧ o < 0x20000) ∧ (¬ (0x100000 ≤ o ∧ o < 0x140000) ∨ write = true ∨ c.cmd.session.isOpen = false))
    (c.pfUp (decide (space = 2)) = true → space ≠ 3 → rule → aborted (.hostAccessAbort space off len write) space.toNat o) ∧
    (¬ rule → space ≠ 3 → exec (.hostAccessAbort space off len write) s = .next s) ∧
    (c.pfUp false = true → (∀ x : TlpWrite, w = some x → x.poison = false) → (o % n ≠ 0 ∨ 0x2000000 ≤ o) → aborted (.hostMemoryWindowAccess false off wide w) 0 o) ∧
    (c.pfUp false = true → (∀ x : TlpWrite, w = some x → x.poison = false) → (o % n ≠ 0 ∨ c.dramUsable < c.regFld Reg.GCTL_DRAM_WIN 4 0 * 2 ^ 30 + o + n) →
      aborted (.hostMemoryWindowAccess true off wide w) 1 o) ∧
    (c.pfUp true = true → (foff.toNat % n ≠ 0 ∨ c.cmd.session.isOpen = false) → aborted (.fieldbookWindowRead foff wide) 2 (0x100000 + foff.toNat)) ∧
    (c.pfUp false = true → 0xF0000 ≤ o → o < 0x1000000 → aborted (.registerWrite (off.setWidth 32) wide ⟨v, false⟩) 0 o) ∧
    (c.pfUp false = true → o % n = 0 → (o / 65536, u) ∈ [(5, 0), (13, 1), (6, 2), (7, 3)] → c.regBit Reg.CLK_GATE_FORCE u = true →
      ∀ i ∈ [Instr.registerWrite (off.setWidth 32) wide ⟨v, false⟩, Instr.latchedLoRead (off.setWidth 32)],
        (i = .latchedLoRead (off.setWidth 32) → latchOf o ≠ []) → ∃ t : State, exec i s = .next t ∧ t.chip.host.rsp = { status := 2, data := 0 } ∧
          t.chip.regFld Reg.GCTL_ABORT_CNT 15 0 = min 65535 (c.regFld Reg.GCTL_ABORT_CNT 15 0 + 1) ∧
          t.chip.regFld Reg.CLK_FORCE_HIT 15 0 = min 65535 (c.regFld Reg.CLK_FORCE_HIT 15 0 + 1) ∧ t.chip.regFld Reg.CLK_FORCE_HIT 31 29 = u ∧
          t.chip.regBit Reg.CLK_EVENT 4 = true ∧ { t.chip with host := c.host, regs := c.regs } = c ∧
          ∀ r : Nat, r ∉ [Reg.GCTL_ABORT_CNT, Reg.GCTL_ABORT_LAST, Reg.CLK_FORCE_HIT, Reg.CLK_EVENT] → t.chip.reg r = c.reg r)

/-- R12 to R14, R38, R41, R43, R45, R87, R179, R260, R350; the registers with an action of their own on a write are left out of the first
clause. -/
def Obligations.HostWrites : Prop :=
  ∀ (s : State) (addr : Word) (v : Word) (d : DWord) (r : RegRow) (on wide bar2 : Bool) (off : BitVec 30),
    let c := s.chip
    let a := addr.toNat
    let n := if wide then 8 else 4
    let plain : Prop := isClear a = false ∧ a ∉ [Reg.FLT_UNACK, Reg.PWR_RESET_CAUSE, Reg.CLK_GATE_FORCE, Reg.CLK_OBS, Reg.GCTL_DEBUG, Reg.PAIR_SIG_TAKE] ∧
      (∀ k : Nat, k < 8 → a ≠ Reg.CMD_DOORBELL k ∧ a ≠ Reg.CMD_TIMEOUT k ∧ ∀ w : Nat, w < 256 → a ≠ Reg.CMD_REQ k w) ∧
      (∀ k : Nat, k < 16 → a ≠ Reg.DMA_CH_CTRL k) ∧ (∀ k : Nat, k < 4 → a ≠ Reg.NET_RXQ_TAIL k ∧ a ≠ Reg.NET_SNAP k)
    let onlyRegs (t : State) (l : List Nat) : Prop := (∀ b : Nat, b ∉ l → t.chip.reg b = c.reg b) ∧ { t.chip with regs := c.regs } = c ∧ t.pending = s.pending
    let clears (reg : Nat) (bits : List (List Nat)) : Prop := ∃ t : State, exec (.registerWrite (BitVec.ofNat 32 reg) false ⟨v.setWidth 64, false⟩) s = .next t ∧
      onlyRegs t bits.flatten ∧ ∀ i : Nat, i < bits.length → ∀ b ∈ bits.getD i [], t.chip.reg b = if v.getLsbD i then regReset b else c.reg b
    let wrote (t : State) (sp : Space) (b : Nat) : Prop := (∀ i : Nat, memRead (t.chip.mem.bytes sp) i 1 =
        if b ≤ i ∧ i < b + n then [BitVec.ofNat 8 (d.toNat / 256 ^ (i - b))] else memRead (c.mem.bytes sp) i 1) ∧
      (marked (t.chip.mem.entry sp (b / 256)) = true ↔ (marked (c.mem.entry sp (b / 256)) = true ∨ c.mem.fails sp (b / 256) = true)) ∧
      (∀ k : Nat, k ≠ b / 256 → t.chip.mem.entry sp k = c.mem.entry sp k) ∧ t.chip.eng = c.eng ∧ t.chip.cells = c.cells
    let dram := c.regFld Reg.GCTL_DRAM_WIN 4 0 * 2 ^ 30 + off.toNat
    (c.pfUp false = true → a < 0xF0000 → a % 4 = 0 → plain → c.gatedAt a = none → regRow a = some r → ∃ t : State, exec (.registerWrite addr false ⟨v.setWidth 64, false⟩) s = .next t ∧
      { t.chip with regs := c.regs } = c ∧ t.pending = s.pending ∧ (∀ b : Nat, b ≠ a → t.chip.reg b = (c.openGates a).reg b) ∧
      ∀ i : Nat, i < 32 → t.chip.regBit a i =
        if r.rw.testBit i then v.getLsbD i else if r.w1c.testBit i && v.getLsbD i then false else c.regBit a i) ∧
    (c.pfUp false = true → a < 0xF0000 → a % 4 = 0 → plain → c.gatedAt a = none → regRow a = none →
      exec (.registerWrite addr false ⟨v.setWidth 64, false⟩) s = .next { s with chip := c.openGates a }) ∧
    (c.pfUp (decide (0x80000000 ≤ a)) = true → exec (.registerWrite addr wide ⟨d, true⟩) s =
      .next { s with chip := { c with host := { c.host with rsp := { status := 4, data := 0 } } } }) ∧
    (c.pfUp false = true → exec (.hostMemoryWindowAccess bar2 off wide (some ⟨d, true⟩)) s =
      .next { s with chip := { c with host := { c.host with rsp := { status := 4, data := 0 } } } }) ∧
    (c.pfUp false = true → clears Reg.GCTL_CNT_CLR [[Reg.GCTL_ABORT_CNT, Reg.GCTL_ABORT_LAST]] ∧
      clears Reg.ENG_CNT_CLR [[Reg.ENG_CLOSURE_OVR, Reg.ENG_CLOSURE_LAST], [Reg.ENG_HELD_CNT], [Reg.ENG_MARGIN_MIN]] ∧
      clears Reg.ENG_CHAIN_CLR [[Reg.ENG_TCHK_CNT, Reg.ENG_TCHK_LAST], [Reg.ENG_LATE_CNT, Reg.ENG_LATE_LAST],
        [Reg.ENG_COLL_CNT, Reg.ENG_COLL_LAST], [Reg.ENG_MUTE_CNT, Reg.ENG_MUTE_LAST], [Reg.ENG_DLY_MARGIN]]) ∧
    (c.pfUp false = true → ∃ t : State, exec (.dramWinWrite v) s = .next t ∧ onlyRegs t [Reg.GCTL_DRAM_WIN] ∧
      t.chip.regFld Reg.GCTL_DRAM_WIN 4 0 = v.toNat % 32) ∧
    (c.pfUp false = true → ∃ t : State, exec (.msixCollapseWrite on) s = .next t ∧ onlyRegs t [Reg.GCTL_MSIX_ROUTE] ∧
      t.chip.regBit Reg.GCTL_MSIX_ROUTE 0 = on ∧ t.chip.msix = c.msix) ∧
    (c.pfUp false = true → ∃ t : State, exec .abortClr s = .next t ∧ onlyRegs t [Reg.GCTL_ABORT_CNT, Reg.GCTL_ABORT_LAST] ∧
      t.chip.reg Reg.GCTL_ABORT_CNT = 0 ∧ t.chip.reg Reg.GCTL_ABORT_LAST = 0) ∧
    (c.pfUp false = true → off.toNat % n = 0 → 0x1000000 ≤ off.toNat → off.toNat < 0x2000000 → Quiet s →
      ∃ t : State, exec (.hostMemoryWindowAccess false off wide (some ⟨d, false⟩)) s = .next t ∧ wrote t .region (off.toNat - 0x1000000)) ∧
    (c.pfUp false = true → off.toNat % n = 0 → dram + n ≤ c.dramUsable → Quiet s →
      ∃ t : State, exec (.hostMemoryWindowAccess true off wide (some ⟨d, false⟩)) s = .next t ∧ wrote t .dram dram)

/-- R284, R286, R287, R302; the nonce is a free value (log entry 3). -/
def Obligations.Sessions : Prop :=
  ∀ (s : State) (ch : BitVec 4) (x : Resp) (chal : List Byte),
    let c := s.chip
    let n := ch.toNat
    let r := c.reqOf n
    let e := c.cmd.session
    let plain (len : Nat) := r.len = len ∧ r.flags.testBit 0 = false ∧ r.handle = 0 ∧ c.sys.swap = none
    let session (t : State) (y : Session) : Prop := t.chip.cmd.session = y ∧ t.chip.regs = c.regs ∧ t.chip.eng = c.eng ∧ t.chip.cmd.sched = c.cmd.sched
    let auth := c.isFresh n 0x0B02 = true ∧ plain 68 ∧ r.p 0 1 < 4 ∧ r.z 1 3 = true ∧ c.keyEmpty (r.p 0 1) = false
    let good : Bool := edVerify (c.keySlot (r.p 0 1)) chal (bytesFrom r.par 4 64)
    let writes := (c.chan n).st = .taken ∧ (c.chan n).rsp = some x ∧ x.reason = 0 ∧ c.sys.execReady = true ∧ c.sys.execAlive = true ∧ c.cmd.held = false ∧ n < 8
    (c.isFresh n 0x0B01 = true → plain 0 → e.lockout = false → ∃ t : State, exec (.authChallenge ch) s = .next t ∧
      ∃ p : List Byte, p.length = 48 ∧ p.drop 32 = memRead c.sys.fieldBook 0 8 ++ leBytes 8 c.eng.tick.toNat ∧
        session t { e with challenge := some p } ∧ t.chip.Answers n 0 c.eng.tick p) ∧
    (c.isFresh n 0x0B01 = true → plain 0 → e.lockout = true → ∃ t : State, exec (.authChallenge ch) s = .next t ∧ OnlyChan n s t ∧
      t.chip.Answers n 0x0006 0xFFFFFFFFFFFFFFFF []) ∧
    (auth → e.challenge = some chal → good = true → ∃ t : State, exec (.authResponse ch) s = .next t ∧
      session t { e with challenge := none, fails := 0 } ∧ t.chip.Answers n 0 c.eng.tick []) ∧
    (auth → e.challenge = some chal → good = false → ∃ t : State, exec (.authResponse ch) s = .next t ∧
      session t { e with challenge := none, fails := min 255 (e.fails + 1), lockout := e.lockout || decide (4 ≤ e.fails + 1) } ∧
      t.chip.Answers n 0x0009 0xFFFFFFFFFFFFFFFF []) ∧
    (auth → e.challenge = none → ∃ t : State, exec (.authResponse ch) s = .next t ∧ OnlyChan n s t ∧ t.chip.Answers n 0x0006 0xFFFFFFFFFFFFFFFF []) ∧
    (c.isFresh n 0x0B03 = true → plain 0 → ∃ t : State, exec (.authClose ch) s = .next t ∧ OnlyChan n s t ∧
      (e.isOpen = true → t.chip.Answers n 0 c.eng.tick []) ∧ (e.isOpen = false → t.chip.Answers n 0x0006 0xFFFFFFFFFFFFFFFF [])) ∧
    (writes → (parseReq (c.chan n).req).op = 0x0B02 → ∃ t : State, exec (.cmdResponse ch) s = .next t ∧ t.chip.cmd.session.isOpen = true ∧
      t.chip.cmd.session.slot = (parseReq (c.chan n).req).p 0 1) ∧
    (writes → (parseReq (c.chan n).req).op = 0x0B03 → ∃ t : State, exec (.cmdResponse ch) s = .next t ∧ t.chip.cmd.session.isOpen = false) ∧
    (∃ t : State, exec .challengeExpiry s = .next t ∧ session t { e with challenge := none } ∧ t.chip.cmd.chans = c.cmd.chans) ∧
    (∃ t : State, exec .authLockoutEnd s = .next t ∧ session t { e with lockout := false } ∧ t.chip.cmd.chans = c.cmd.chans)

/-- R282, R289 to R293. -/
def Obligations.Doorbells : Prop :=
  ∀ (s : State) (cluster : Bool) (unit bit : BitVec 5) (taken : Bool) (access : BellAccess) (ch : Option (BitVec 4)) (n : BitVec 4),
    let c := s.chip
    let u := unit.toNat
    let b := bit.toNat
    let k := if cluster then 4 + u else u % 4
    let others (t : State) : Prop := t.chip.regs = c.regs ∧ t.chip.eng = c.eng ∧
      ∀ j : Nat, j ≠ k → t.chip.bells j = c.bells j ∧ t.chip.bellMask j = c.bellMask j ∧ t.chip.bellFlag j = c.bellFlag j
    let pends (c : Chip) (i : Nat) := (c.bells k).getLsbD i = true ∧ (c.bellMask k).getLsbD i = false
    let flags (t : State) : Prop := ∀ i : Nat, i < 32 →
      ((t.chip.bellFlag k).getLsbD i = true ↔ ((c.bellFlag k).getLsbD i = true ∧ pends t.chip i))
    (∃ t : State, exec (.doorbellRing cluster unit bit taken) s = .next t ∧ (t.chip.bells k).getLsbD b = true ∧ t.chip.bellMask k = c.bellMask k ∧
      (∀ i : Nat, i < 32 → i ≠ b → (t.chip.bells k).getLsbD i = (c.bells k).getLsbD i) ∧
      (taken = false → flags t) ∧ (taken = true → (t.chip.bellFlag k).getLsbD b = false) ∧ others t) ∧
    (∃ t : State, exec (.doorbellTake cluster unit access) s = .next t ∧
      (∀ i : Nat, i < 32 → (t.chip.bells k).getLsbD i = if access = .take (BitVec.ofNat 5 i) then false else (c.bells k).getLsbD i) ∧
      ((∀ m : Word, access ≠ .mask m) → t.chip.bellMask k = c.bellMask k) ∧ (∀ m : Word, access = .mask m → t.chip.bellMask k = m) ∧
      flags t ∧ others t) ∧
    (pends c b → (c.bellFlag k).getLsbD b = false → c.level 8 = 0 → ∃ t : State, exec (.doorbellTimeout cluster unit bit ch) s = .next t ∧
      t.chip.cmd.bells = c.cmd.bells ∧ t.chip.cmd.bellMasks = c.cmd.bellMasks ∧ (t.chip.bellFlag k).getLsbD b = true ∧
      t.chip.regFld Reg.ENG_MBX_CNT 15 0 = min 65535 (c.regFld Reg.ENG_MBX_CNT 15 0 + 1) ∧
      t.chip.regFld Reg.ENG_MBX_LAST 31 30 = (if cluster then 1 else 0) ∧ t.chip.regFld Reg.ENG_MBX_LAST 27 16 = c.eng.tick.toNat % 4096 ∧
      t.chip.regFld Reg.ENG_MBX_LAST 15 14 = (if cluster then u / 8 else u % 4) ∧ t.chip.regFld Reg.ENG_MBX_LAST 13 11 = (if cluster then u % 8 else 0) ∧
      t.chip.regFld Reg.ENG_MBX_LAST 10 6 = b ∧ t.chip.regBit Reg.ENG_MBX_EVENT 0 = true ∧
      (ch = some n → (c.chan n.toNat).st = .taken → (c.chan n.toNat).work = .fresh ∨ (c.chan n.toNat).work = .checked →
        t.chip.Answers n.toNat 0x000A 0xFFFFFFFFFFFFFFFF [])) ∧
    (¬ pends c b ∨ (c.bellFlag k).getLsbD b = true → exec (.doorbellTimeout cluster unit bit ch) s = .next s)

/-- R311 to R314, R316 to R318; `dev` is the deviation in thousandths of the expected period. -/
def Obligations.ReferenceMonitors : Prop :=
  ∀ (s : State) (ref : BitVec 5) (dev : BitVec 16) (phase freq : Word) (pps : Bool),
    let c := s.chip
    let r := ref.toNat
    let m := c.mon r
    let on := r < 18 ∧ c.refEn r = true ∧ c.dState ≠ 4
    let others (t : State) : Prop := ∀ k : Nat, k ≠ r → t.chip.mon k = c.mon k
    let lost (t : State) (k cause : Nat) : Prop := t.chip.refQual k = false ∧ t.chip.regFld (refSTAT k) 27 24 = cause ∧
      t.chip.regFld (refSTAT k) 12 0 = c.regFld (refCFG k) 12 0 ∧ CountsOne Reg.DTM_LOST_CNT s t ∧ t.chip.regFld Reg.DTM_LOST_CNT 20 16 = k
    let tripped (t : State) (k : Nat) : Prop := (t.chip.mon k).tripped = true ∧ t.chip.regBit (refSTAT k) 30 = false ∧
      (c.refQual k = true → lost t k 1) ∧ (c.refQual k = false → t.chip.refQual k = false ∧ t.chip.reg Reg.DTM_LOST_CNT = c.reg Reg.DTM_LOST_CNT)
    let still : Bool := decide (4 ≤ if pps then m.run else m.runPps)
    let n := (if pps then m.runPps else m.run) + 1
    let bad := 2 < m.extra ∨ 2 < m.miss
    let inside (hi lo : Nat) : Prop := ¬ bad ∧ freq.toInt.natAbs ≤ 10000 * c.regFld (refWIN r) hi lo
    let accept := inside 15 0
    let reject := inside 31 16
    let left := c.regFld (refSTAT r) 12 0 - (if r = 5 then 10 else 1)
    let cand (d : Chip) (k : Nat) : Prop := k < 18 ∧ d.refEn k = true ∧ d.refQual k = true ∧ 1 ≤ d.refRank k
    let best (d : Chip) (k : Nat) : Prop := cand d k ∧ ∀ j : Nat, cand d j → d.refRank k ≤ d.refRank j
    let dis (d : Chip) : Prop := ∃ a b : Nat, best d a ∧ best d b ∧ (d.regFld Reg.DTM_SEL_CFG 19 0 : Int) * 1000 < d.refOff a - d.refOff b
    (on → dev.toInt.natAbs ≤ 250 → r ≠ 5 → (c.bench ≠ r ∨ pps = true) → ∃ t : State, exec (.refTimingPoint ⟨ref, pps⟩ dev phase) s = .next t ∧
      t.chip.mon r = { m with run := if pps then m.run else 0, runPps := if pps then 0 else m.runPps, tripped := still } ∧ others t ∧
      t.chip.regBit (refSTAT r) 30 = !still ∧ RegsBut [refSTAT r] s t ∧ t.chip.eng = c.eng) ∧
    (on → r = 5 → c.bench ≠ 5 → exec (.refTimingPoint ⟨ref, pps⟩ dev phase) s = .next s) ∧
    (on → 250 < dev.toInt.natAbs → r ≠ 5 → ∃ t : State, exec (.refTimingPoint ⟨ref, pps⟩ dev phase) s = .next t ∧ CountsOne (refCNT r) s t ∧
      RegsBut [refCNT r] s t ∧ t.chip.mon r = { m with extra := m.extra + 1 } ∧ others t ∧ t.chip.eng = c.eng) ∧
    (on → r ≠ 5 → Quiet s → ∃ t : State, exec (.missingEdge ⟨ref, pps⟩) s = .next t ∧ others t ∧
      t.chip.regFld (refCNT r) 31 16 = min 65535 (c.regFld (refCNT r) 31 16 + 1) ∧ (t.chip.mon r).miss = m.miss + 1 ∧
      (t.chip.mon r).run = m.run + (if pps then 0 else 1) ∧ (t.chip.mon r).runPps = m.runPps + (if pps then 1 else 0) ∧
      (n < 4 → RegsBut [refCNT r] s t ∧ (t.chip.mon r).tripped = m.tripped) ∧ (4 ≤ n → m.tripped = false → tripped t r)) ∧
    (c.refEn 5 = true → (c.mon 5).tripped = false → Quiet s → ∃ t : State, exec .ptpSyncTimeout s = .next t ∧ tripped t 5) ∧
    (on → Quiet s → ∃ t : State, exec (.freqGateEnd ref freq) s = .next t ∧ t.chip.mon r = { m with extra := 0, miss := 0 } ∧ others t ∧
      (bad → t.chip.reg (refFREQ r) = 0x7FFFFFFF) ∧ (¬ bad → t.chip.reg (refFREQ r) = freq) ∧
      (t.chip.regBit (refSTAT r) 29 = true ↔ accept) ∧ (t.chip.regBit (refSTAT r) 28 = true ↔ reject) ∧
      (accept → reject → m.tripped = false → t.chip.regFld (refSTAT r) 12 0 = left ∧
        (t.chip.refQual r = true ↔ (c.refQual r = true ∨ (left = 0 ∧ c.refRank r ≠ 0)))) ∧
      ((¬ accept ∨ m.tripped = true) → t.chip.regFld (refSTAT r) 12 0 = c.regFld (refCFG r) 12 0) ∧
      (¬ accept → reject → t.chip.refQual r = c.refQual r) ∧ (¬ reject → t.chip.refQual r = false) ∧
      (¬ reject → c.refQual r = true → lost t r (if 2 < m.extra then 3 else if 2 < m.miss then 4 else 2)) ∧
      (t.chip.regBit Reg.DTM_STATE 4 = true ↔ dis t.chip) ∧ (t.chip.bench = 31 ↔ ∀ k : Nat, ¬ cand t.chip k) ∧
      (t.chip.bench ≠ 31 → best t.chip t.chip.bench) ∧ (best t.chip c.bench → t.chip.bench = c.bench) ∧
      (¬ best t.chip c.bench → ¬ (dis t.chip ∧ c.dtm.model.valid = true) → ∀ k : Nat, best t.chip k → t.chip.bench ≤ k) ∧
      (¬ best t.chip c.bench → dis t.chip → c.dtm.model.valid = true → ∀ k : Nat, best t.chip k →
        (100 * t.chip.refOff t.chip.bench - c.predict).natAbs ≤ (100 * t.chip.refOff k - c.predict).natAbs)) ∧
    ((c.refEn r = false ∨ c.dState = 4) → exec (.refTimingPoint ⟨ref, pps⟩ dev phase) s = .next s ∧ exec (.missingEdge ⟨ref, pps⟩) s = .next s ∧
      exec (.freqGateEnd ref freq) s = .next s) ∧
    ((c.refEn 5 = false ∨ (c.mon 5).tripped = true) → exec .ptpSyncTimeout s = .next s)

/-- R305, R309, R314, R319, R325, R328 to R332, R335, R339. -/
def Obligations.DatumCommands : Prop :=
  ∀ (s : State) (e : Sched) (ref : BitVec 5) (v : Word) (ch : BitVec 4) (b : BitVec 3) (x : Rate),
    let c := s.chip
    let q := parseReq e.req
    let n := q.p 0 1
    let due (op : Nat) := c.EffectDue e op ∧ Quiet s
    let off (t : State) (k : Nat) : Prop := t.chip.refEn k = false ∧ t.chip.refQual k = false ∧ t.chip.regFld (refSTAT k) 31 28 = 0 ∧
      t.chip.regFld (refSTAT k) 27 24 = 5 ∧ t.chip.mon k = RefMon.reset ∧ t.chip.reg Reg.DTM_LOST_CNT = c.reg Reg.DTM_LOST_CNT
    let begun (t : State) (k qual : Nat) : Prop := t.chip.refEn k = true ∧ t.chip.mon k = RefMon.reset ∧ t.chip.regBit (refSTAT k) 30 = true ∧
      t.chip.refQual k = false ∧ t.chip.regFld (refSTAT k) 12 0 = qual
    let why (t : State) (k reason : Nat) : Prop := t.chip.regFld Reg.DTM_REASON 20 16 = k ∧ t.chip.regFld Reg.DTM_REASON 15 0 = reason
    let r := ref.toNat
    let d := c.setReg (refCFG r) (v &&& 0x7CF01FFF)
    let adj : Int := (BitVec.ofNat 32 (q.p 0 4)).toInt
    let follow := c.sys.execReady = true ∧ c.sys.execAlive = true ∧ c.net.ptp.master = none ∧ c.refQual 4 = false
    let evald (t : State) (v : Int) : Prop := t.chip.dtm.corr = max (-20000000000) (min 20000000000 v) ∧
      IsRound (t.chip.reg Reg.DTM_FREQ).toInt t.chip.dtm.corr 100 ∧ (t.chip.regBit Reg.DTM_STATE 15 = true ↔ 20000000000 < v ∨ v < -20000000000) ∧
      (follow → IsRound t.chip.dtm.inc (0x20000000000 * (10 ^ 14 + t.chip.dtm.corr)) (10 ^ 14)) ∧ (¬ follow → t.chip.dtm.inc = c.dtm.inc)
    let base : Int := if c.dState = 0 then (if c.dtm.model.valid then -c.predict else 0) else (if c.dtm.holdMean then c.dtm.mean else -c.predict)
    let left := c.stepLeft + adj
    let units (k : Time) : Nat := (k.sec.toNat * 1000000000 + k.ns.toNat) * 2 ^ 40 + k.frac.toNat
    let aligns := (q.p 2 1).testBit 0 = true ∧ c.regBit Reg.DTM_CTRL 12 = false ∧ (c.bench = 4 ∨ c.bench = 5) ∧ (c.dState = 1 ∨ c.dState = 2)
    let soon := ∃ k : Nat, c.dtm.sinceSwitch = some k ∧ k ≤ 20000
    let p := c.reqOf ch.toNat
    let saved := { c.dtm.model with valid := false, records := 0, recs := [] }
    let save := c.isFresh ch.toNat 0x0707 = true ∧ p.len = 4 ∧ p.noTick = true ∧ p.handle = 0 ∧ p.z 1 3 = true ∧ c.swapBars p = false
    (due 0x0701 → n < 18 → q.p 1 1 ≤ 3 → q.p 2 1 ≤ 15 → q.p 3 1 ≤ 7 → q.p 4 4 ≤ 200000 → q.p 8 4 ≤ 200000 → q.p 12 4 ≤ 600000 →
      ∃ t : State, exec .commandEffect s = .next t ∧ t.chip.cmd.sched = c.cmd.sched.erase e ∧ t.chip.refRank n = q.p 3 1 ∧
      (c.refEn n = false → t.chip.refEn n = false ∧ t.chip.regFld (refCFG n) 27 26 = q.p 1 1 ∧ t.chip.regFld (refCFG n) 23 20 = q.p 2 1 ∧
        t.chip.regFld (refCFG n) 12 0 = q.p 12 4 / 100 ∧ t.chip.regFld (refWIN n) 15 0 = q.p 4 4 / 10 ∧ t.chip.regFld (refWIN n) 31 16 = q.p 8 4 / 10) ∧
      (c.refEn n = true → t.chip.reg (refWIN n) = c.reg (refWIN n) ∧ t.chip.regFld (refCFG n) 27 0 = c.regFld (refCFG n) 27 0) ∧
      (c.refEn n = true → q.p 3 1 ≠ 0 → t.chip.refEn n = true ∧ t.chip.refQual n = c.refQual n) ∧ (c.refEn n = true → q.p 3 1 = 0 → off t n)) ∧
    (due 0x0702 → n < 18 → q.p 1 1 ≠ 0 → c.refEn n = false → ∃ t : State, exec .commandEffect s = .next t ∧ t.chip.cmd.sched = c.cmd.sched.erase e ∧
      why t n (c.refCheck n) ∧ (c.refCheck n = 0 → begun t n (c.regFld (refCFG n) 12 0)) ∧
      (c.refCheck n ≠ 0 → t.chip.refEn n = false ∧ CountsOne (Reg.CMD_EFFECT_FAIL (chPf1 e.ch)) s t ∧
        t.chip.regFld (Reg.CMD_EFFECT_FAIL (chPf1 e.ch)) 31 16 = q.op)) ∧
    (due 0x0702 → n < 18 → q.p 1 1 = 0 → c.refEn n = true → ∃ t : State, exec .commandEffect s = .next t ∧ off t n ∧
      t.chip.regFld (refCFG n) 30 0 = c.regFld (refCFG n) 30 0) ∧
    (r < 18 → Quiet s → c.refEn r = false → ∃ t : State, exec (.refEnWrite ref v) s = .next t ∧
      t.chip.regFld (refCFG r) 30 0 = (v &&& 0x7CF01FFF).toNat ∧ (v.getLsbD 31 = false → t.chip.refEn r = false ∧ RegsBut [refCFG r] s t) ∧
      (v.getLsbD 31 = true → why t r (d.refCheck r) ∧ (d.refCheck r = 0 → begun t r (v.toNat % 8192)) ∧ (d.refCheck r ≠ 0 → t.chip.refEn r = false))) ∧
    (r < 18 → Quiet s → c.refEn r = true → ∃ t : State, exec (.refEnWrite ref v) s = .next t ∧ (v.getLsbD 31 = false → off t r) ∧
      (v.getLsbD 31 = true → t.chip.mon r = { c.mon r with rankNext := some (v.toNat / 2 ^ 28 % 8) } ∧ RegsBut [] s t)) ∧
    (due 0x0703 → q.p 0 2 ≤ 1000 → q.p 3 1 < 128 → q.p 8 4 ≤ 1000000 → q.p 12 2 ≤ 10000 → q.p 14 2 ≤ 600 → ∃ t : State,
      exec .commandEffect s = .next t ∧ t.chip.cmd.sched = c.cmd.sched.erase e ∧ t.chip.dtm.holdLimit = q.p 16 4 ∧ t.chip.dtm.sensorReg = q.p 4 1 ∧
      (¬ aligns → t.chip.dtm = { c.dtm with holdLimit := q.p 16 4, sensorReg := q.p 4 1 } ∧ RegsBut [Reg.DTM_CTRL, Reg.DTM_LOCK_CFG, Reg.DTM_SEL_CFG] s t) ∧
      (aligns → c.bench = 5 → c.eng.rate = some x → c.stepLeft.natAbs ≤ 1000000000 → t.chip.dtm.target = some 0 ∧
        (∃ k : Int, (((units c.dtm.bound : Int) + t.chip.stepLeft * 2 ^ 40) * x.hz - k * (1000000000 * 2 ^ 40)).natAbs ≤ 2 ^ 39 * x.hz) ∧
        2 * (t.chip.stepLeft - c.stepLeft).natAbs * x.hz ≤ 1000000000 + 2 * x.hz) ∧
      (aligns → c.bench = 4 → c.dtm.ppsPhase = none → t.chip.dtm.alignDue = true ∧ t.chip.stepLeft = c.stepLeft) ∧
      RegsBut [Reg.DTM_CTRL, Reg.DTM_LOCK_CFG, Reg.DTM_SEL_CFG, Reg.DTM_STATE, Reg.DTM_STEP_LEFT, Reg.DTM_EVENT] s t ∧ t.chip.regFld Reg.DTM_CTRL 9 0 = q.p 0 2 ∧
      t.chip.regFld Reg.DTM_CTRL 23 17 = q.p 3 1 ∧ t.chip.regBit Reg.DTM_CTRL 12 = (q.p 2 1).testBit 0 ∧
      t.chip.regBit Reg.DTM_CTRL 13 = (q.p 2 1).testBit 1 ∧ t.chip.regBit Reg.DTM_CTRL 11 = (q.p 2 1).testBit 2 ∧
      t.chip.regFld Reg.DTM_SEL_CFG 19 0 = q.p 8 4 ∧ t.chip.regFld Reg.DTM_LOCK_CFG 15 0 = q.p 12 2 ∧ t.chip.regFld Reg.DTM_LOCK_CFG 25 16 = q.p 14 2) ∧
    (due 0x0704 → ∃ t : State, exec .commandEffect s = .next t ∧ t.chip.cmd.sched = c.cmd.sched.erase e ∧ t.chip.dState = c.dState ∧
      ((c.dState = 0 ∨ c.dState = 3) → evald t (base + 100 * adj) ∧
        t.chip.dtm = { c.dtm with
          freqAdj := adj, corr := t.chip.dtm.corr, corrs := t.chip.dtm.corrs, temps := t.chip.dtm.temps, inc := t.chip.dtm.inc }) ∧
      (¬ (c.dState = 0 ∨ c.dState = 3) → t.chip.dtm = c.dtm ∧ t.chip.regs = c.regs)) ∧
    (due 0x0705 → c.eng.rate = some x → left.natAbs ≤ 1000000000 → ∃ t : State, exec .commandEffect s = .next t ∧ t.chip.cmd.sched = c.cmd.sched.erase e ∧
      t.chip.stepLeft = left ∧ (t.chip.regBit Reg.DTM_STATE 13 = true ↔ left ≠ 0) ∧
      RegsBut [Reg.DTM_STATE, Reg.DTM_STEP_LEFT, Reg.DTM_EVENT] s t ∧
      (c.stepLeft ≠ 0 → left = 0 → t.chip.regBit Reg.DTM_EVENT 3 = true) ∧ (c.stepLeft = 0 ∨ left ≠ 0 → t.chip.reg Reg.DTM_EVENT = c.reg Reg.DTM_EVENT) ∧
      t.chip.dtm.target = (if c.dState = 1 ∨ c.dState = 2 then c.dtm.target.map (fun t => t + 4 * adj) else c.dtm.target) ∧
      (left < 0 → soon → t.chip.dtm.planned = 0) ∧ (left < 0 → ¬ soon → t.chip.dtm.planned = max left (-((19000000 / x.hz : Nat) : Int))) ∧
      (0 ≤ left → t.chip.dtm.planned = min left ((249000000 / x.hz : Nat) : Int))) ∧
    (save → p.p 0 1 = 0 → c.dtm.model.valid = true → ∃ t : State, exec (.holdoverSave ch none) s = .next t ∧
      t.chip.Answers ch.toNat 0 c.eng.tick [] ∧ t.chip.fb 0x200 64 = c.dtm.model.record ∧ t.chip.fb 0x240 320 = c.refBlock ∧ t.chip.dtm = c.dtm ∧
      t.chip.regs = c.regs) ∧
    (save → p.p 0 1 = 1 → ∃ t : State, exec (.holdoverSave ch none) s = .next t ∧ t.chip.Answers ch.toNat 0 c.eng.tick [] ∧
      t.chip.fb 0x200 64 = saved.record ∧ t.chip.dtm = { c.dtm with model := saved } ∧ t.chip.regBit Reg.DTM_STATE 5 = false) ∧
    (save → p.p 0 1 = 0 → c.dtm.model.valid = true → Quiet s → b = 0 → ∃ t : State, exec (.holdoverSave ch (some b)) s = .next t ∧
      t.chip.Answers ch.toNat 9 0xFFFFFFFFFFFFFFFF [] ∧ CountsOne Reg.FLT_FB_CNT s t ∧ t.chip.fb 0x240 320 = c.fb 0x240 320) ∧
    (save → p.p 0 1 = 0 → c.dtm.model.valid = false → ∃ t : State, exec (.holdoverSave ch none) s = .next t ∧ OnlyChan ch.toNat s t ∧
      t.chip.Answers ch.toNat 6 0xFFFFFFFFFFFFFFFF [])

/-- R320 to R326, R333 to R335, R337, R338; times are counted in units of 2^-40 ns. -/
def Obligations.DatumAndTime : Prop :=
  ∀ (s : State) (ref : BitVec 5) (dev : BitVec 16) (phase v clks : Word) (val : Option Half) (lo : Option Word) (hi : Half) (off : DWord)
    (eighth : BitVec 3) (start : Bool) (x : Rate) (w : ModelRec),
    let c := s.chip
    let r := ref.toNat
    let whole : Int := 2 ^ 48 * (1000000000 * 2 ^ 40)
    let units (k : Time) : Nat := (k.sec.toNat * 1000000000 + k.ns.toNat) * 2 ^ 40 + k.frac.toNat
    let corr (t : State) : Int := (t.chip.reg Reg.DTM_FREQ).toInt
    let follow := c.sys.execReady = true ∧ c.sys.execAlive = true ∧ c.net.ptp.master = none ∧ c.refQual 4 = false
    let evald (t : State) (k : Int) : Prop := t.chip.dtm.corr = max (-20000000000) (min 20000000000 k) ∧ IsRound (corr t) t.chip.dtm.corr 100 ∧
      (follow → IsRound t.chip.dtm.inc (0x20000000000 * (10 ^ 14 + t.chip.dtm.corr)) (10 ^ 14)) ∧ (¬ follow → t.chip.dtm.inc = c.dtm.inc) ∧
      t.chip.dtm = { c.dtm with corr := t.chip.dtm.corr, corrs := t.chip.dtm.corrs, temps := t.chip.dtm.temps, inc := t.chip.dtm.inc }
    let left := 4 * c.stepLeft
    let target : Int := if c.pairEn = true ∧ c.synced = true ∧ c.pair.owner = false then phase.toInt + left + (c.reg Reg.PAIR_PHASE).toInt
      else match c.dtm.target with
        | some k => k
        | none => phase.toInt + left
    let err := BitVec.ofInt 32 (phase.toInt + left - target)
    let far := 16 * c.regFld Reg.DTM_LOCK_CFG 15 0 < err.toInt.natAbs
    let near := (c.reg Reg.DTM_PHASE_ERR).toInt.natAbs ≤ 4 * c.regFld Reg.DTM_LOCK_CFG 15 0 ∧
      (c.dtm.corr - 100 * (c.reg (refFREQ c.bench)).toInt).natAbs ≤ 1000000
    let held := c.eng.rate = some x ∧ c.regFld Reg.DTM_LOCK_CFG 25 16 * x.hz ≤ 10 * c.dtm.lockTicks
    let steers := start = false ∧ c.sys.execReady = true ∧ c.sys.execAlive = true ∧ c.net.ptp.master = none ∧ c.refQual 4 = true
    let aligned := c.regBit Reg.DTM_CTRL 12 = true ∧ (c.bench = 4 ∨ c.bench = 5) ∧ ¬ (c.pairEn = true ∧ c.synced = true ∧ c.pair.owner = false)
    let m := c.dtm.model
    let low : Word := match lo with
      | some w => w
      | none => c.reg Reg.DTM_TIME_INC_LO
    let inc : Nat := hi.toNat * 2 ^ 32 + low.toNat
    let fits := ((inc : Int) - 0x20000000000).natAbs * 2000 ≤ 0x20000000000
    let at_ (t : State) : Time := (if start then t.chip.dtm.start else t.chip.dtm.pps).at_
    let was := if start then c.dtm.start else c.dtm.pps
    let regNs := if start then Reg.DTM_START_NS else Reg.DTM_PPS_NS
    let regLo := if start then Reg.DTM_START_SEC_LO else Reg.DTM_PPS_SEC_LO
    let regHi := if start then Reg.DTM_START_SEC_HI else Reg.DTM_PPS_SEC_HI
    let edge : Instr := if start then .startInEdge clks eighth else .ppsInEdge clks eighth
    (r < 18 → c.refEn r = true → c.bench = r → c.dState ≠ 4 → (r ≠ 5 → dev.toInt.natAbs ≤ 250) →
      (r = 5 → c.net.ptp.profile ≠ 0 ∧ c.net.ptp.master ≠ none) → Quiet s →
      ∃ t : State, exec (.refTimingPoint ⟨ref, false⟩ dev phase) s = .next t ∧ t.chip.reg Reg.DTM_PHASE_ERR = err ∧ t.chip.dtm.target = some target ∧
      (corr t).natAbs ≤ 200000000 ∧ t.chip.bench = r ∧ (r ≠ 5 → (t.chip.mon r).run = 0) ∧
      (c.dState = 2 → far → t.chip.dState = 1 ∧ CountsOne Reg.DTM_UNLOCK_CNT s t ∧ t.chip.regBit Reg.DTM_EVENT 0 = true ∧
        t.chip.regBit Reg.DTM_EVENT 9 = true) ∧
      (¬ (c.dState = 2 ∧ far) → t.chip.dState = c.dState ∧ t.chip.reg Reg.DTM_UNLOCK_CNT = c.reg Reg.DTM_UNLOCK_CNT)) ∧
    (c.dState = 1 → c.bench ≠ 31 → near → held → ∃ t : State, exec .datumLock s = .next t ∧ t.chip.dState = 2 ∧ t.chip.regBit Reg.DTM_EVENT 0 = true ∧
      t.chip.bench = c.bench ∧ RegsBut [Reg.DTM_STATE, Reg.DTM_EVENT] s t ∧ (¬ aligned → t.chip.dtm = { c.dtm with temps := t.chip.dtm.temps }) ∧
      (aligned → ∃ k : Int, IsRound k (units c.dtm.bound * x.hz) (1000000000 * 2 ^ 40) ∧
        t.chip.dtm = { c.dtm with mediaNext := some (BitVec.ofInt 64 (k - c.eng.tick.toNat)), temps := t.chip.dtm.temps })) ∧
    (¬ (c.dState = 1 ∧ c.bench ≠ 31 ∧ near ∧ ∃ y : Rate, c.eng.rate = some y ∧ c.regFld Reg.DTM_LOCK_CFG 25 16 * y.hz ≤ 10 * c.dtm.lockTicks) →
      exec .datumLock s = .next s) ∧
    (c.dState = 3 → ∃ t : State, exec .holdoverUpdate s = .next t ∧ t.chip.reg Reg.DTM_HOLD_SEC = c.reg Reg.DTM_HOLD_SEC + 1 ∧
      evald t ((if c.dtm.holdMean then c.dtm.mean else -c.predict) + 100 * c.dtm.freqAdj) ∧ t.chip.dState = 3 ∧
      RegsBut [Reg.DTM_STATE, Reg.DTM_FREQ, Reg.DTM_HOLD_SEC, Reg.DTM_TIME_INC_LO, Reg.DTM_TIME_INC_HI] s t) ∧
    (c.dState = 0 → ∃ t : State, exec .holdoverUpdate s = .next t ∧ evald t ((if m.valid then -c.predict else 0) + 100 * c.dtm.freqAdj) ∧
      t.chip.dState = 0 ∧ RegsBut [Reg.DTM_STATE, Reg.DTM_FREQ, Reg.DTM_TIME_INC_LO, Reg.DTM_TIME_INC_HI] s t) ∧
    (c.dState = 3 → c.dtm.holdLimit ≤ (c.reg Reg.DTM_HOLD_SEC).toNat → c.regBit Reg.DTM_STATE 6 = false → c.level 10 = 0 →
      ∃ t : State, exec .holdLimitExpiry s = .next t ∧ t.chip.regBit Reg.DTM_STATE 6 = true ∧ CountsOne Reg.DTM_UNLOCK_CNT s t ∧
        t.chip.regBit Reg.DTM_EVENT 9 = true ∧ t.chip.dState = 3) ∧
    ((c.dState ≠ 3 ∨ (c.reg Reg.DTM_HOLD_SEC).toNat < c.dtm.holdLimit ∨ c.regBit Reg.DTM_STATE 6 = true) → exec .holdLimitExpiry s = .next s) ∧
    (c.dState = 2 → c.regBit Reg.DTM_CTRL 13 = true → ∃ t : State, exec .modelRecord s = .next t ∧
      (let k := t.chip.dtm.model
       k.records = m.records + 1 ∧ k.learned = m.learned + 10 ∧ k.tsrc = c.tempUsed.2 ∧
       (∃ y : ModelRec, y.time = c.dtm.time.sec.toNat ∧ k.recs = y :: (if c.tempUsed.2 = m.tsrc then m.recs else []) ∧
         (m.records = 0 → k.t0 = BitVec.ofInt 16 y.temp ∧ k.epoch = c.dtm.time.sec.setWidth 64) ∧
         (c.dtm.corrs = [(c.dtm.clocks, w.corr)] → y.corr = w.corr) ∧ (c.dtm.temps = [(c.dtm.clocks, w.temp)] → y.temp = w.temp)) ∧
       (m.records ≠ 0 → k.t0 = m.t0 ∧ k.epoch = m.epoch) ∧ (k.valid = true ↔ m.valid = true ∨ 360 ≤ m.records + 1) ∧
       ((∀ a ∈ k.recs, ∀ b ∈ k.recs, a.temp - b.temp < 512) → k.c1 = m.c1 ∧ k.c2 = m.c2) ∧
       t.chip.dtm = { c.dtm with model := k, temps := t.chip.dtm.temps }) ∧
      (t.chip.regBit Reg.DTM_STATE 5 = true ↔ t.chip.dtm.model.valid = true) ∧ RegsBut [Reg.DTM_STATE] s t) ∧
    (¬ (c.dState = 2 ∧ c.regBit Reg.DTM_CTRL 13 = true) → exec .modelRecord s = .next s) ∧
    (∃ t : State, exec (.xoSensorRead val) s = .next t ∧
      t.chip.dtm = { c.dtm with xoRead := t.chip.dtm.xoRead, temps := t.chip.dtm.temps } ∧
      (t.chip.dtm.xoRead = true ↔ t.chip.regFld Reg.DTM_TEMP 15 0 ≠ 0x8000) ∧ RegsBut [Reg.DTM_TEMP, Reg.DTM_STATE] s t ∧
      t.chip.regFld Reg.DTM_TEMP 31 16 = c.regFld Reg.DTM_TEMP 31 16 ∧
      (∀ w : Half, val = some w → c.regFld Reg.DTM_CTRL 23 17 ≠ 0 → t.chip.regFld Reg.DTM_TEMP 15 0 = w.toNat) ∧
      ((val = none ∨ c.regFld Reg.DTM_CTRL 23 17 = 0) → t.chip.regFld Reg.DTM_TEMP 15 0 = 0x8000) ∧
      (t.chip.regBit Reg.DTM_STATE 7 = true ↔ m.valid = true ∧ t.chip.tempUsed.2 ≠ m.tsrc)) ∧
    (c.dState = 2 → m.valid = true → ∃ t : State, exec (.modelSave false) s = .next t ∧ t.chip.fb 0x200 64 = m.record ∧ t.chip.dtm = c.dtm ∧
      t.chip.regs = c.regs) ∧
    (c.dState = 2 → m.valid = true → c.level 27 = 0 → ∃ t : State, exec (.modelSave true) s = .next t ∧ CountsOne Reg.FLT_FB_CNT s t ∧ t.chip.dtm = c.dtm) ∧
    (∃ t : State, exec (.timeAdjWrite v) s = .next t ∧ t.chip.reg Reg.DTM_TIME_ADJ = v ∧ RegsBut [Reg.DTM_TIME_ADJ] s t ∧
      (units t.chip.dtm.time : Int) = ((units c.dtm.time : Int) + v.toInt * 2 ^ 40) % whole ∧ t.chip.dtm = { c.dtm with time := t.chip.dtm.time }) ∧
    (∃ t : State, exec (.timeIncWrite lo (some hi)) s = .next t ∧ (fits → t.chip.dtm = { c.dtm with inc := inc }) ∧ (¬ fits → t.chip.dtm = c.dtm) ∧
      t.chip.reg Reg.DTM_TIME_INC_LO = BitVec.ofNat 32 t.chip.dtm.inc ∧ t.chip.reg Reg.DTM_TIME_INC_HI = BitVec.ofNat 32 (t.chip.dtm.inc / 2 ^ 32) ∧
      RegsBut [Reg.DTM_TIME_INC_LO, Reg.DTM_TIME_INC_HI] s t) ∧
    (∃ t : State, exec (.timeIncWrite lo none) s = .next t ∧ t.chip.dtm = c.dtm ∧ t.chip.reg Reg.DTM_TIME_INC_LO = low ∧
      RegsBut [Reg.DTM_TIME_INC_LO] s t) ∧
    (∃ t : State, exec (.mediaOffWrite off) s = .next t ∧ t.chip.dtm = { c.dtm with mediaNext := some off } ∧ t.chip.regs = c.regs ∧ t.chip.eng = c.eng) ∧
    (∃ t : State, exec edge s = .next t ∧
      (¬ steers → (units t.chip.dtm.time : Int) = ((units c.dtm.time : Int) + (clks.toNat * c.dtm.inc : Nat)) % whole) ∧
      (steers → ∃ k : Int, ((at_ t).ns.toInt + k = 0 ∨ (at_ t).ns.toInt + k = 1000000000) ∧ k.natAbs ≤ 500000000 ∧
        t.chip.reg Reg.DTM_TIME_ADJ = BitVec.ofInt 32 k ∧
        (units t.chip.dtm.time : Int) = ((units c.dtm.time : Int) + (clks.toNat * c.dtm.inc : Nat) + k * 2 ^ 40) % whole) ∧
      (units (at_ t) : Int) = ((units c.dtm.time : Int) + (clks.toNat * c.dtm.inc : Nat) + (eighth.toNat * 2 ^ 38 : Nat)) % whole ∧
      t.chip.reg regNs = (at_ t).ns ∧
      t.chip.regBit regHi 30 = true ∧ (was.unread = true → t.chip.regBit regHi 31 = true) ∧
      t.chip.regBit Reg.DTM_EVENT (if start then 5 else 4) = true ∧ t.chip.eng = c.eng) ∧
    (c.pfUp false = true → ∃ t : State, exec (.captureNsRead start) s = .next t ∧
      t.chip.host.rsp = { status := 1, data := was.at_.ns.setWidth 64 } ∧ t.chip.reg regLo = was.at_.sec.setWidth 32 ∧
      t.chip.regFld regHi 15 0 = was.at_.sec.toNat / 2 ^ 32 ∧ t.chip.regFld regHi 17 16 = was.at_.frac.toNat / 2 ^ 38 ∧
      t.chip.regBit regHi 31 = false ∧ (if start then t.chip.dtm.start else t.chip.dtm.pps) = { was with unread := false } ∧
      RegsBut [regLo, regHi] s t)

/-- R333, R344 to R349; that a source is good is `source` of this statement. -/
def Obligations.ClockMonitors : Prop :=
  ∀ (s : State) (clks : Word) (inStart badA badB rec : Bool) (count : BitVec 12) (pll : BitVec 3),
    let c := s.chip
    let n := count.toNat
    let k := c.clk
    let up := c.sys.up
    let trips (i : Instr) (cause : Nat) : Prop := ∃ t : State, exec i s = .next t ∧ t.chip.clk.tripped = true ∧ t.chip.clk.good = 0 ∧
      t.chip.regBit Reg.CLK_STAT 7 = false ∧ t.chip.eng = c.eng ∧
      (up = true → CountsOne Reg.CLK_TRIP_CNT s t ∧ t.chip.regFld Reg.CLK_TRIP_CNT 31 30 = cause ∧ t.chip.regBit Reg.CLK_EVENT 0 = true ∧
        t.chip.dState = 4 ∧ t.chip.onFbrc = (c.fbOk || c.onFbrc)) ∧
      (up = false → t.chip.reg Reg.CLK_TRIP_CNT = c.reg Reg.CLK_TRIP_CNT ∧ t.chip.onFbrc = c.onFbrc ∧
        (t.chip.clk.latch = true ↔ k.latch = true ∨ (inStart = true ∧ k.fbStart = true ∧ c.sys.resetN = true)) ∧
        (t.chip.clk.hold = true ↔ k.hold = true ∨ (inStart = true ∧ k.fbStart = true ∧ c.sys.resetN = true)))
    let good := 1913 ≤ n ∧ n ≤ 2113
    let runs := k.tripped = true ∨ (up = true ∧ c.onFbrc = true)
    let source := if k.hold = true ∨ c.onFbrc = true then c.fbOk = true ∧ c.onFbrc = true else k.first = 2
    let free := up = false ∧ c.sys.resetN = true ∧ c.sys.railsGood = true ∧ c.sys.tapTest = false ∧ c.pwr.stage ≠ 5 ∧ source
    (c.sys.railsGood = true → Quiet s → trips (.xoActivityTrip clks inStart) 1) ∧
    (c.sys.railsGood = true → Quiet s → n < 1812 → trips (.xoWindowEnd count clks inStart) 2) ∧
    (c.sys.railsGood = true → Quiet s → 2214 < n → trips (.xoWindowEnd count clks inStart) 3) ∧
    (c.sys.railsGood = true → Quiet s → 1812 ≤ n → n ≤ 2214 → ∃ t : State, exec (.xoWindowEnd count clks inStart) s = .next t ∧
      t.chip.regFld Reg.CLK_XO_WIN 11 0 = n ∧ t.chip.reg Reg.CLK_TRIP_CNT = c.reg Reg.CLK_TRIP_CNT ∧
      t.chip.clk.good = (if 1913 ≤ n ∧ n ≤ 2113 then min 16 (k.good + 1) else 0) ∧
      t.chip.clk.first = (if 1913 ≤ n ∧ n ≤ 2113 then min 2 (k.first + 1) else 0) ∧
      (t.chip.clk.tripped = true ↔ k.tripped = true ∧ ¬ (good ∧ 15 ≤ k.good)) ∧
      (runs → good → 15 ≤ k.good → t.chip.clk.latch = false ∧ t.chip.clk.hold = k.hold ∧ t.chip.regBit Reg.CLK_STAT 7 = true ∧
        (up = true → t.chip.onFbrc = false ∧ (c.onFbrc = true → t.chip.regBit Reg.CLK_EVENT 1 = true) ∧
          (c.dState = 4 → t.chip.dState = 0 ∨ (t.chip.dState = 1 ∧ t.chip.bench ≠ 31)))) ∧
      (¬ (runs ∧ good ∧ 15 ≤ k.good) → t.chip.onFbrc = c.onFbrc ∧ t.chip.dState = c.dState ∧ t.chip.clk.latch = k.latch)) ∧
    (c.sys.railsGood = true → ∃ t : State, exec (.fbrcWindowEnd count clks) s = .next t ∧ t.chip.clk.fbStart = false ∧ t.chip.eng = c.eng ∧
      (c.fbOk = true → (t.chip.fbOk = true ↔ 455 ≤ n ∧ n ≤ 553) ∧ t.chip.onFbrc = c.onFbrc) ∧
      (c.fbOk = false → (t.chip.fbOk = true ↔ 479 ≤ n ∧ n ≤ 529 ∧ k.fbGood ≠ 0) ∧ (t.chip.clk.fbGood = if 479 ≤ n ∧ n ≤ 529 ∧ k.fbGood = 0 then 1 else 0) ∧
        t.chip.onFbrc = (c.onFbrc || (t.chip.fbOk && (if up then k.tripped else k.hold))))) ∧
    (c.sys.railsGood = true → c.fbOk = false → ∃ t : State, exec .fbrcStartTimeout s = .next t ∧ t.chip.regBit Reg.CLK_STAT 9 = true ∧
      t.chip.regBit Reg.CLK_EVENT 2 = true ∧ RegsBut [Reg.CLK_STAT, Reg.CLK_EVENT] s t ∧ t.chip.clk = k) ∧
    (c.fbOk = true → exec .fbrcStartTimeout s = .next s) ∧
    (up = true → pll.toNat < 2 → ∃ t : State, exec (.pllLockLoss pll) s = .next t ∧ t.chip.sys.up = false ∧
      t.chip.regBit Reg.CLK_RESET_CAUSE (1 + pll.toNat) = true ∧ t.chip.eng = Eng.reset ∧ t.chip.mem = c.mem ∧ t.chip.sys.fieldBook = c.sys.fieldBook) ∧
    (up = true → 2 ≤ pll.toNat → pll.toNat < 7 → ∃ t : State, exec (.pllLockLoss pll) s = .next t ∧ t.chip.regBit Reg.CLK_EVENT 3 = true ∧
      (pll.toNat < 6 → t.chip.regBit Reg.CLK_STAT pll.toNat = false) ∧ RegsBut [Reg.CLK_STAT, Reg.CLK_EVENT] s t ∧ { t.chip with regs := c.regs } = c) ∧
    (up = false → exec (.pllLockLoss pll) s = .next s) ∧
    (free → Quiet s → ∃ t : State, exec (.internalResetRelease clks badA badB rec) s = .next t ∧ t.chip.sys.up = true ∧
      t.chip.regBit Reg.CLK_STAT 10 = k.hold ∧ t.chip.clk.hold = false ∧ t.chip.eng.ticking = true ∧ t.chip.eng.tick = 0 ∧ t.chip.eng.engine = .staked ∧
      (c.onFbrc = true → t.chip.dState = 4) ∧ (c.onFbrc = false → t.chip.dState = 0 ∨ t.chip.dState = 1)) ∧
    (¬ free → exec (.internalResetRelease clks badA badB rec) s = .next s) ∧
    (up = false → c.sys.resetN = true → c.sys.railsGood = true → ∃ t : State, exec .resetHoldTimeout s = .next t ∧ t.chip.sys.faultN = true ∧
      t.chip.regBit Reg.FLT_FAULTN 31 = true ∧ t.chip.sys.up = false ∧ t.chip.eng = c.eng) ∧
    ((up = true ∨ c.sys.resetN = false) → exec .resetHoldTimeout s = .next s)

/-- R41, R350 to R353, R355. -/
def Obligations.ClockGates : Prop :=
  ∀ (s : State) (unit : BitVec 5) (v : Word) (fu : BitVec 3) (host : Bool) (off : BitVec 30),
    let c := s.chip
    let u := unit.toNat
    let f := fu.toNat
    let gate := if u < 16 then Reg.CLK_SAP_GATE else Reg.CLK_GATE_STAT
    let bit := if u < 16 then u else if u = 16 then 18 else if u < 21 then u - 3 else u - 2
    let ok (k : Nat) : Prop :=
      (k = 0 → ∀ kind i : Nat, (kind, i) ∈ allPorts → c.portEn kind i = false) ∧
      (k = 2 → (∀ m : Nat, m < 4 → c.macEn m = false) ∧ ∀ e ∈ c.net.streams, e.2.en = false) ∧
      (k = 3 → ∀ m : Nat, m < 8 → c.modEn m = false) ∧ (k = 4 → c.dma.queue = [])
    (u < 23 → c.gateWork u = false → u ∉ c.dmaUnits → ∃ t : State, exec (.gateClose unit) s = .next t ∧ t.chip.regBit gate bit = false ∧
      (∀ j : Nat, j < 32 → j ≠ bit → t.chip.regBit gate j = c.regBit gate j) ∧ RegsBut [gate] s t ∧ { t.chip with regs := c.regs } = c) ∧
    (c.gateWork u = true ∨ u ∈ c.dmaUnits → exec (.gateClose unit) s = .next s) ∧
    (c.pfUp false = true → c.cmd.session.isOpen = true → ∃ t : State, exec (.gateForceWrite v) s = .next t ∧
      (∀ k : Nat, k < 5 → (t.chip.forced k = true ↔ v.getLsbD k = true ∧ ok k)) ∧
      (v.toNat % 32 = 0 → t.chip.reg Reg.CLK_REASON = c.reg Reg.CLK_REASON) ∧
      (v.toNat % 32 ≠ 0 → (∃ k : Nat, k < 5 ∧ v.getLsbD k = true ∧ ¬ ok k) → t.chip.reg Reg.CLK_REASON = 6) ∧
      (v.toNat % 32 ≠ 0 → (∀ k : Nat, k < 5 → v.getLsbD k = true → ok k) → t.chip.reg Reg.CLK_REASON = 0) ∧
      (v.getLsbD 0 = true → ok 0 → t.chip.regFld Reg.CLK_SAP_GATE 15 0 = 0) ∧
      RegsBut [Reg.CLK_GATE_FORCE, Reg.CLK_REASON, Reg.CLK_SAP_GATE, Reg.CLK_GATE_STAT] s t ∧ { t.chip with regs := c.regs } = c) ∧
    (c.cmd.session.isOpen = false → exec (.gateForceWrite v) s = .next s) ∧
    (f < 5 → c.forced f = true → ∃ t : State, exec (.forceHit fu host off) s = .next t ∧ CountsOne Reg.CLK_FORCE_HIT s t ∧
      t.chip.regFld Reg.CLK_FORCE_HIT 31 29 = f ∧ t.chip.regBit Reg.CLK_EVENT 4 = true ∧
      RegsBut [Reg.CLK_FORCE_HIT, Reg.CLK_EVENT, Reg.GCTL_ABORT_CNT, Reg.GCTL_ABORT_LAST] s t ∧
      { t.chip with regs := c.regs, host := c.host } = c ∧
      (host = true → t.chip.host.rsp.status = 2 ∧ CountsOne Reg.GCTL_ABORT_CNT s t ∧ t.chip.reg Reg.GCTL_ABORT_LAST = BitVec.ofNat 32 off.toNat) ∧
      (host = false → t.chip.host = c.host ∧ t.chip.reg Reg.GCTL_ABORT_CNT = c.reg Reg.GCTL_ABORT_CNT)) ∧
    (c.forced f = false → exec (.forceHit fu host off) s = .next s) ∧
    (c.pfUp false = true → ∃ t : State, exec (.clkObsWrite v) s = .next t ∧ t.chip.reg Reg.CLK_OBS = v &&& 0x8FF0FFFF ∧
      t.chip.reg Reg.CLK_OBS_EFF = BitVec.ofNat 32 (max (v.toNat % 65536 + 1) ([1, 1, 1, 1, 6, 4, 1, 4, 16, 2, 3, 2, 2].getD (v.toNat / 2 ^ 24 % 16) 1)) ∧
      RegsBut [Reg.CLK_OBS, Reg.CLK_OBS_EFF] s t ∧ { t.chip with regs := c.regs } = c)

/-- R295, R296, R352, R365, R366, R368 to R370, R372, R373, R379, R380. -/
def Obligations.PortCommands : Prop :=
  ∀ (s : State) (e : Sched) (x : Rate) (clks : Word) (eighth : BitVec 3),
    let c := s.chip
    let q := parseReq e.req
    let p := q.p 0 1
    let k := q.p 0 1
    let i := q.p 1 1
    let known := i < portCount k
    let idle := c.portEn k i = false ∧ c.portArmed k i = false
    let failed (t : State) : Prop := CountsOne (Reg.CMD_EFFECT_FAIL (chPf1 e.ch)) s t ∧ t.chip.regFld (Reg.CMD_EFFECT_FAIL (chPf1 e.ch)) 31 16 = q.op
    let run (op : Nat) (f : State → Prop) : Prop := c.EffectDue e op → (op = 0x0502 ∨ op = 0x0505 ∨ c.forced 0 = false) → ∃ t : State,
      exec .commandEffect s = .next t ∧ t.chip.cmd.sched = c.cmd.sched.erase e ∧ t.chip.eng = c.eng ∧ t.chip.cells = c.cells ∧ t.chip.mem = c.mem ∧ f t
    let cfg := c.reg (portCfg k i)
    let w := widthBits (fld cfg 23 22)
    let fr := fld cfg 13 3
    let d := 2048 / x.mult
    let slotBad := w < wordBits (fld cfg 21 20) ∨ (fld cfg 29 28 < 2 ∧ (fr % 2 = 1 ∨ fr < 2 * w)) ∨ (2 ≤ fld cfg 29 28 ∧ fr < fld cfg 19 14 * w)
    let divBad := d < 2 * fr ∨ d < 2 * mclkMult (fld cfg 2 0)
    let madiBad := (x.mult = 1 ∧ cfg.getLsbD 29 = true) ∨ x.mult = 4
    let beyond := (c.setBit (portCfg k i) 31 true).limitsHold = false
    let set := armSet (q.p 0 2) (q.p 2 1) (q.p 3 1)
    let released (t : State) : Prop := (∀ a ∈ c.armed, t.chip.portArmed a.1 a.2 = false ∧ (c.sapForced = false → t.chip.portEn a.1 a.2 = true)) ∧
      t.chip.reg Reg.SAP_START_CFG = 0 ∧ t.chip.reg Reg.SAP_START_MASK = 0 ∧ t.chip.reg Reg.SAP_REL_TICK_LO = BitVec.ofNat 32 c.tickN ∧
      t.chip.reg Reg.SAP_REL_TICK_HI = BitVec.ofNat 32 (c.tickN / 2 ^ 32) ∧ t.chip.regBit Reg.SAP_EVENT 4 = true ∧ t.chip.sap.release = none
    let caught := c.isArmed = true ∧ c.regBit Reg.SAP_START_CFG 30 = true ∧ c.sap.release = none ∧ c.sap.captured = none ∧ c.eng.ticking = true
    let block : List Byte := bytesFrom q.par 8 24
    (∀ op ∈ [0x0501, 0x0503, 0x0504, 0x0506, 0x0508, 0x0509], c.EffectDue e op → c.forced 0 = true → ∃ t : State, exec .commandEffect s = .next t ∧ t.chip.cmd.sched = c.cmd.sched.erase e ∧
      CountsOne Reg.CLK_FORCE_HIT s t ∧ t.chip.regFld Reg.CLK_FORCE_HIT 31 29 = 0 ∧ t.chip.regBit Reg.CLK_EVENT 4 = true ∧
      RegsBut [Reg.CLK_FORCE_HIT, Reg.CLK_EVENT] s t ∧ t.chip.sap = c.sap) ∧
    run 0x0501 (fun t => p < 16 → tdmParamsOk q.par = true → RegsBut [Reg.SAP_TDM_CFG p] s t ∧ t.chip.sap = c.sap ∧
      ((c.portEn 0 p = true ∨ c.portArmed 0 p = true) → t.chip.regs = c.regs) ∧
      (c.portEn 0 p = false → c.portArmed 0 p = false → (let v := t.chip.reg (Reg.SAP_TDM_CFG p)
        fld v 31 30 = 0 ∧ fld v 29 28 = q.p 1 1 ∧ fld v 19 14 = q.p 2 1 ∧ widthBits (fld v 23 22) = q.p 3 1 ∧ wordBits (fld v 21 20) = q.p 4 1 ∧
        v.getLsbD 27 = (q.p 5 1).testBit 0 ∧ v.getLsbD 26 = (q.p 5 1).testBit 1 ∧ v.getLsbD 25 = (q.p 5 1).testBit 2 ∧
        v.getLsbD 24 = (q.p 5 1).testBit 3 ∧ fld v 13 3 = q.p 6 2 ∧ mclkMult (fld v 2 0) = q.p 8 2))) ∧
    run 0x0502 (fun t => known → c.eng.rate = some x →
      (c.portEn k i = true → t.chip.regs = c.regs) ∧
      (c.portEn k i = false → t.chip.regFld Reg.SAP_REASON 31 28 = k ∧ t.chip.regFld Reg.SAP_REASON 27 24 = i ∧
        (let why := t.chip.regFld Reg.SAP_REASON 15 0
         (c.sapForced = true → why = 6) ∧ (c.sapForced = false → c.portArmed k i = true → why = 0x0203) ∧
         (c.sapForced = false → c.portArmed k i = false →
           (k = 0 → slotBad → why = 0x0202) ∧ (k = 0 → ¬ slotBad → divBad → why = 0x0201) ∧ (3 ≤ k → madiBad → why = 0x0202) ∧
           ((k = 0 → ¬ slotBad ∧ ¬ divBad) → (3 ≤ k → ¬ madiBad) → beyond → why = 7) ∧
           ((k = 0 → ¬ slotBad ∧ ¬ divBad) → (3 ≤ k → ¬ madiBad) → ¬ beyond → why = 0)) ∧
         (why = 0 → t.chip.portEn k i = true) ∧ (why ≠ 0 → t.chip.portEn k i = false ∧ failed t ∧ t.chip.sap = c.sap)))) ∧
    run 0x0503 (fun t => known → t.chip.portEn k i = false ∧ t.chip.portArmed k i = false ∧ (idle → t.chip.regs = c.regs ∧ t.chip.sap = c.sap) ∧
      (c.portEn k i = true → k = 1 → t.chip.reg (Reg.SAP_AESRX_STAT i) = 0 ∧ t.chip.rx i = Rx.reset) ∧
      (c.portEn k i = true → k = 3 → t.chip.reg (Reg.SAP_MADIRX_STAT i) = 0 ∧ t.chip.rx (8 + i) = Rx.reset) ∧
      (c.portArmed k i = true → (k = 0 → t.chip.regBit Reg.SAP_START_MASK i = false) ∧ (k = 2 → t.chip.regBit Reg.SAP_START_CFG i = false) ∧
        (k = 4 → t.chip.regBit Reg.SAP_START_CFG (8 + i) = false))) ∧
    run 0x0504 (fun t => p < 16 → t.chip.reg (Reg.SAP_TDM_RXMASK p) = BitVec.ofNat 32 (q.p 4 4) ∧ t.chip.reg (Reg.SAP_TDM_TXMASK p) = BitVec.ofNat 32 (q.p 8 4) ∧
      t.chip.tdm p = { c.tdm p with rxMask := BitVec.ofNat 32 (q.p 4 4), txMask := BitVec.ofNat 32 (q.p 8 4) } ∧
      RegsBut [Reg.SAP_TDM_RXMASK p, Reg.SAP_TDM_TXMASK p] s t ∧ ∀ j : Nat, j ≠ p → t.chip.tdm j = c.tdm j) ∧
    run 0x0505 (fun t => q.p 3 1 < 16 → q.p 4 1 ≤ 1 → q.p 5 1 ≤ 1 →
      (c.isArmed = false → c.armReason set = 0 → c.sapForced = false → (∀ a ∈ set, t.chip.portArmed a.1 a.2 = true) ∧
        t.chip.isArmed = true ∧ t.chip.armed = set ∧ t.chip.regFld Reg.SAP_START_CFG 30 30 = q.p 4 1 ∧ t.chip.regFld Reg.SAP_START_CFG 29 29 = q.p 5 1) ∧
      ((c.isArmed = true ∨ c.armReason set ≠ 0 ∨ c.sapForced = true) → failed t ∧ t.chip.sap = c.sap ∧
        RegsBut [Reg.SAP_REASON, Reg.CMD_EFFECT_FAIL (chPf1 e.ch)] s t)) ∧
    run 0x0506 (fun t => (c.isArmed = true → c.regBit Reg.SAP_START_CFG 30 = false → released t) ∧
      ((c.isArmed = false ∨ c.regBit Reg.SAP_START_CFG 30 = true) → t.chip.regs = c.regs ∧ t.chip.sap = c.sap)) ∧
    run 0x0508 (fun t => i < 8 → (p = 1 → t.chip.regFld (Reg.SAP_AESRX_CFG i) 15 0 = q.p 2 2 ∧ RegsBut [Reg.SAP_AESRX_CFG i] s t) ∧
      (p ≠ 1 → t.chip.regBit (Reg.SAP_AESTX_CFG i) 29 = (q.p 4 1).testBit 0 ∧ t.chip.csRegs i = block) ∧ t.chip.sap = c.sap) ∧
    run 0x0509 (fun t => i < 4 → (p = 3 ∨ p = 4) → t.chip.sap = c.sap ∧ t.chip.portEn k i = c.portEn k i ∧
      (¬ idle → t.chip.regFld (portCfg k i) 29 28 = c.regFld (portCfg k i) 29 28) ∧
      (idle → (t.chip.regBit (portCfg k i) 29 = true ↔ q.p 2 1 = 1) ∧ (t.chip.regBit (portCfg k i) 28 = true ↔ q.p 3 1 = 56)) ∧
      (p = 3 → t.chip.regFld (portCfg 3 i) 15 0 = q.p 4 2) ∧ (p = 4 → t.chip.csRegs (8 + i) = block)) ∧
    ((c.sap.release = some c.tickN ∨ (c.sap.captured = some c.tickN ∧ c.followsOwner = false)) → c.isArmed = true → ∃ t : State, exec .commonStartRelease s = .next t ∧ released t ∧ t.chip.eng = c.eng) ∧
    (c.sap.release ≠ some c.tickN → ¬ (c.sap.captured = some c.tickN ∧ c.followsOwner = false) → exec .commonStartRelease s = .next s) ∧
    (c.sap.pulse = some (c.tickN + 2) → ∃ t : State, exec .startOutPulse s = .next t ∧
      t.chip = { c with sap := { c.sap with pulse := none, pulses := c.sap.pulses + 1 } }) ∧
    (c.sap.pulse ≠ some (c.tickN + 2) → exec .startOutPulse s = .next s) ∧
    (∃ t : State, exec (.startInEdge clks eighth) s = .next t ∧
      (caught → t.chip.sap = { c.sap with
        pulse := if c.regBit Reg.SAP_START_CFG 29 then some (c.tickN + 2) else c.sap.pulse
        release := if c.followsOwner then none else some (c.tickN + 2)
        captured := if c.followsOwner then some (c.tickN + 2) else none }) ∧
      (¬ caught → t.chip.sap = c.sap))

/-- R169, R312, R362 to R364, R367, R374 to R378, R381 to R383, R386 to R388. -/
def Obligations.ReceiversAndCue : Prop :=
  ∀ (s : State) (port rx4 : BitVec 4) (slot pair : BitVec 5) (data delay : Word) (rx : BitVec 3) (good : Bool) (freq : Word) (edge0 : Half) (rate : BitVec 4) (a b : SubFrame)
    (mrx : BitVec 2) (subs : List SubFrame) (x : Rate) (ch : BitVec 4) (cp : BitVec 1) (plugged : Bool) (o1 o2 : Word),
    let c := s.chip
    let tp := port.toNat
    let cfg := c.reg (Reg.SAP_TDM_CFG tp)
    let ep := 32 * tp + slot.toNat
    let taken := slot.toNat < tdmSlots cfg ∧ (c.tdm tp).rxMask.getLsbD slot.toNat = true
    let word := wordBits (fld cfg 21 20)
    let cyc := c.datumCycles
    let first := slot.toNat * (if fld cfg 29 28 < 2 then fld cfg 13 3 / 2 else widthBits (fld cfg 23 22))
    let cut := 32 - (if 2 * fld cfg 13 3 ≤ cyc then word else min word (cyc / 2 - first))
    let got : Word := (data >>> cut) <<< cut
    let when_ : Nat := if c.owns = true then 1 else if 2 * edge0.toInt < -(cyc : Int) then 0 else if 2 * edge0.toInt < cyc then 1 else 2
    let rateOk (k : Nat) : Prop := ∃ y : Rate, c.eng.rate = some y ∧
      (let want := 1000 * y.hz / (if 8 ≤ k ∧ c.smux (c.reg (portCfg 3 (k - 8))) = true then 2 else 1)
       1000 * ((freq.toNat : Int) - want).natAbs ≤ want)
    let value (k n : Nat) (u : SubFrame) : Word := if u.err then (Map.get rxCh0 (c.rx k).chans n).prev else u.audio.setWidth 32 <<< 8
    let frame (i : Instr) (k : Nat) (f : List Word → Prop) : Prop := c.rxEn k = true → Quiet s → ∃ t : State, exec i s = .next t ∧
      (good = true → (t.chip.rx k).good = (c.rx k).good + 1 ∧ (t.chip.rxLock k = true ↔ c.rxLock k = true ∨ 16 ≤ (c.rx k).good + 1)) ∧
      (good = false → (t.chip.rxLock k = true ↔ c.rxLock k = true ∧ (c.rx k).bad + 1 < 4)) ∧
      (t.chip.regBit (rxStat k) 30 = true ↔ rateOk k) ∧ t.chip.regFld (rxStat k) 15 12 = rate.toNat ∧
      (t.chip.rxLock k = true → ¬ rateOk k → (t.chip.rx k).slip = (c.rx k).slip) ∧
      (t.chip.rxLock k = true → rateOk k → (∃ g : List Word, f g ∧
        (t.chip.rx k).slip = (if 8 ≤ (c.rx k).slip.length then (c.rx k).slip.drop 1 else (c.rx k).slip) ++ [g]) ∧
        (8 ≤ (c.rx k).slip.length → CountsOne Reg.SAP_SLIP_CNT s t) ∧ ((c.rx k).slip.length < 8 → t.chip.reg Reg.SAP_SLIP_CNT = c.reg Reg.SAP_SLIP_CNT))
    let k := rx4.toNat
    let pr := Map.get rxPair0 (c.rx k).pairs pair.toNat
    let beyond := pr.burst = true ∧ c.naHold k ≤ pr.since
    let m := mrx.toNat
    let tx := c.txPort (8 + m)
    let mcfg := c.reg (Reg.SAP_MADITX_CFG m)
    let due := (c.portEn 4 m = true ∨ c.portArmed 4 m = true) ∧ ¬ (c.smux mcfg = true ∧ c.tickN % 2 = 1)
    let late := 1000000000 * (if c.smux mcfg then 2 else 1) < 4 * delay.toNat * x.hz
    let chans := (c.portChans 4 m).2
    let r := c.reqOf ch.toNat
    let q := cp.toNat
    let win (r : Nat) : Nat := if r < 60 then 0 else if 110 ≤ r ∧ r ≤ 160 then 1 else if 200 ≤ r ∧ r ≤ 290 then 2 else if 400 ≤ r ∧ r ≤ 560 then 3
      else if 800 ≤ r ∧ r ≤ 50000 then 4 else if 100000 < r then 5 else 6
    let s1 := win o1.toNat
    let s2 := win o2.toNat
    let u := c.cue q
    let stat (t : State) (hi lo : Nat) : Nat := t.chip.regFld (Reg.CUE_STAT q) hi lo
    let was := c.regBit (Reg.CUE_STAT q) 31
    let on := c.regBit (Reg.CUE_CFG q) 31 = true ∧ c.regBit Reg.CLK_GATE_FORCE 1 = false
    let steady := c.regFld (Reg.CUE_CFG q) 7 0
    let enough := steady ≤ u.detRun + 1
    let class_ (t : State) (y n : Nat) : Prop := stat t 30 28 = (if y = 4 then 3 else if n = 4 then 3 else if y = 0 ∧ n = 0 then 2 else 1) ∧
      (y = 4 → stat t 27 26 = 0) ∧ (y ≠ 4 → n = 4 → stat t 27 26 = 3)
    let code := if c.regFld (Reg.CUE_STAT q) 27 27 = 0 then s1 else s2
    let cur := c.regFld (Reg.CUE_STAT q) 17 14
    let st := if code ≤ 3 then code else 4
    let mask := if st = 4 then 0 else 2 ^ st
    let rn := if u.seen = st then u.run + 1 else 1
    let pressed := code < 6 ∧ mask ≠ cur ∧ steady ≤ rn
    let stuck := cur ≠ 0 ∧ c.regFld (Reg.CUE_STAT q) 21 18 = 0 ∧ 1000 * c.regFld (Reg.CUE_CFG q) 23 16 ≤ u.heldMs ∧ c.regBit Reg.CLK_GATE_FORCE 1 = false
    let slow := c.regFld (Reg.CUE_STAT q) 30 28 = 1 ∧ 500 ≤ u.classMs ∧ c.regBit Reg.CLK_GATE_FORCE 1 = false
    (c.portEn 0 tp = true → c.eng.ticking = true → c.level 2 = 0 → ∃ t : State, exec (.tdmSlotReceived port slot ⟨data, edge0⟩) s = .next t ∧
      (when_ = 2 → t.chip.chain = c.chain ∧ t.chip.regs = c.regs ∧
        t.chip.tdm tp = { c.tdm tp with early := some (((c.tdm tp).early.getD []) ++ if slot.toNat < tdmSlots cfg then [(slot.toNat, got)] else []) }) ∧
      (when_ ≠ 2 → t.chip.tdm tp = { c.tdm tp with heard := (c.tdm tp).heard || when_ == 1 } ∧ (¬ taken → t.chip.chain = c.chain ∧ t.chip.regs = c.regs)) ∧
      (when_ ≠ 2 → taken → t.chip.inCh ep = { c.inCh ep with receiving := { v := got, p := false }, got := (c.inCh ep).got + 1 } ∧
        (∀ j : Nat, j ≠ ep → t.chip.inCh j = c.inCh j) ∧ ((c.inCh ep).got = 0 → t.chip.regs = c.regs) ∧
        (0 < (c.inCh ep).got → CountsOne Reg.ENG_LATE_CNT s t))) ∧
    ((c.portEn 0 tp = false ∨ c.eng.ticking = false) → exec (.tdmSlotReceived port slot ⟨data, edge0⟩) s = .next s) ∧
    frame (.aes3FrameReceived rx good rate freq a b) rx.toNat (fun g => g = [value rx.toNat 0 a, value rx.toNat 1 b]) ∧
    (c.rxEn rx.toNat = true → Quiet s → ∃ t : State, exec (.aes3FrameReceived rx good rate freq a b) s = .next t ∧
      t.chip.regFld Reg.SAP_PAR_CNT 15 0 = min 65535 (c.regFld Reg.SAP_PAR_CNT 15 0 + ((if a.err then 1 else 0) + if b.err then 1 else 0)) ∧
      t.chip.regBit (rxStat rx.toNat) 25 = a.v ∧ t.chip.regBit (rxStat rx.toNat) 29 = (Map.get rxPair0 (t.chip.rx rx.toNat).pairs 0).muted) ∧
    (c.rxEn rx.toNat = false → exec (.aes3FrameReceived rx good rate freq a b) s = .next s) ∧
    (subs.length ≤ 64 → frame (.madiFrameReceived mrx good rate freq subs) (8 + m) (fun g => g.length = subs.length ∧
      ∀ (j : Nat) (v : SubFrame), subs[j]? = some v → g[j]? = some (if v.active then value (8 + m) j v else 0))) ∧
    (subs.length ≤ 64 → c.rxEn (8 + m) = true → Quiet s → ∃ t : State, exec (.madiFrameReceived mrx good rate freq subs) s = .next t ∧
      t.chip.regFld (rxStat (8 + m)) 26 20 = subs.length ∧ ∀ (j : Nat) (v : SubFrame), subs[j]? = some v →
        (if j < 32 then t.chip.regBit (Reg.SAP_MADIRX_ACT_LO m) j else t.chip.regBit (Reg.SAP_MADIRX_ACT_HI m) (j - 32)) = v.active) ∧
    (c.rxEn (8 + m) = false → exec (.madiFrameReceived mrx good rate freq subs) s = .next s) ∧
    (k < 12 → beyond → ∃ t : State, exec (.nonaudioHoldEnd rx4 pair) s = .next t ∧
      (let p1 := Map.get rxPair0 (t.chip.rx k).pairs pair.toNat
       p1.burst = false ∧ p1.muted = ((Map.get rxCh0 (c.rx k).chans (2 * pair.toNat)).na || (Map.get rxCh0 (c.rx k).chans (2 * pair.toNat + 1)).na)) ∧
      t.chip.reg Reg.SAP_NA_CNT = c.reg Reg.SAP_NA_CNT ∧ (t.chip.rx k).slip = (c.rx k).slip) ∧
    (¬ beyond → exec (.nonaudioHoldEnd rx4 pair) s = .next s) ∧
    (k < 12 → c.rxEn k = true → c.rxLock k = true → Quiet s → ∃ t : State, exec (.receiverLockLoss rx4) s = .next t ∧ t.chip.rxLock k = false ∧
      (t.chip.rx k).slip = [] ∧ (t.chip.rx k).reading = false ∧ t.chip.regFld (rxStat k) 19 16 = 0 ∧ t.chip.regBit Reg.SAP_EVENT 3 = true ∧
      (c.refEn (6 + k) = true → c.dState ≠ 4 → (t.chip.mon (6 + k)).tripped = true ∧ ((c.mon (6 + k)).tripped = false → t.chip.refQual (6 + k) = false))) ∧
    ((c.rxEn k = false ∨ c.rxLock k = false) → exec (.receiverLockLoss rx4) s = .next s) ∧
    (c.eng.rate = some x → due → late → Quiet s → ∃ t : State, exec (.madiFrameStart mrx delay) s = .next t ∧
      t.chip.sap = { c.sap with txs := t.chip.sap.txs } ∧ t.chip.txPort (8 + m) = { tx with line := [] } ∧
      (∀ j : Nat, j ≠ 8 + m → t.chip.txPort j = c.txPort j) ∧
      CountsOne Reg.SAP_SLIP_CNT s t ∧ t.chip.regFld Reg.SAP_SLIP_CNT 31 28 = 4 ∧ t.chip.regFld Reg.SAP_SLIP_CNT 27 24 = m) ∧
    (c.eng.rate = some x → due → ¬ late → ∃ t : State, exec (.madiFrameStart mrx delay) s = .next t ∧ t.chip.regs = c.regs ∧
      (let y := t.chip.txPort (8 + m)
       y.frames = tx.frames + 1 ∧ y.pos = (if tx.frames = 0 then 0 else (tx.pos + 1) % 192) ∧
       y.cs = (if y.pos = 0 then csSent (c.csRegs (8 + m)) else tx.cs) ∧ y.line.length = (if c.smux mcfg then 2 else 1) * chans ∧
       ∀ j : Nat, j < y.line.length →
         (let w := y.line.getD j 0
          let now (i : Nat) : Word := (c.outCh (0x4300 + 64 * m + i)).presented.v
          let v : Word := if c.portEn 4 m = false then 0
            else if c.smux mcfg = true then (if j % 2 = 0 then tx.before.getD (j / 2) 0 else now (j / 2)) else now j
          fld w 27 4 = v.toNat / 256 ∧ w.getLsbD 0 = decide (j = 0) ∧ w.getLsbD 1 = true ∧ w.getLsbD 3 = decide (y.pos = 0) ∧
          w.getLsbD 28 = false ∧ w.getLsbD 29 = false ∧ w.getLsbD 30 = (y.cs.getD (y.pos / 8) 0).getLsbD (y.pos % 8) ∧
          ((List.range 28).filter (fun i => w.getLsbD (i + 4))).length % 2 = 0))) ∧
    ((c.eng.rate = none ∨ ¬ due) → exec (.madiFrameStart mrx delay) s = .next s) ∧
    (c.isFresh ch.toNat 0x0C01 = true → r.len = 8 → r.noTick = true → r.handle = 0 → r.p 0 1 < 2 → r.p 1 1 ≤ 1 → 2 ≤ r.p 2 2 → r.p 2 2 ≤ 100 →
      5 ≤ r.p 4 2 → r.p 4 2 ≤ 120 → r.z 6 2 = true → c.regBit Reg.CLK_GATE_FORCE 1 = false → ∃ t : State, exec (.cueCfg ch) s = .next t ∧
      t.chip.Answers ch.toNat 0 c.eng.tick [] ∧ (let v := t.chip.reg (Reg.CUE_CFG (r.p 0 1))
        fld v 31 31 = r.p 1 1 ∧ fld v 23 16 = r.p 4 2 ∧ fld v 7 0 = r.p 2 2) ∧
      (r.p 1 1 = 0 → t.chip.reg (Reg.CUE_STAT (r.p 0 1)) = 0x3F00 ∧ t.chip.cue (r.p 0 1) = Cue.reset) ∧
      (r.p 1 1 = 1 → t.chip.cues = c.cues ∧ t.chip.regBit Reg.CLK_GATE_STAT 18 = true)) ∧
    (on → ∃ t : State, exec (.cueMeasure cp plugged o1 o2) s = .next t ∧ t.chip.eng = c.eng ∧
      t.chip.regBit (Reg.CUE_STAT q) 31 = (if enough then plugged else was) ∧
      (plugged ≠ was → ¬ enough → (t.chip.cue q).detRun = u.detRun + 1) ∧ (plugged = was → (t.chip.cue q).detRun = 0) ∧
      (plugged ≠ was → enough → t.chip.regBit Reg.CUE_EVENT (5 * q + if plugged then 0 else 1) = true) ∧
      (plugged = false → was = true → enough → stat t 30 28 = 0 ∧ stat t 21 14 = 0 ∧ t.chip.cue q = Cue.reset) ∧
      (c.cueDrives = true → plugged = true → was = false → enough → class_ t s1 s2) ∧
      (c.cueDrives = true → plugged = was → c.regFld (Reg.CUE_STAT q) 30 28 = 1 → class_ t s1 s2 ∧ (t.chip.cue q).classMs = u.classMs + 1) ∧
      (c.cueDrives = true → plugged = was → c.regFld (Reg.CUE_STAT q) 30 28 = 3 →
        (pressed → stat t 17 14 = mask ∧ stat t 21 18 = 0 ∧ t.chip.regBit Reg.CUE_EVENT (5 * q + 3) = true) ∧ (¬ pressed → stat t 21 14 = c.regFld (Reg.CUE_STAT q) 21 14)) ∧
      (c.cueDrives = true → plugged = was → c.regFld (Reg.CUE_STAT q) 30 28 ≠ 3 →
        stat t 13 11 = (if s1 < 6 then s1 else c.regFld (Reg.CUE_STAT q) 13 11) ∧ stat t 10 8 = (if s2 < 6 then s2 else c.regFld (Reg.CUE_STAT q) 10 8)) ∧
      (c.cueDrives = false → plugged = was → t.chip.regs = c.regs)) ∧
    (¬ on → exec (.cueMeasure cp plugged o1 o2) s = .next s) ∧
    (slow → ∃ t : State, exec (.cueClassifyTimeout cp) s = .next t ∧ stat t 30 26 = 16 ∧ t.chip.regBit Reg.CUE_EVENT (5 * q + 2) = true ∧
      RegsBut [Reg.CUE_STAT q, Reg.CUE_EVENT] s t ∧ t.chip.cues = c.cues) ∧
    (¬ slow → exec (.cueClassifyTimeout cp) s = .next s) ∧
    (stuck → ∃ t : State, exec (.cueButtonStuck cp) s = .next t ∧ stat t 21 18 = cur ∧ stat t 17 14 = cur ∧ t.chip.regBit Reg.CUE_EVENT (5 * q + 4) = true ∧
      RegsBut [Reg.CUE_STAT q, Reg.CUE_EVENT] s t ∧ t.chip.cues = c.cues) ∧
    (¬ stuck → exec (.cueButtonStuck cp) s = .next s)

/-- R294, R295, R312, R336, R352, R353, R399, R402, R411, R417. -/
def Obligations.NetCommands : Prop :=
  ∀ (s : State) (e : Sched) (x : Rate) (ch : BitVec 4) (tx : Bool) (y : Sending),
    let c := s.chip
    let q := parseReq e.req
    let m := q.p 0 1
    let failed (t : State) : Prop := CountsOne (Reg.CMD_EFFECT_FAIL (chPf1 e.ch)) s t ∧ t.chip.regFld (Reg.CMD_EFFECT_FAIL (chPf1 e.ch)) 31 16 = q.op
    let run (op : Nat) (f : State → Prop) : Prop := c.EffectDue e op → (op = 0x0602 ∨ op = 0x0606 ∨ c.forced 2 = false) → ∃ t : State,
      exec .commandEffect s = .next t ∧ t.chip.cmd.sched = c.cmd.sched.erase e ∧ t.chip.eng = c.eng ∧ t.chip.cells = c.cells ∧ t.chip.mem = c.mem ∧ f t
    let fits := 1518 ≤ c.maxFrame m ∧ c.maxFrame m ≤ 9216
    let k := (if tx then 512 else 0) + q.p 0 2
    let k3 := 512 * q.p 2 1 + q.p 0 2
    let others (t : State) (k : Nat) : Prop := ∀ j : Nat, j ≠ k → t.chip.stream j = c.stream j
    let v := c.streamCheck k3
    let lost := q.p 0 1 = 0 ∧ c.refEn 5 = true ∧ (c.mon 5).tripped = false ∧ c.dState ≠ 4
    let n := ch.toNat
    let r := c.reqOf n
    let h := bytesFrom r.par 32 (r.p 2 2)
    let data := memRead c.mem.dram (r.p 8 8) (r.p 16 4)
    let raw : TxFrame := { mac := r.p 0 1, kind := 2, bytes := h.take 6 ++ c.macAddr (r.p 0 1) ++ (h ++ data).drop 12, src := n }
    let sound := ∀ j ∈ tilesOf (r.p 8 8) (r.p 16 4), c.mem.fails .dram j = false ∧ marked (c.mem.entry .dram j) = false
    (∀ op ∈ [0x0601, 0x0603, 0x0604, 0x0605, 0x0607], c.EffectDue e op → c.forced 2 = true → ∃ t : State, exec .commandEffect s = .next t ∧ t.chip.cmd.sched = c.cmd.sched.erase e ∧
      CountsOne Reg.CLK_FORCE_HIT s t ∧ t.chip.regFld Reg.CLK_FORCE_HIT 31 29 = 2 ∧ t.chip.regBit Reg.CLK_EVENT 4 = true ∧
      RegsBut [Reg.CLK_FORCE_HIT, Reg.CLK_EVENT] s t ∧ t.chip.net = c.net) ∧
    run 0x0601 (fun t => m < 4 → q.p 4 2 ≤ 9216 → q.p 1 1 ≤ 1 → q.p 2 1 ≤ 1 →
      (c.macEn m = true → t.chip.regs = c.regs ∧ t.chip.net = c.net) ∧
      (c.macEn m = false → t.chip.macEn m = false ∧ t.chip.maxFrame m = q.p 4 2 ∧ t.chip.regFld (Reg.NET_MAC_CFG m) 30 30 = q.p 1 1 ∧
        t.chip.regFld (Reg.NET_MAC_CFG m) 29 29 = q.p 2 1 ∧ t.chip.regBit (Reg.NET_MAC_CFG m) 28 = (q.p 3 1).testBit 0 ∧
        t.chip.regBit (Reg.NET_MAC_CFG m) 27 = (q.p 3 1).testBit 1 ∧ t.chip.regBit (Reg.NET_MAC_CFG m) 26 = (q.p 3 1).testBit 2 ∧
        t.chip.reg (Reg.NET_MAC_VLAN m) = BitVec.ofNat 32 (q.p 6 2) ∧ t.chip.macAddr m = leBytes 4 (q.p 8 4) ++ leBytes 2 (q.p 12 2) ∧
        t.chip.regFld (Reg.NET_RXQ_SIZE m) 15 0 = q.p 44 2 ∧ t.chip.regFld (Reg.NET_RXQ_SIZE m) 23 16 = 1 + (q.p 4 2 + 255) / 256 ∧
        t.chip.reg (Reg.NET_RXQ_HEAD m) = 0 ∧ t.chip.reg (Reg.NET_RXQ_TAIL m) = 0 ∧
        t.chip.mac m = { ipv4 := bytesFrom q.par 16 4, ipv6 := bytesFrom q.par 20 16, base := q.p 36 8 } ∧ t.chip.net.streams = c.net.streams)) ∧
    run 0x0602 (fun t => m < 4 → t.chip.net = c.net ∧ (q.p 1 1 = 1 → c.macEn m = true → t.chip.regs = c.regs) ∧
      (q.p 1 1 = 1 → c.macEn m = false → (c.forced 2 = false → fits → t.chip.macEn m = true ∧ t.chip.reg (Reg.NET_MAC_REASON m) = 0) ∧
        (c.forced 2 = true → t.chip.macEn m = false ∧ t.chip.reg (Reg.NET_MAC_REASON m) = 6 ∧ failed t) ∧
        (c.forced 2 = false → ¬ fits → t.chip.macEn m = false ∧ t.chip.reg (Reg.NET_MAC_REASON m) = 0x0301 ∧ failed t)) ∧
      (q.p 1 1 ≠ 1 → t.chip.macEn m = false) ∧
      ((q.p 1 1 ≠ 1 ∨ (c.macEn m = false ∧ c.forced 2 = false ∧ fits)) →
        t.chip.regBit (Reg.NET_MAC_STAT m) 24 = (!t.chip.macEn m || c.regBit (Reg.NET_MAC_STAT m) 27))) ∧
    run 0x0603 (fun t => m < 4 → t.chip.net = c.net ∧ (∀ j : Nat, j < 16 → t.chip.reg (Reg.NET_HASH m j) =
      (if q.p 1 1 = 1 then c.reg (Reg.NET_HASH m j) else 0) ||| BitVec.ofNat 32 (q.p (8 + 4 * j) 4)) ∧
      ∀ a : Nat, (∀ j : Nat, j < 16 → a ≠ Reg.NET_HASH m j) → t.chip.reg a = c.reg a) ∧
    run (if tx then 0x0605 else 0x0604) (fun t => q.p 0 2 < 512 → t.chip.regs = c.regs ∧ others t k ∧
      ((c.stream k).en = false → t.chip.stream k = { Stream.reset with cfg := q.par }) ∧ ((c.stream k).en = true → t.chip.stream k = c.stream k)) ∧
    run 0x0606 (fun t => q.p 0 2 < 512 → q.p 2 1 ≤ 1 → others t k3 ∧ ((c.stream k3).en = true → t.chip.stream k3 = c.stream k3 ∧ t.chip.regs = c.regs) ∧
      ((c.stream k3).en = false → t.chip.regFld Reg.NET_STRM_REASON 25 16 = k3 ∧
        t.chip.regFld Reg.NET_STRM_REASON 15 0 = (if c.forced 2 then 6 else v) ∧
        (c.forced 2 = false → v = 0 → t.chip.stream k3 = { Stream.reset with cfg := (c.stream k3).cfg, en := true }) ∧
        ((c.forced 2 = true ∨ v ≠ 0) → t.chip.stream k3 = c.stream k3 ∧ failed t))) ∧
    (c.eng.rate = some x → (c.stream k3).rate ≠ some x → v = 0x0302) ∧
    run 0x0607 (fun t => q.p 0 2 < 512 → q.p 2 1 ≤ 1 → t.chip.regs = c.regs ∧ others t k3 ∧ (t.chip.stream k3).en = false ∧
      (t.chip.stream k3).cfg = (c.stream k3).cfg ∧ (t.chip.stream k3).stats = (c.stream k3).stats ∧
      ((c.stream k3).en = true → (t.chip.stream k3).buf = [] ∧ (t.chip.stream k3).started = false) ∧ ((c.stream k3).en = false → t.chip.net = c.net)) ∧
    (c.EffectDue e 0x060A → (lost → Quiet s) → ∃ t : State, exec .commandEffect s = .next t ∧ t.chip.cmd.sched = c.cmd.sched.erase e ∧
      t.chip.net = { c.net with ptp := { Ptp.reset with cfg := q.par } } ∧ t.chip.mem = c.mem ∧ t.chip.cells = c.cells ∧
      (¬ lost → t.chip.regs = c.regs) ∧
      (lost → (t.chip.mon 5).tripped = true ∧ t.chip.regBit (refSTAT 5) 30 = false ∧ t.chip.refQual 5 = false)) ∧
    (c.isFresh n 0x0609 = true → c.chkNetSend r ≠ 0 → ∃ t : State, exec (.netSend ch) s = .next t ∧ OnlyChan n s t ∧
      t.chip.Answers n (c.chkNetSend r) 0xFFFFFFFFFFFFFFFF []) ∧
    (c.isFresh n 0x0609 = true → c.chkNetSend r = 0 → c.forced 2 = true → ∃ t : State, exec (.netSend ch) s = .next t ∧
      t.chip.Answers n 6 0xFFFFFFFFFFFFFFFF [] ∧ CountsOne Reg.CLK_FORCE_HIT s t ∧ t.chip.net = c.net ∧ t.chip.mem = c.mem) ∧
    (c.isFresh n 0x0609 = true → c.chkNetSend r = 0 → c.forced 2 = false → sound → ∃ t : State, exec (.netSend ch) s = .next t ∧ (t.chip.chan n).work = .accepted ∧
      t.chip.net.sends = c.net.sends ++ [{ ch := n, sent := 0, fail := false }] ∧ t.chip.mem = c.mem ∧ t.chip.regs = c.regs ∧
      (r.p 1 1 = 0 → t.chip.net.queue = c.net.queue ++ [raw]) ∧
      (r.p 1 1 = 1 → ∃ l : List TxFrame, t.chip.net.queue = c.net.queue ++ l ∧ l.length = (r.p 16 4 + r.p 4 2 - 1) / r.p 4 2 ∧
        ∀ f ∈ l, f.mac = r.p 0 1 ∧ f.kind = 2 ∧ f.src = n)) ∧
    (c.net.sends.find? (fun z => z.ch == n) = some y → (∀ f ∈ c.net.queue, ¬ (f.kind = 2 ∧ f.src = n)) → ∃ t : State, exec (.netSendDone ch) s = .next t ∧
      t.chip.Answers n (if y.fail then 9 else 0) c.eng.tick (leBytes 4 y.sent) ∧ t.chip.net = { c.net with sends := c.net.sends.filter (fun z => z.ch != n) }) ∧
    ((c.net.sends.find? (fun z => z.ch == n) = none ∨ ∃ f ∈ c.net.queue, f.kind = 2 ∧ f.src = n) → exec (.netSendDone ch) s = .next s)

/-- R394 to R397, R399 to R401, R407, R408, R414, R416. -/
def Obligations.NetFrames : Prop :=
  ∀ (s : State) (mac : BitVec 2) (b : List Byte) (clks v : Word) (u : Udp) (k leg n : Nat) (body : List Byte) (g : TxFrame) (ms : Master)
    (lock lf rf modabs los txf : Bool) (t1 : Int),
    let c := s.chip
    let m := mac.toNat
    let len := b.length
    let f := b.take (len - 4)
    let cfg := c.reg (Reg.NET_MAC_CFG m)
    let tagged := beField f 12 2 = 0x8100
    let vid := if tagged then beField f 14 2 % 4096 else 0
    let dst := f.take 6
    let bc := dst = List.replicate 6 0xFF
    let group := (beField f 0 1).testBit 0 = true ∧ ¬ bc
    let on := c.macEn m = true ∧ c.forced 2 = false ∧ Quiet s
    let st (d : Chip) (i : Nat) : DWord := Map.get (fun _ => (0 : DWord)) d.net.stats (16 * m + i)
    let step1 := 64 ≤ len ∧ len ≤ c.maxFrame m
    let step2 := step1 ∧ crc32 f = BitVec.ofNat 32 (leField b (len - 4) 4)
    let vlanOk := (vid ≠ 0 ∧ vid = c.macVid m) ∨ (vid = 0 ∧ cfg.getLsbD 26 = true)
    let addrOk := (bc ∧ cfg.getLsbD 28 = true) ∨ (group ∧ c.hashBit m ((crc32 dst).toNat % 512) = true) ∨ (¬ bc ∧ ¬ group ∧ dst = c.macAddr m)
    let step4 := step2 ∧ vlanOk ∧ addrOk
    let pause := (ethHeader f).2 = 0x8808
    let got (p : State → Prop) : Prop := ∃ t : State, exec (.frameReceived mac b clks) s = .next t ∧ p t
    let drops (i : Nat) (t : State) : Prop := st t.chip i = st c i + 1 ∧ (∀ j : Nat, j < 16 → j ≠ i → st t.chip j = st c j) ∧
      t.chip.net.streams = c.net.streams ∧ t.chip.mem = c.mem ∧ t.chip.reg (Reg.NET_RXQ_HEAD m) = c.reg (Reg.NET_RXQ_HEAD m)
    let passed := on ∧ step4 ∧ ¬ pause
    let udp := parseUdp f (ethHeader f).1 (ethHeader f).2
    let size := c.regFld (Reg.NET_RXQ_SIZE m) 15 0
    let head := (c.reg (Reg.NET_RXQ_HEAD m)).toNat
    let tail := (c.reg (Reg.NET_RXQ_TAIL m)).toNat
    let full := size = 0 ∨ (head + 1) % size = tail
    let at_ := (c.mac m).base + head * 256 * (1 + (c.maxFrame m + 255) / 256)
    let z := c.stream k
    let p := u.part.drop 8
    let packet := u.good = true ∧ beField p 0 1 / 64 = 2 ∧ 12 ≤ p.length ∧ (z.flags.testBit 0 = true → beField p 1 1 % 128 = z.pt) ∧
      (z.flags.testBit 1 = true → beField p 8 4 = z.ssrcRx) ∧ body.length = n * z.ch * fmtW z.fmt
    let due (i : Nat) : Int := (BitVec.ofNat 32 (beField p 4 4 + i + z.link) - BitVec.ofNat 32 (c.mediaCount c.tickN (z.offset false))).toInt
    let buf (w : Stream) (i : Nat) : List Word := Map.get (fun _ => ([] : List Word)) w.buf i
    let tl := v.toNat % 4096
    let ahead := tl < size ∧ (tl + size - tail) % size ≤ (head + size - tail) % size
    let w := c.wireFrame m g.bytes
    let link := lock && !lf && !rf
    let pt := c.net.ptp
    let ptp := passed ∧ udp = some u ∧ c.legOf m u = none ∧ c.ptpFor m u = true ∧ 34 ≤ p.length ∧ beField p 4 1 = pt.domain
    let typ := beField p 0 1 % 16
    let t4 : Int := ((beField p 34 6 * 1000000000 + beField p 40 4) * 2 ^ 40 : Nat) - (BitVec.ofNat 64 (beField p 8 8)).toInt * 2 ^ 24
    let asym : Int := (BitVec.ofNat 32 (leField pt.cfg 16 4)).toInt
    (on → len ≤ 63 → got (fun t => drops 5 t ∧ CountsOne Reg.NET_RUNT_CNT s t)) ∧
    (on → 64 ≤ len → c.maxFrame m < len → got (fun t => drops 6 t ∧ CountsOne Reg.NET_OVERSIZE_CNT s t)) ∧
    (on → step1 → ¬ step2 → got (fun t => drops 4 t ∧ CountsOne Reg.NET_CRC_CNT s t)) ∧
    (on → step2 → ¬ (vlanOk ∧ addrOk) → got (fun t => drops 7 t ∧ t.chip.regs = c.regs)) ∧
    (on → step4 → pause → got (fun t => drops 8 t ∧ t.chip.regs = c.regs)) ∧
    (passed → got (fun t => st t.chip 0 = st c 0 + 1 ∧ st t.chip 1 = st c 1 + BitVec.ofNat 64 len)) ∧
    (passed → udp = none → full → got (fun t => st t.chip 9 = st c 9 + 1 ∧ t.chip.regBit Reg.NET_EVENT 7 = true ∧ t.chip.mem = c.mem ∧
      t.chip.reg (Reg.NET_RXQ_HEAD m) = c.reg (Reg.NET_RXQ_HEAD m))) ∧
    (passed → udp = none → ¬ full → got (fun t => t.chip.reg (Reg.NET_RXQ_HEAD m) = BitVec.ofNat 32 ((head + 1) % size) ∧
      t.chip.regBit Reg.NET_EVENT 6 = true ∧ (let x := memRead t.chip.mem.dram at_ (256 + f.length)
        leField x 0 2 = f.length ∧ leField x 2 1 = m ∧ leField x 4 2 = (if tagged then beField f 14 2 else 0) ∧
        leField x 8 6 = t.chip.dtm.time.sec.toNat ∧ leField x 16 4 = t.chip.dtm.time.ns.toNat ∧ x.drop 256 = f))) ∧
    (passed → udp = some u → c.legOf m u = some (k, leg) → z.spp = some n → rtpPayload p = some body → packet → got (fun t =>
      (∀ i : Nat, i < n → 1 ≤ due i → due i < z.depth → buf (t.chip.stream k) (c.tickN + (due i).toNat) =
        (if (buf z (c.tickN + (due i).toNat)).isEmpty then z.unpack body i else buf z (c.tickN + (due i).toNat))) ∧
      (∀ j : Nat, (∀ i : Nat, i < n → 1 ≤ due i → due i < z.depth → j ≠ c.tickN + (due i).toNat) → buf (t.chip.stream k) j = buf z j) ∧
      (∀ j : Nat, j ≠ k → t.chip.stream j = c.stream j) ∧ (t.chip.stream k).cfg = z.cfg ∧ (t.chip.stream k).en = z.en)) ∧
    (passed → udp = some u → c.legOf m u = some (k, leg) → z.spp = some n → rtpPayload p = some body → ¬ packet → got (fun t =>
      t.chip.stream k = z.count 9 1 ∧ t.chip.regs = c.regs)) ∧
    ((c.macEn m = false ∨ c.forced 2 = true) → exec (.frameReceived mac b clks) s = .next { s with chip := c.timePass clks.toNat }) ∧
    (c.pfUp false = true → c.forced 2 = false → ∃ t : State, exec (.rxqTailWrite mac v) s = .next t ∧
      (ahead → t.chip.reg (Reg.NET_RXQ_TAIL m) = BitVec.ofNat 32 tl) ∧ (¬ ahead → t.chip.reg (Reg.NET_RXQ_TAIL m) = c.reg (Reg.NET_RXQ_TAIL m)) ∧
      t.chip.regBit Reg.CLK_GATE_STAT (14 + m) = true ∧ RegsBut [Reg.NET_RXQ_TAIL m, Reg.CLK_GATE_STAT] s t ∧ { t.chip with regs := c.regs } = c) ∧
    (c.pfUp false = true → c.forced 2 = true → ∀ i ∈ [Instr.rxqTailWrite mac v, Instr.netSnapTake mac], ∃ t : State, exec i s = .next t ∧
      t.chip.host.rsp.status = 2 ∧ CountsOne Reg.CLK_FORCE_HIT s t ∧ t.chip.net = c.net ∧
      RegsBut [Reg.CLK_FORCE_HIT, Reg.CLK_EVENT, Reg.GCTL_ABORT_CNT, Reg.GCTL_ABORT_LAST] s t) ∧
    (c.pfUp false = false → exec (.rxqTailWrite mac v) s = .next s ∧ exec (.netSnapTake mac) s = .next s) ∧
    (c.nextFrame m = some g → g.mac = m ∧ g ∈ c.net.queue ∧ ∀ y ∈ c.net.queue, y.mac = m → y.kind ≤ 2 → g.kind ≤ y.kind) ∧
    (c.nextFrame m = some g → c.macEn m = true → c.forced 2 = false → c.macLink m = true → ∃ t : State, exec (.frameTransmit mac) s = .next t ∧
      t.chip.net.queue = c.net.queue.erase g ∧ Map.get (fun _ => []) t.chip.net.wire m = w ∧ st t.chip 10 = st c 10 + 1 ∧
      st t.chip 11 = st c 11 + BitVec.ofNat 64 w.length ∧ (g.kind ≤ 2 → st t.chip (12 + g.kind) = st c (12 + g.kind) + 1) ∧ t.chip.regs = c.regs ∧
      (g.kind = 2 → ∀ y ∈ c.net.sends, y.ch = g.src → { y with sent := y.sent + 1 } ∈ t.chip.net.sends)) ∧
    (c.nextFrame m = some g → c.macEn m = true → c.forced 2 = false → c.macLink m = false → g.kind = 0 → ∃ t : State,
      exec (.frameTransmit mac) s = .next t ∧ t.chip.net.queue = c.net.queue.erase g ∧ st t.chip 15 = st c 15 + 1 ∧ t.chip.net.wire = c.net.wire) ∧
    ((c.nextFrame m = none ∨ c.macEn m = false ∨ c.forced 2 = true ∨ (c.macLink m = false ∧ c.nextFrame m = some g ∧ g.kind ≠ 0)) →
      exec (.frameTransmit mac) s = .next s) ∧
    (∃ t : State, exec (.linkChange mac lock lf rf) s = .next t ∧ t.chip.macLink m = link ∧ t.chip.regBit (Reg.NET_MAC_STAT m) 30 = lock ∧
      t.chip.regBit (Reg.NET_MAC_STAT m) 29 = lf ∧ t.chip.regBit (Reg.NET_MAC_STAT m) 28 = rf ∧ RegsBut [Reg.NET_MAC_STAT m, Reg.NET_EVENT] s t ∧
      (c.macLink m ≠ link → t.chip.regBit Reg.NET_EVENT 5 = true) ∧ (c.macLink m = link → t.chip.reg Reg.NET_EVENT = c.reg Reg.NET_EVENT)) ∧
    (∃ t : State, exec (.sfpSidebandChange mac modabs los txf) s = .next t ∧ t.chip.regBit (Reg.NET_MAC_STAT m) 27 = modabs ∧
      t.chip.regBit (Reg.NET_MAC_STAT m) 26 = los ∧ t.chip.regBit (Reg.NET_MAC_STAT m) 25 = txf ∧
      t.chip.regBit (Reg.NET_MAC_STAT m) 24 = (!c.macEn m || modabs) ∧ RegsBut [Reg.NET_MAC_STAT m] s t) ∧
    (c.pfUp false = true → c.forced 2 = false → ∃ t : State, exec (.netSnapTake mac) s = .next t ∧ t.chip.net = c.net ∧ ∀ i : Nat, i < 16 →
      t.chip.reg (Reg.NET_SNAP_STAT m (2 * i)) = (st c i).setWidth 32 ∧ t.chip.reg (Reg.NET_SNAP_STAT m (2 * i + 1)) = (st c i >>> 32).setWidth 32) ∧
    (c.net.ptp.master = some ms → ∃ t : State, exec .ptpAnnounceTimeout s = .next t ∧ (let l := c.net.ptp.masters.filter (fun y => decide (y ≠ ms))
      t.chip.net.ptp = { c.net.ptp with masters := l, master := bestMaster (l.filter (fun y => y.good)) }) ∧ t.chip.regs = c.regs) ∧
    (c.net.ptp.master = none → exec .ptpAnnounceTimeout s = .next s ∧ exec .ptpDelayReqInterval s = .next s) ∧
    (c.net.ptp.master = some ms → c.net.ptp.profile ≠ 0 → ∃ t : State, exec .ptpDelayReqInterval s = .next t ∧
      t.chip.net.queue = c.net.queue ++ [{ mac := ms.mac, kind := 1, bytes := c.delayReq ms.mac, src := 0 }] ∧
      t.chip.net.ptp = { c.net.ptp with seq := c.net.ptp.seq + 1 } ∧ t.chip.regs = c.regs) ∧
    (c.net.ptp.profile = 0 → exec .ptpDelayReqInterval s = .next s) ∧
    (ptp → typ = 11 → got (fun t => ∃ y : Master, y.mac = m ∧ y.ident = bytesFrom p 20 10 ∧ y.rank = announceRank p ∧
      y.heard = c.dtm.clocks + clks.toNat ∧
      (y.good = true ↔ beField p 61 2 < 255 ∧ ∃ o : Master, pt.masters.find? (fun y => y.mac == m && y.ident == bytesFrom p 20 10) = some o ∧
        (o.good = true ∨ y.heard - o.heard ≤ 4 * announceClks p)) ∧
      (let l := pt.masters.filter (fun o => !(o.mac == m && o.ident == bytesFrom p 20 10)) ++ [y]
       t.chip.net.ptp = { pt with masters := l, master := bestMaster (l.filter (fun o => o.good)) }))) ∧
    (ptp → typ = 9 → (∃ y : Master, pt.master = some y ∧ y.mac = m ∧ y.ident = bytesFrom p 20 10) → pt.asked = true → pt.origin = some t1 →
      54 ≤ p.length → bytesFrom p 44 10 = bytesFrom pt.cfg 8 8 ++ beBytes 2 (m + 1) → beField p 30 2 = (pt.seq - 1).toNat → got (fun t =>
        ∃ d : Int, t.chip.net.ptp = { pt with asked := false, delay := some d } ∧
          (let sum := ((pt.syncAt.units : Int) - t1) + (t4 - (pt.reqAt.units : Int))
           2 * (d + asym * 2 ^ 40) = sum ∨ 2 * (d + asym * 2 ^ 40) = sum - 1)))

/-- R294, R295, R353, R421, R423, R426 to R429, R438, R441. -/
def Obligations.DriveCommands : Prop :=
  ∀ (s : State) (e : Sched) (x : Rate) (i j mm : Nat),
    let c := s.chip
    let q := parseReq e.req
    let m := q.p 0 1
    let failed (t : State) : Prop := CountsOne (Reg.CMD_EFFECT_FAIL (chPf1 e.ch)) s t ∧ t.chip.regFld (Reg.CMD_EFFECT_FAIL (chPf1 e.ch)) 31 16 = q.op
    let run (op : Nat) (f : State → Prop) : Prop := c.EffectDue e op → (op = 0x0803 ∨ c.forced 3 = false) → ∃ t : State,
      exec .commandEffect s = .next t ∧ t.chip.cmd.sched = c.cmd.sched.erase e ∧ t.chip.eng = c.eng ∧ t.chip.cells = c.cells ∧ t.chip.mem = c.mem ∧ t.chip.net = c.net ∧ f t
    let named (k : Nat) : Prop := ∃ n : Nat, n < 8 ∧ k = 8 * m + n ∧ (q.p 1 1).testBit n = true
    let off (t : State) (k : Nat) : Prop := t.chip.drvState k = c.drvState k ∧ t.chip.drvCh k = c.drvCh k
    let started (t : State) (k : Nat) : Prop := t.chip.drvState k = 1 ∧ (let y := t.chip.drvCh k
      y.n = 0 ∧ y.g = 0 ∧ y.h = 0 ∧ y.e1 = 0 ∧ y.e2 = 0 ∧ y.lim = 2 ^ 32 ∧ y.retry = false ∧ y.trip = false)
    let tripping (k : Nat) : Prop := (c.drvCh k).trip = true ∨ (c.drvCh k).dc = true
    let startable (k : Nat) : Prop := c.drvState k = 0 ∨ (c.drvState k = 3 ∧ ¬ tripping k)
    let why := if c.forced 3 then 6 else if 3 ≤ c.pwr.stage then 0x0901 else c.drvCheck m
    let cfg := c.drvMod mm
    let allowed (k : Nat) : Prop := (carrierRange x).1 ≤ k ∧ k ≤ (carrierRange x).2 ∧ 1000 * cfg.field 4 2 ≤ k * x.hz ∧ k * x.hz ≤ 1000 * cfg.field 6 2 ∧
      ∀ h : Nat, 1 ≤ h → h ≤ 9 → ∀ f ∈ c.protList, c.regFld Reg.DRV_GUARD 16 0 ≤ (((h * (k * x.hz) : Nat) : Int) - (f : Int)).natAbs
    let dist (k : Nat) : Nat := (((k * x.hz : Nat) : Int) - ((1000 * cfg.field 2 2 : Nat) : Int)).natAbs
    let b := 8 * m + i
    (∀ op ∈ [0x0801, 0x0802, 0x0804, 0x0806], c.EffectDue e op → c.forced 3 = true → ∃ t : State, exec .commandEffect s = .next t ∧ t.chip.cmd.sched = c.cmd.sched.erase e ∧
      CountsOne Reg.CLK_FORCE_HIT s t ∧ t.chip.regFld Reg.CLK_FORCE_HIT 31 29 = 3 ∧ t.chip.regBit Reg.CLK_EVENT 4 = true ∧
      RegsBut [Reg.CLK_FORCE_HIT, Reg.CLK_EVENT] s t ∧ t.chip.drv = c.drv) ∧
    run 0x0801 (fun t => m < 8 → t.chip.regs = c.regs ∧ (c.modEn m = true → t.chip.drv = c.drv) ∧
      (c.modEn m = false → t.chip.drvMod m = { c.drvMod m with cfg := q.par } ∧ t.chip.drv.chans = c.drv.chans)) ∧
    run 0x0802 (fun t => m ≤ 16 → q.p 4 4 ≤ 100000 → t.chip.drv = c.drv ∧ t.chip.regFld Reg.DRV_GUARD 28 24 = m ∧ t.chip.regFld Reg.DRV_GUARD 16 0 = q.p 4 4 ∧
      ∀ n : Nat, n < 16 → t.chip.reg (Reg.DRV_PROT_F n) = if n < m then BitVec.ofNat 32 (q.p (8 + 4 * n) 4) else 0) ∧
    (∀ k : Nat, c.carrierFor mm x = some k → allowed k ∧ (∀ n : Nat, allowed n → dist k < dist n ∨ (dist k = dist n ∧ k ≤ n))) ∧
    (c.carrierFor mm x = none → ∀ n : Nat, ¬ allowed n) ∧
    run 0x0803 (fun t => m < 8 → c.eng.rate = some x →
      (c.modEn m = false → t.chip.regFld Reg.DRV_REASON 18 16 = m ∧ t.chip.regFld Reg.DRV_REASON 15 0 = why ∧
        (why = 0 → t.chip.modEn m = true ∧ t.chip.regBit (Reg.DRV_MOD_CTRL m) 30 = true ∧ t.chip.regBit Reg.DRV_STAT m = true ∧
          c.carrierFor m x = some (t.chip.drvM m) ∧ t.chip.reg (Reg.DRV_MOD_FCARR m) = BitVec.ofNat 32 (t.chip.drvM m * x.hz / 100)) ∧
        (why ≠ 0 → t.chip.modEn m = false ∧ failed t ∧ t.chip.drv = c.drv)) ∧
      ((c.modEn m = false ∧ why = 0) ∨ (c.modEn m = true ∧ c.regBit (Reg.DRV_MOD_CTRL m) 30 = true) → i < 8 →
        (named b → startable b → started t b) ∧ (¬ (named b ∧ startable b) → off t b)) ∧
      (c.modEn m = true → c.regBit (Reg.DRV_MOD_CTRL m) 30 = false → t.chip.regs = c.regs ∧
        t.chip.drvMod m = { c.drvMod m with restart := (c.drvMod m).restart ||| q.p 1 1 }) ∧
      (j / 8 ≠ m → j < 64 → off t j)) ∧
    run 0x0804 (fun t => m < 8 → (j < 64 → ¬ named j → off t j) ∧ (i < 8 → named b →
      ((c.drvState b = 1 ∨ c.drvState b = 2) → t.chip.drvState b = 3 ∧ (let y := t.chip.drvCh b
        y.out = 64 * c.drvM m ∧ y.g0 = (c.drvCh b).g ∧ y.h0 = (c.drvCh b).h ∧ y.g = (c.drvCh b).g)) ∧
      ((c.drvState b = 5 ∨ (c.drvState b = 6 ∧ ¬ tripping b)) → t.chip.drvState b = 0 ∧ (t.chip.drvCh b).g = 0) ∧
      ((7 ≤ c.drvState b ∨ (c.drvState b = 6 ∧ tripping b)) → off t b)) ∧ t.chip.modEn m = c.modEn m) ∧
    run 0x0806 (fun t => m < 8 → (j < 64 → ¬ named j → off t j) ∧ (i < 8 → named b →
      (5 ≤ c.drvState b → t.chip.drvState b = 0 ∧ t.chip.regFld (Reg.DRV_CH_STAT b) 27 24 = 0 ∧ (t.chip.drvCh b).g = 0) ∧
      (c.drvState b < 5 → off t b)))

/-- R351, R424, R426, R430, R432 to R438; states as DRV_CH_STAT numbers them. -/
def Obligations.DriveEvents : Prop :=
  ∀ (s : State) (mod : BitVec 3) (chan : BitVec 6) (bytes : List Byte) (codeOk : Bool) (sof : Half) (z : Word) (phase : Half) (x : Rate) (k i : Nat),
    let c := s.chip
    let m := mod.toNat
    let y := c.drvMod m
    let mM := c.drvM m
    let ctrl := Reg.DRV_MOD_CTRL m
    let on := c.eng.rate = some x ∧ c.eng.ticking = true ∧ c.regBit ctrl 30 = true ∧ y.period < mM
    let ck := c.drvCh k
    let st := c.drvState k
    let live := st = 1 ∨ st = 2 ∨ st = 3 ∨ st = 6
    let tripped := ck.trip = true ∧ live
    let stopped := ck.trip = false ∧ ck.dc = true ∧ live
    let tries := c.regFld (Reg.DRV_CH_STAT k) 27 24 + (if st = 6 then 1 else 0)
    let maxR := y.field 42 1
    let p := periodLen (c.drvCycles x) mM y.period
    let mp := 2 * y.field 29 1
    let valid := codeOk = true ∧ bytes.length = 42 ∧ leField bytes 40 2 = crc16 (bytes.take 40)
    let forced := c.forced 3 = true
    let seqOk := ∀ n : Nat, y.seq = some n → leField bytes 0 1 = (n + 1) % 256
    let fe := 4 / x.mult
    let edge (n : Nat) : Nat := n * c.drvCycles x / fe
    let low := c.modEn m = true ∧ y.low = false ∧ leField bytes 2 2 < y.pvddMin
    let a := chan.toNat
    let ca := c.drvCh a
    let sa := c.drvState a
    let cfg := c.drvMod (a / 8)
    let zReg (t : State) : Prop := t.chip.regFld (Reg.DRV_CH_Z a) 31 16 = min 65535 (z.toNat / 10) ∧ t.chip.regFld (Reg.DRV_CH_Z a) 15 0 = phase.toNat
    let outside := z.toNat < cfg.field 32 4 ∨ cfg.field 36 4 < z.toNat
    let running := sa = 1 ∨ sa = 2 ∨ sa = 3 ∨ sa = 6
    let sum : Int := ca.vSum * cfg.field 16 2
    let beyond := cfg.field 20 2 * 1000 * ca.vN < sum.natAbs
    let silent (d : DrvCh) : Prop := d.g = 0 ∧ d.h = 0
    let counts (t : State) (r : Nat) (b : Prop) : Prop := (b → CountsOne r s t) ∧ (¬ b → t.chip.reg r = c.reg r)
    let latched (t : State) (n : Nat) : Prop := t.chip.drvState a = n ∧ silent (t.chip.drvCh a) ∧ (t.chip.drvCh a).q = 0
    (on → Quiet s → y.stop ≠ 1 → k / 8 = m → ∃ t : State, exec (.carrierBoundary mod) s = .next t ∧ (t.chip.drvMod m).period = y.period + 1 ∧
      (t.chip.drvCh k).trip = false ∧ t.chip.eng = c.eng ∧
      (tripped → t.chip.drvState k = (if maxR = 0 ∨ (st = 6 ∧ maxR ≤ tries) then 7 else 5) ∧ (t.chip.drvCh k).q = 0 ∧
        t.chip.regFld (Reg.DRV_CH_STAT k) 27 24 = min 15 tries) ∧
      (stopped → t.chip.drvState k = 9 ∧ (t.chip.drvCh k).q = 0) ∧
      ((st = 5 ∨ 7 ≤ st) → t.chip.drvState k = st ∧ (t.chip.drvCh k).q = 0) ∧
      (st = 1 → ¬ tripped → ¬ stopped → y.low = false → t.chip.drvState k = (if 64 * mM + 7 ≤ ck.n then 2 else 1) ∧
        (t.chip.drvCh k).n = ck.n + 1 ∧ (t.chip.drvCh k).g = (t.chip.drvCh k).h ∧
        (t.chip.drvCh k).h = (if ck.n < 8 then 0 else min (2 ^ 32) ((ck.n - 7) * 2 ^ 32 / (64 * mM)))) ∧
      (¬ tripped → ¬ stopped → st ≠ 5 → st < 7 → 2 * mp ≤ p → mp ≤ (t.chip.drvCh k).q ∧ (t.chip.drvCh k).q + mp ≤ p)) ∧
    (on → y.stop = 1 → Quiet s → ∃ t : State, exec (.carrierBoundary mod) s = .next t ∧ t.chip.regBit ctrl 30 = false ∧
      (y.hold = false → y.restart = 0 → t.chip.modEn m = false ∧ t.chip.drvM m = 0) ∧
      (y.hold = true ∨ y.restart ≠ 0 → t.chip.modEn m = c.modEn m ∧ t.chip.drvM m = mM) ∧ ∀ n : Nat, n / 8 = m → (t.chip.drvCh n).q = 0) ∧
    ((c.eng.rate = none ∨ c.eng.ticking = false ∨ c.regBit ctrl 30 = false ∨ mM ≤ y.period) → exec (.carrierBoundary mod) s = .next s) ∧
    (forced → exec (.senseFrame mod bytes ⟨codeOk, sof⟩) s = .next s ∧ exec (.senseTimeout mod) s = .next s) ∧
    (¬ forced → ¬ valid → ∃ t : State, exec (.senseFrame mod bytes ⟨codeOk, sof⟩) s = .next t ∧ CountsOne Reg.DRV_SENSE_ERR s t ∧ RegsBut [Reg.DRV_SENSE_ERR] s t ∧
      t.chip.drvMod m = { y with valid := 0 } ∧ t.chip.drv.chans = c.drv.chans) ∧
    (¬ forced → valid → Quiet s → ∃ t : State, exec (.senseFrame mod bytes ⟨codeOk, sof⟩) s = .next t ∧ counts t Reg.DRV_SENSE_ERR (¬ seqOk) ∧
      t.chip.regFld ctrl 7 0 = leField bytes 1 1 ∧ t.chip.regFld (Reg.DRV_MOD_RAIL m) 31 16 = leField bytes 2 2 ∧
      t.chip.reg (Reg.DRV_MOD_TEMP m) = BitVec.ofNat 32 (leField bytes 4 2) ∧ (t.chip.drvMod m).valid = min 3 (y.valid + 1) ∧
      (t.chip.drvMod m).seq = some (leField bytes 0 1) ∧ (c.eng.rate = some x → (∀ n : Nat, n < fe → edge n < sof.toNat →
          (∀ h : Nat, n < h → h < fe → sof.toNat ≤ edge h) → (t.chip.drvMod m).edge = some (c.tickN, n)) ∧
        ((∀ n : Nat, n < fe → sof.toNat ≤ edge n) → (t.chip.drvMod m).edge = some (c.tickN - 1, fe - 1))) ∧
      (c.senseOk m = false → 2 ≤ y.valid → c.modEn m = true → y.hold = true → t.chip.regBit ctrl 30 = true ∧
        (i < 8 → y.restart.testBit i = true → c.drvState (8 * m + i) = 0 → t.chip.drvState (8 * m + i) = 1)) ∧ (t.chip.senseOk m = true ↔ c.senseOk m = true ∨ 2 ≤ y.valid) ∧
      (i < 8 → (t.chip.drvCh (8 * m + i)).vN = (c.drvCh (8 * m + i)).vN + 1 ∧
        (t.chip.drvCh (8 * m + i)).vSum = (c.drvCh (8 * m + i)).vSum + (BitVec.ofNat 16 (leField bytes (8 + 4 * i) 2)).toInt) ∧
      counts t Reg.DRV_RAIL_CNT low ∧ (low → (t.chip.drvMod m).low = true ∧ ∀ n : Nat, n / 8 = m → silent (t.chip.drvCh n))) ∧
    (¬ forced → Quiet s → ∃ t : State, exec (.senseTimeout mod) s = .next t ∧ t.chip.senseOk m = false ∧ (t.chip.drvMod m).valid = 0 ∧ (t.chip.drvMod m).seq = none ∧
      counts t Reg.DRV_RAIL_CNT (c.senseOk m = true ∧ c.modEn m = true) ∧
      (c.senseOk m = true → t.chip.regBit Reg.DRV_EVENT 4 = true) ∧ (c.senseOk m = true → c.modEn m = true → (t.chip.drvMod m).stop = 9 ∧ (t.chip.drvMod m).hold = true ∧
        (k / 8 = m → (live → t.chip.drvState k = if st = 6 then 5 else 0) ∧ (¬ live → t.chip.drvState k = st) ∧
          ((st = 1 ∨ st = 2) → (t.chip.drvMod m).restart.testBit (k % 8) = true)))) ∧
    (c.modEn (a / 8) = true → ∃ t : State, exec (.drvFltAssert chan) s = .next t ∧ t.chip.drvCh a = { ca with trip := true } ∧ t.chip.regs = c.regs ∧
      ∀ n : Nat, n ≠ a → t.chip.drvCh n = c.drvCh n) ∧
    (c.modEn (a / 8) = false → exec (.drvFltAssert chan) s = .next s) ∧
    (sa = 5 → ca.waitTick ≤ c.tickN → c.pwr.stage = 0 → c.regBit (Reg.DRV_MOD_CTRL (a / 8)) 30 = true → ∃ t : State, exec (.retryStart chan) s = .next t ∧
      t.chip.drvState a = 6 ∧ (t.chip.drvCh a).retry = true ∧ (t.chip.drvCh a).n = 0 ∧ silent (t.chip.drvCh a)) ∧
    (¬ (sa = 5 ∧ ca.waitTick ≤ c.tickN ∧ c.pwr.stage = 0 ∧ c.regBit (Reg.DRV_MOD_CTRL (a / 8)) 30 = true) → exec (.retryStart chan) s = .next s) ∧
    (sa = 2 → c.pilotOn a = true → Quiet s → ∃ t : State, exec (.pilotMeasureDone chan z phase) s = .next t ∧ zReg t ∧
      (z.toNat < 1000 → latched t 8 ∧ CountsOne Reg.DRV_LOAD_CNT s t) ∧
      (1000 ≤ z.toNat → counts t Reg.DRV_LOAD_CNT (outside ∧ ca.zOut = false) ∧ ((t.chip.drvCh a).zOut = true ↔ outside) ∧
        (outside → cfg.loadStop = true → latched t 10) ∧ (¬ (outside ∧ cfg.loadStop = true) → t.chip.drvState a = 2))) ∧
    (sa = 6 → ca.measuring = true → c.pilotOn a = true → Quiet s → ∃ t : State, exec (.pilotMeasureDone chan z phase) s = .next t ∧ zReg t ∧ t.chip.regBit Reg.DRV_EVENT 5 = true ∧
      (z.toNat < 1000 → latched t 8 ∧ CountsOne Reg.DRV_LOAD_CNT s t) ∧
      (1000 ≤ z.toNat → t.chip.drvState a = 2 ∧ (t.chip.drvCh a).grow = 1024 ∧ t.chip.regFld (Reg.DRV_CH_STAT a) 27 24 = 0 ∧
        t.chip.reg Reg.DRV_LOAD_CNT = c.reg Reg.DRV_LOAD_CNT)) ∧
    (¬ (sa = 2 ∧ c.pilotOn a = true) → ¬ (sa = 6 ∧ ca.measuring = true ∧ c.pilotOn a = true) → exec (.pilotMeasureDone chan z phase) s = .next s) ∧
    (0 < ca.vN → Quiet s → ∃ t : State, exec (.dcWindowEnd chan) s = .next t ∧ (t.chip.drvCh a).vN = 0 ∧ (t.chip.drvCh a).vSum = 0 ∧
      (∃ n : Int, IsRound n sum (1000 * ca.vN) ∧ ((t.chip.reg (Reg.DRV_CH_STAT a)).setWidth 16).toInt = max (-32768) (min 32767 n)) ∧
      counts t Reg.DRV_DC_CNT (beyond ∧ running) ∧ (t.chip.drvCh a).dc = (ca.dc || decide (beyond ∧ running)) ∧ t.chip.drvState a = sa) ∧
    (ca.vN = 0 → exec (.dcWindowEnd chan) s = .next s) ∧
    (y.low = true → 105 * y.pvddMin < 100 * c.regFld (Reg.DRV_MOD_RAIL m) 31 16 → ∃ t : State, exec (.railRecover mod) s = .next t ∧
      t.chip.drvMod m = { y with low := false } ∧ (k / 8 = m → ((st = 1 ∨ st = 2) → t.chip.drvState k = 1 ∧ (t.chip.drvCh k).n = 0 ∧ silent (t.chip.drvCh k)) ∧
        (¬ (st = 1 ∨ st = 2) → t.chip.drvState k = st ∧ t.chip.drvCh k = ck))) ∧
    ((y.low = false ∨ 100 * c.regFld (Reg.DRV_MOD_RAIL m) 31 16 ≤ 105 * y.pvddMin) → exec (.railRecover mod) s = .next s)

/-- R445, R447, R448, R450, R451, R457 to R465. The rounding of PAIR_PHASE toward −∞ and the layout of the drive states are the model's choices (log entry 29). -/
def Obligations.PairLink : Prop :=
  ∀ (s : State) (gctlId arrival : Word) (chipId : DWord) (pairId own left coding : Bool) (frame : List Byte) (drive : List Word) (x : Sigs) (b : Beat)
    (k ch i : Nat),
    let c := s.chip
    let p := c.pair
    let up := c.pairEn = true ∧ c.sys.up = true
    let same := pairId = c.pairId
    let bad := same ∨ gctlId ≠ c.reg Reg.GCTL_ID
    let frameOf (t : State) : Prop := t.chip.eng = c.eng ∧ t.chip.mem = c.mem ∧ t.chip.cells = c.cells ∧ t.chip.cmd = c.cmd ∧ t.pending = s.pending
    let linkErr (kind : Nat) (t : State) : Prop := CountsOne Reg.PAIR_LINK_ERR s t ∧ t.chip.regFld Reg.PAIR_LINK_ERR 31 30 = kind ∧
      t.chip.regBit Reg.PAIR_EVENT 7 = true ∧ t.chip.pair = p ∧ RegsBut [Reg.PAIR_LINK_ERR, Reg.PAIR_EVENT] s t
    let hears := c.pairEn = true ∧ p.linkUp = true ∧ p.incompat = false
    let sound := frame.length = 128 ∧ leField frame 0 1 = 1 ∧ leField frame 124 4 = (crc32c (frame.take 124)).toNat
    let phase : Int := (arrival.toInt - leField frame 68 4) - ((BitVec.ofNat 32 (leField frame 72 4)).toInt - p.txOfs.toNat)
    let point := c.pairEn = true ∧ c.eng.ticking = true
    let was := c.pairState
    let heard := p.fresh = true ∧ p.beat = some b
    let agrees := b.tick.toNat + 1 = c.tickN ∧ (c.reg Reg.PAIR_PHASE).toInt.natAbs ≤ 400 ∧ b.image = c.imageId ∧ c.gap = false ∧
      b.flags.testBit 5 = false ∧ p.resynced = true
    let stays := p.incompat = false ∧ p.linkUp = true ∧ p.fresh = true
    let back := was = 3 ∨ ((was = 4 ∨ was = 1 ∨ was = 2) ∧ p.fromSynced = true)
    let waited := if own then 0 else p.released + 1
    let standby := p.owner = false ∧ own = false
    let elig := p.owner = false ∧ c.sys.execAlive = true ∧ (was = 3 ∨ (was = 4 ∧ p.fromSynced = true ∧ c.gap = false))
    let comparable (t : State) : Prop := t.chip.pairState = 3 ∧ x.engine = 2 ∧ b.engine % 16 = 2 ∧ x.image = b.image ∧ x.shed = 0 ∧ b.shed % 8 = 0 ∧
      x.fade = false ∧ b.flags.testBit 7 = false
    let both := x.settled &&& b.settled
    let mask := if both = 15 then 511 else both
    let differs := ∃ i : Nat, i < 9 ∧ mask.testBit i = true ∧ x.sigs.getD i 0 ≠ b.sigs.getD i 0
    let must := p.left = false ∨ c.pwr.stage = 5 ∨ (∃ u ∈ c.flt.resets, u = .eng ∨ u = .sap ∨ u = .drv) ∨
      (p.bothOwn = true ∧ c.pairId = true ∧ c.pairEn = true) ∨ p.sameId = true
    let taking := p.takeAt = some c.tickN ∧ p.owner = false ∧ p.incompat = false ∧ c.eng.ticking = true ∧ c.eng.phase = .entry
    let handing := p.releaseAt = some c.tickN ∧ p.takeAck = true ∧ c.eng.ticking = true ∧ c.eng.phase = .entry ∧
      ∀ h : RateChange, c.eng.change = some h → h.stopped = true ∨ c.tickN ≠ h.t + 64
    let cueRegs := [Reg.CUE_EVENT, Reg.CUE_STAT 0, Reg.CUE_STAT 1]
    let cueOn := i < 2 ∧ c.pairEn = true ∧ c.regBit (Reg.CUE_CFG i) 31 = true
    let owns (t : State) : Prop := t.chip.sap.captured = none ∧ t.chip.sap.release = c.sap.release.or c.sap.captured ∧
      (cueOn → c.regBit (Reg.CUE_STAT i) 31 = true → t.chip.regFld (Reg.CUE_STAT i) 30 28 = 1) ∧ (¬ cueOn → i < 2 → t.chip.reg (Reg.CUE_STAT i) = c.reg (Reg.CUE_STAT i))
    let frees (t : State) : Prop := t.chip.sap = c.sap ∧
      (cueOn → t.chip.regFld (Reg.CUE_STAT i) 30 28 = 0 ∧ t.chip.regBit (Reg.CUE_STAT i) 31 = c.regBit (Reg.CUE_STAT i) 31) ∧
      (¬ cueOn → i < 2 → t.chip.reg (Reg.CUE_STAT i) = c.reg (Reg.CUE_STAT i))
    (up → ∃ t : State, exec (.povinLinkUp gctlId chipId pairId) s = .next t ∧ frameOf t ∧ t.chip.pair.linkUp = true ∧ (t.chip.pair.incompat = true ↔ bad) ∧
      (t.chip.pair.sameId = true ↔ same) ∧ t.chip.pair.partnerId = chipId ∧ t.chip.reg Reg.PAIR_PARTNER_ID = gctlId ∧
      (bad → t.chip.pairState = 5 ∧ t.chip.pair.takeAt = none) ∧ (¬ bad → t.chip.pairState = if was = 5 then (if p.ownIn then 4 else 1) else was) ∧
      (t.chip.regBit Reg.FLT_FAULTN 1 = true ↔ same) ∧ t.chip.pair.owner = p.owner) ∧
    (¬ up → exec (.povinLinkUp gctlId chipId pairId) s = .next s) ∧
    (c.pairEn = true → p.linkUp = true → ∃ t : State, exec .povinLinkDown s = .next t ∧ frameOf t ∧ t.chip.pair.linkUp = false ∧
      t.chip.pair.incompat = false ∧ t.chip.pair.sameId = false ∧ t.chip.pairState = (if p.ownIn then 4 else 1) ∧
      t.chip.regBit Reg.FLT_FAULTN 1 = false ∧ t.chip.pair.owner = p.owner) ∧
    ((c.pairEn = false ∨ p.linkUp = false) → exec .povinLinkDown s = .next s) ∧
    (p.linkUp = true → ∃ t : State, exec (.povinFrameError coding) s = .next t ∧ frameOf t ∧ linkErr (if coding then 1 else 0) t) ∧
    (p.linkUp = false → exec (.povinFrameError coding) s = .next s) ∧
    (hears → ¬ sound → ∃ t : State, exec (.heartbeatReceived frame arrival drive) s = .next t ∧ frameOf t ∧ linkErr 0 t) ∧
    (hears → sound → ∃ (t : State) (y : Beat), exec (.heartbeatReceived frame arrival drive) s = .next t ∧ frameOf t ∧ t.chip.pair.beat = some y ∧
      t.chip.pair.fresh = true ∧ t.chip.pair.rxOwn = arrival ∧ y.flags = leField frame 1 1 ∧ y.engine = leField frame 2 1 ∧ y.shed = leField frame 3 1 ∧
      y.tick.toNat = leField frame 4 8 ∧ (∀ i : Nat, i < 9 → (y.sigs.getD i 0).toNat = leField frame (12 + 4 * i) 4) ∧
      y.releaseAt.toNat = leField frame 48 8 ∧ y.image.toNat = leField frame 76 8 ∧
      (∃ n : Int, 2 * n ≤ phase ∧ phase ≤ 2 * n + 1 ∧ t.chip.reg Reg.PAIR_PHASE = BitVec.ofInt 32 n) ∧ RegsBut [Reg.PAIR_PHASE] s t ∧
      ((p.owner = true ∨ y.flags.testBit 0 = false) → t.chip.drv = c.drv ∧ t.chip.sap = c.sap) ∧
      (p.owner = false → y.flags.testBit 0 = true → t.chip.drv = { c.drv with adopt := drive } ∧
        (was = 3 → k < 12 → (t.chip.rx k).decision = leField frame 64 3 / 4 ^ k % 4) ∧
        (c.isArmed = true → leField frame 56 8 ≠ 0 → t.chip.sap.release = some (leField frame 56 8)))) ∧
    (¬ hears → exec (.heartbeatReceived frame arrival drive) s = .next s) ∧
    (point → exec (.ownPoint left) s = .next { s with chip := { c with pair := { p with left := left } } }) ∧
    (¬ point → exec (.ownPoint left) s = .next s ∧ exec (.partnerPoint own) s = .next s) ∧
    (point → Quiet s → ∃ t : State, exec (.partnerPoint own) s = .next t ∧ t.chip.eng = c.eng ∧ t.chip.mem = c.mem ∧ t.chip.cells = c.cells ∧
      t.chip.pair.ownIn = own ∧ (t.chip.pair.bothOwn = true ↔ own = true ∧ p.owner = true) ∧ t.chip.pair.present = p.fresh ∧ t.chip.pair.fresh = false ∧ t.chip.pair.beat = p.beat ∧
      (p.owner = false → t.chip.pair.released = waited) ∧ t.chip.pair.owner = p.owner ∧
      (p.fresh = false → p.present = true → CountsOne Reg.PAIR_HB_CNT s t ∧ t.chip.regFld Reg.PAIR_HB_CNT 31 30 = 1) ∧
      (heard → was = 3 → b.tick.toNat + 1 ≠ c.tickN → CountsOne Reg.PAIR_HB_CNT s t ∧ t.chip.regFld Reg.PAIR_HB_CNT 31 30 = 2) ∧
      ((p.fresh = false ∧ p.present = false) ∨ (heard ∧ b.tick.toNat + 1 = c.tickN) → t.chip.reg Reg.PAIR_HB_CNT = c.reg Reg.PAIR_HB_CNT) ∧
      t.chip.reg Reg.PAIR_PHASE = (if p.fresh then c.reg Reg.PAIR_PHASE else 0) ∧
      (p.incompat = true → t.chip.pairState = 5) ∧
      (p.incompat = false → (p.linkUp = false ∨ p.fresh = false) → t.chip.pairState = if own then 4 else 1) ∧
      (stays → heard → agrees → back → t.chip.pairState = 3) ∧ (stays → heard → ¬ (agrees ∧ back) → t.chip.pairState = 2) ∧
      (p.owner = false → t.chip.pairState ≠ 5 → own = true → t.chip.pair.takeAt = none ∧ t.chip.pair.unitFirst = false) ∧
      (standby → t.chip.pairState ≠ 5 → elig → t.chip.pair.takeAt = some (c.tickN + 1) ∧ t.chip.pair.takeRule = 0) ∧
      (standby → t.chip.pairState ≠ 5 → ¬ elig → ((c.pairId = false ∧ p.unitFirst = true) ∨ 64 ≤ waited) →
        t.chip.pair.takeAt = some (c.tickN + 1) ∧ t.chip.pair.takeRule = 1) ∧
      (standby → t.chip.pairState = 5 ∨ (¬ elig ∧ ¬ ((c.pairId = false ∧ p.unitFirst = true) ∨ 64 ≤ waited)) → t.chip.pair.takeAt = p.takeAt) ∧
      (heard → p.own = some x → x.tick = b.tick → comparable t → both ≠ 0 → (t.chip.pair.diverged = true ↔ differs) ∧
        t.chip.regFld Reg.PAIR_STAT 11 8 = mask % 16 ∧ (differs → CountsOne Reg.PAIR_DIV_CNT s t) ∧
        (¬ differs → t.chip.reg Reg.PAIR_DIV_CNT = c.reg Reg.PAIR_DIV_CNT)) ∧
      (heard → p.own = some x → (x.tick ≠ b.tick ∨ ¬ comparable t) → t.chip.pair.diverged = p.diverged ∧ t.chip.regFld Reg.PAIR_STAT 11 8 = 0) ∧
      (p.owner = true → p.releaseAt = some (c.tickN + 1) → (heard ∧ b.flags.testBit 4 = true → t.chip.pair.takeAck = true ∧
          t.chip.pair.releaseAt = some (c.tickN + 1)) ∧
        (p.fresh = false ∨ (heard ∧ b.flags.testBit 4 = false) → t.chip.pair.releaseAt = none ∧ t.chip.pair.takeAck = false ∧
          t.chip.regBit Reg.PAIR_EVENT 5 = true ∧ (p.handover = some ch → t.chip.Answers ch 6 0xFFFFFFFFFFFFFFFF [])))) ∧
    (taking → ∃ t : State, exec .takeover s = .next t ∧ frameOf t ∧ t.chip.pair.owner = true ∧ t.chip.pair.takeAt = none ∧ CountsOne Reg.PAIR_TAKE_CNT s t ∧
      t.chip.regFld Reg.PAIR_TAKE_CNT 16 16 = p.takeRule % 2 ∧ t.chip.regBit Reg.PAIR_EVENT 2 = true ∧ owns t ∧
      RegsBut ([Reg.PAIR_TAKE_CNT, Reg.PAIR_EVENT] ++ cueRegs) s t) ∧
    (¬ taking → exec .takeover s = .next s) ∧
    (must → p.owner = true → ∃ t : State, exec .ownershipRelease s = .next t ∧ frameOf t ∧ t.chip.pair.owner = false ∧ t.chip.pair.releaseAt = none ∧
      t.chip.regBit Reg.PAIR_EVENT 3 = true ∧ frees t ∧ RegsBut (Reg.PAIR_EVENT :: cueRegs) s t) ∧
    (¬ (must ∧ p.owner = true) → exec .ownershipRelease s = .next s) ∧
    (handing → ∃ t : State, exec .plannedRelease s = .next t ∧ t.chip.eng = c.eng ∧ t.chip.mem = c.mem ∧ t.chip.cells = c.cells ∧
      t.chip.pair.owner = !p.owner ∧ t.chip.pair.releaseAt = none ∧ t.chip.pair.takeAck = false ∧ t.chip.pair.handover = none ∧
      t.chip.regBit Reg.PAIR_EVENT 4 = true ∧ (p.owner = true → t.chip.regBit Reg.PAIR_EVENT 3 = true ∧ frees t) ∧ (p.owner = false → owns t) ∧
      RegsBut (Reg.PAIR_EVENT :: cueRegs) s t ∧
      (p.handover = some ch → t.chip.Answers ch 0 c.eng.tick [if (p.owner = true ∧ 8 ≤ ch) ∨ (p.owner = false ∧ ch < 8) then 1 else 0]) ∧
      (p.handover = none → t.chip.cmd = c.cmd)) ∧
    (¬ handing → exec .plannedRelease s = .next s)

/-- R281, R300, R303, R452 to R454, R464, R466, R469, R505, R531. Which items a standby keeps until the commit is the model's choice (log entry 30). -/
def Obligations.Mirror : Prop :=
  ∀ (s : State) (ch : BitVec 4) (c8 : BitVec 3) (packet payload : List Byte) (tick applied : DWord) (reason : Half) (late bad : Bool) (e : Sched)
    (a : BitVec 64) (b : List Byte) (item : BulkItem) (x : Sigs) (sg : List Word) (i n : Nat),
    let c := s.chip
    let p := c.pair
    let k := ch.toNat ^^^ 8
    let r := parseReq packet
    let up := c.execLive = true
    let standby := up ∧ p.owner = false ∧ c.pairState = 3
    let undone : List (Nat × Undo) := p.undo.filter (fun v => v.1 != ch.toNat)
    let replies (v : Nat × Nat × Nat × List Byte) : State := { s with chip := { c with pair := { p with results := p.results ++ [v] } } }
    let denies (v : Nat × Nat × Nat × List Byte) : State := { s with chip := { c with pair := { p with undo := undone, results := p.results ++ [v] } } }
    let h := c.chan ch.toNat
    let q := c.reqOf ch.toNat
    let awaited := h.st = .taken ∧ h.work = .mirrored
    let again := c.checkOf ch.toNat (q.fixed h.effTick)
    let copied := ∃ m ∈ p.copies, m.ch = ch.toNat
    let noCopy (t : State) : Prop := t.chip.pair.copies = p.copies.filter (fun m => m.ch != ch.toNat)
    let refused (t : State) (v : Nat) : Prop := t.chip.Answers ch.toNat v 0xFFFFFFFFFFFFFFFF []
    let gone := (c.cancelSet r).filter (fun y => y.mirrored)
    let last : Option Undo := (p.undo.find? (fun v => v.1 == ch.toNat)).map (fun v => v.2)
    let k8 := 8 + c8.toNat
    let listed := reason.toNat ∈ reasonCodes
    let f := c.chan c8.toNat
    let receives := p.owner = false ∧ p.linkUp = true
    let base : Nat := 0x1C0
    let recorded (t : State) : Prop := (let v := t.chip.fb base 64
      leField v 0 4 = 0x45444F4E ∧ leField v 4 2 = 1 ∧ leField v 8 8 = t.chip.pair.partnerId.toNat ∧ leField v 16 8 = t.chip.imageId.toNat ∧
      leField v 60 4 = (crc32c (v.take 60 ++ [0, 0, 0, 0])).toNat)
    let returned (t : State) : Prop := t.chip.pairState = 3 ∧ t.chip.gap = false ∧ t.chip.pair.resync = none ∧ t.chip.pair.resynced = true ∧
      t.chip.pair.bulk = []
    let settle := match c.graph.live with
      | some g => g.settle
      | none => 0
    let commits := c.eng.ticking = true ∧ c.eng.phase = .entry
    let w := c.flt.waiting
    let live := { c.sys with execAlive := true, liveMs := 0, uptime := c.sys.uptime + 1 }
    (¬ up → exec (.mirrorCopyReceived ch packet tick) s = .next s) ∧
    (up → ¬ standby → exec (.mirrorCopyReceived ch packet tick) s = .next (replies (16 + ch.toNat, 0x000B, 0, []))) ∧
    (standby → opTicks r.op = true → c.checkOf k (r.fixed tick.toNat) ≠ 0 →
      exec (.mirrorCopyReceived ch packet tick) s = .next (denies (16 + ch.toNat, c.checkOf k (r.fixed tick.toNat), tick.toNat, []))) ∧
    (standby → opTicks r.op = true → c.checkOf k (r.fixed tick.toNat) = 0 → ∃ (t : State) (y : Sched),
      exec (.mirrorCopyReceived ch packet tick) s = .next t ∧ t.chip.cmd.sched = c.cmd.sched ++ [y] ∧ y.ch = k ∧ y.op = r.op ∧ y.seq = r.seq ∧
      y.tick = tick.toNat ∧ y.req = packet ∧ y.remote = true ∧ y.waits = false ∧
      t.chip.pair.results = p.results ++ [(16 + ch.toNat, 0, tick.toNat, [])] ∧ t.chip.pair.undo = undone ++ [(ch.toNat, .entry y)] ∧ t.chip.eng = c.eng ∧ t.chip.mem = c.mem ∧ t.chip.regs = c.regs ∧
      (k < 8 → ∀ m ∈ p.forwards, m.ch = k → { m with acked := true, tick := tick.toNat, pay := c.acceptPayload (r.fixed tick.toNat) } ∈ t.chip.pair.forwards)) ∧
    (standby → r.op = 0x0201 → (c.chkGraphLoad r ≠ 0 → exec (.mirrorCopyReceived ch packet tick) s = .next (denies (16 + ch.toNat, c.chkGraphLoad r, 0, []))) ∧
      (c.chkGraphLoad r = 0 → ∃ t : State, exec (.mirrorCopyReceived ch packet tick) s = .next t ∧ t.chip.pair.results = p.results ∧
        t.chip.graph = { c.graph with bank := .loading (16 + ch.toNat) (r.p 0 8) (r.p 8 4) } ∧ t.chip.mem = c.mem ∧ t.chip.regs = c.regs)) ∧
    (standby → r.op = 0x0203 → c.chkGraphDiscard r = 0 → ∃ t : State, exec (.mirrorCopyReceived ch packet tick) s = .next t ∧
      t.chip.graph = { c.graph with bank := .empty } ∧ t.chip.pair.results = p.results ++ [(16 + ch.toNat, 0, c.tickN, [])] ∧
      t.chip.pair.undo = undone ++ [(ch.toNat, .bank c.graph.bank)]) ∧
    (standby → r.op = 0x0105 → c.chkCancel k r = 0 → ∃ t : State, exec (.mirrorCopyReceived ch packet tick) s = .next t ∧
      t.chip.cmd.sched = c.cmd.sched.filter (fun y => !gone.contains y) ∧ t.chip.pair.results = p.results ++ [(16 + ch.toNat, 0, c.tickN, [])] ∧
      t.chip.pair.undo = undone ++ [(ch.toNat, .cancel c.cmd.sched gone)] ∧ t.chip.mem = c.mem ∧ t.chip.eng = c.eng) ∧
    (¬ (up ∧ awaited ∧ copied) → exec (.mirrorAckReceived ch reason) s = .next s) ∧
    (up → awaited → copied → reason ≠ 0 → ∃ t : State, exec (.mirrorAckReceived ch reason) s = .next t ∧ noCopy t ∧ refused t 0x000B ∧
      (q.op = 0x0201 → t.chip.graph.bank = .empty) ∧ (q.op ≠ 0x0201 → t.chip.graph = c.graph) ∧ t.chip.cmd.sched = c.cmd.sched) ∧
    (up → awaited → copied → reason = 0 → opTicks q.op = true → h.effTick < c.firstBoundary → ∃ t : State, exec (.mirrorAckReceived ch reason) s = .next t ∧
      noCopy t ∧ refused t (if q.hasTick = true ∧ q.atTick ≠ 0 then 0x0008 else 0x000B) ∧ t.chip.cmd.sched = c.cmd.sched) ∧
    (up → awaited → copied → reason = 0 → opTicks q.op = true → c.firstBoundary ≤ h.effTick → again ≠ 0 → ∃ t : State, exec (.mirrorAckReceived ch reason) s = .next t ∧
      noCopy t ∧ refused t again ∧ t.chip.cmd.sched = c.cmd.sched) ∧
    (up → awaited → copied → reason = 0 → opTicks q.op = true → c.firstBoundary ≤ h.effTick → again = 0 → ∃ (t : State) (y : Sched),
      exec (.mirrorAckReceived ch reason) s = .next t ∧ noCopy t ∧ t.chip.cmd.sched = c.cmd.sched ++ [y] ∧ y.ch = ch.toNat ∧ y.op = q.op ∧
      y.tick = h.effTick ∧ y.remote = false ∧ (q.op ∉ waitOps → (t.chip.chan ch.toNat).work = .answered ∧
        ∃ z : Resp, (t.chip.chan ch.toNat).rsp = some z ∧ z.reason = 0 ∧ z.applied = BitVec.ofNat 64 h.effTick)) ∧
    (up → awaited → copied → reason = 0 → q.op = 0x0201 → ∃ t : State, exec (.mirrorAckReceived ch reason) s = .next t ∧ noCopy t ∧
      t.chip.Answers ch.toNat 0 c.eng.tick (leBytes 8 c.graph.bank.imageId.toNat) ∧ t.chip.graph = c.graph) ∧
    (up → awaited → copied → reason = 0 → opTicks q.op = false → q.op ≠ 0x0201 → ∃ t : State, exec (.mirrorAckReceived ch reason) s = .next t ∧ noCopy t ∧
      t.chip.chan ch.toNat = { h with work := .checked } ∧ t.chip.cmd.sched = c.cmd.sched) ∧
    (p.owner = true → awaited → late = false → ∃ t : State, exec (.mirrorAckTimeout ch late) s = .next t ∧ noCopy t ∧ refused t 0x000B ∧
      t.chip.pairState = 2 ∧ CountsOne Reg.PAIR_LINK_ERR s t ∧ t.chip.regFld Reg.PAIR_LINK_ERR 31 30 = 2 ∧
      (q.op = 0x0201 → t.chip.graph.bank = .empty) ∧ (q.op ≠ 0x0201 → t.chip.graph = c.graph)) ∧
    (p.owner = true → (late = true ∨ ¬ awaited) → exec (.mirrorAckTimeout ch late) s = .next s) ∧
    (p.owner = false → ∃ t : State, exec (.mirrorAckTimeout ch late) s = .next t ∧ t.chip.pair.undo = undone ∧
      (last = none → t.chip.cmd = c.cmd) ∧
      (last = some (.entry e) → t.chip.cmd.sched = if c.cmd.sched.contains e then c.cmd.sched.erase e else c.cmd.sched) ∧
      (∀ was old : List Sched, last = some (.cancel was old) → ∀ y ∈ old, y ∈ was → c.tickN < y.tick → y ∈ t.chip.cmd.sched) ∧
      (∀ bk : Bank, last = some (.bank bk) → (∀ a l : Nat, bk ≠ .loading (16 + ch.toNat) a l) → t.chip.graph = { c.graph with bank := bk }) ∧
      (∀ m : Map Byte, last = some (.book m) → t.chip.sys.fieldBook = m) ∧
      ((last = none ∨ last = some (.entry e)) → ∀ a l : Nat, c.graph.bank = .loading (16 + ch.toNat) a l → t.chip.graph.bank = .empty) ∧
      t.chip.pairState = (if late = false ∧ c.pairState = 3 then 2 else c.pairState) ∧
      (∀ m ∈ p.forwards, m.ch = k → { m with acked := false } ∈ t.chip.pair.forwards) ∧ t.chip.eng = c.eng ∧ t.chip.mem = c.mem) ∧
    (p.owner = false → exec (.mirrorForwardReceived c8 packet) s = .next (replies (k8, if r.op = 0x0902 then 0x0702 else 0x000B, 0, []))) ∧
    (p.owner = true → (c.chan k8).st = .taken → exec (.mirrorForwardReceived c8 packet) s = .next s) ∧
    (p.owner = true → (c.chan k8).st ≠ .taken → ∃ t : State, exec (.mirrorForwardReceived c8 packet) s = .next t ∧
      t.chip.chan k8 = { Chan.reset with st := .taken, req := packet } ∧ OnlyChan k8 s t ∧
      t.chip.cmd.takes = if opTicks r.op then c.cmd.takes ++ [k8] else c.cmd.takes) ∧
    (listed → ∃ t : State, exec (.forwardResultReceived c8 reason applied payload) s = .next t ∧
      t.chip.pair = { p with forwards := p.forwards.filter (fun m => m.ch != c8.toNat) } ∧ t.chip.regs = c.regs ∧ t.chip.eng = c.eng ∧
      (f.st = .taken → f.work = .forwarded → t.chip.Answers c8.toNat reason.toNat applied payload) ∧
      (¬ (f.st = .taken ∧ f.work = .forwarded) → t.chip.cmd = c.cmd)) ∧
    (¬ listed → exec (.forwardResultReceived c8 reason applied payload) s = .next s) ∧
    (receives → Quiet s → ∃ t : State, exec (.bulkFrameReceived (.image a b)) s = .next t ∧ t.chip.eng = c.eng ∧ t.chip.cells = c.cells ∧
      memRead t.chip.mem.dram a.toNat b.length = b ∧
      ∀ j : Nat, j < a.toNat ∨ a.toNat + b.length ≤ j → Map.get byte0 t.chip.mem.dram j = Map.get byte0 c.mem.dram j) ∧
    (receives → (∀ v w, item ≠ .image v w) → (∀ v w, item ≠ .align v w) → ∃ t : State, exec (.bulkFrameReceived item) s = .next t ∧
      t.chip.pair.bulk = p.bulk ++ [item] ∧ t.chip.pair.bulkAt = c.tickN ∧ t.chip.pair.resync.isSome = true ∧ { t.chip with pair := p } = c) ∧
    (¬ receives → exec (.bulkFrameReceived item) s = .next s) ∧
    (c.isFresh ch.toNat 0x0903 = true → c.chkResync q ≠ 0 → ∃ t : State, exec (.pairResync ch reason) s = .next t ∧ refused t (c.chkResync q) ∧
      OnlyChan ch.toNat s t) ∧
    (c.isFresh ch.toNat 0x0903 = true → c.chkResync q = 0 → reason ≠ 0 → ∃ t : State, exec (.pairResync ch reason) s = .next t ∧
      t.chip.Answers ch.toNat 6 0xFFFFFFFFFFFFFFFF (leBytes 2 reason.toNat) ∧ OnlyChan ch.toNat s t) ∧
    (c.isFresh ch.toNat 0x0903 = true → c.chkResync q = 0 → reason = 0 → ∃ t : State, exec (.pairResync ch reason) s = .next t ∧
      t.chip.pair = { p with resync := some { ch := some ch.toNat } } ∧ t.chip.chan ch.toNat = { h with work := .accepted } ∧ t.chip.regs = c.regs) ∧
    (p.resync = some { ch := some n } → commits → Quiet s → ∃ t : State, exec (.resyncCommit bad) s = .next t ∧ returned t ∧ t.chip.graph = c.graph ∧
      t.chip.mem = c.mem ∧ t.chip.Answers n 0 c.eng.tick (leBytes 8 (c.tickN + settle)) ∧ (bad = false → recorded t) ∧
      (bad = true → CountsOne Reg.FLT_FB_CNT s t)) ∧
    (p.resync = some { ch := none } → commits → p.bulkAt + 2 ≤ c.tickN → c.eng.change = none → ∃ t : State, exec (.resyncCommit false) s = .next t ∧ returned t ∧ recorded t ∧
      (p.bulk = [] → t.chip.graph = c.graph ∧ t.chip.mem = c.mem)) ∧
    ((p.resync = none ∨ ¬ commits) → exec (.resyncCommit bad) s = .next s) ∧
    (p.resync = some { ch := none } → (c.tickN < p.bulkAt + 2 ∨ c.eng.change.isSome = true) → exec (.resyncCommit bad) s = .next s) ∧
    (c.sys.execStarted = true → c.flt.traps.length ≤ 32 → ∃ t : State, exec .livenessUpdate s = .next t ∧ t.chip.sys = live ∧
      t.chip.flt = { c.flt with waiting := [], traps := (w.reverse ++ c.flt.traps).take 32 } ∧
      (w ≠ [] → t.chip.regBit Reg.FLT_EVENT 0 = true) ∧ RegsBut [Reg.FLT_EVENT] s t) ∧
    (c.sys.execStarted = false → exec .livenessUpdate s = .next s) ∧
    (c.sys.execStarted = true → c.sys.execAlive = true → Quiet s → ∃ t : State, exec .execWdogExpiry s = .next t ∧
      t.chip.sys = { c.sys with execAlive := false, liveMs := 3 } ∧ CountsOne Reg.FLT_WDOG_CNT s t ∧ RegsBut [Reg.FLT_WDOG_CNT] s t) ∧
    ((c.sys.execStarted = false ∨ c.sys.execAlive = false) → exec .execWdogExpiry s = .next s) ∧
    (c.pfUp false = true → p.matched = some (x, sg) → ∃ t : State, exec .pairSigTake s = .next t ∧
      t.chip.reg Reg.PAIR_SIG_TICK_LO = x.tick.setWidth 32 ∧ t.chip.reg Reg.PAIR_SIG_TICK_HI = (x.tick >>> 32).setWidth 32 ∧
      (i < 9 → t.chip.reg (Reg.PAIR_SIG_OWN i) = x.sigs.getD i 0 ∧ t.chip.reg (Reg.PAIR_SIG_PTR i) = sg.getD i 0) ∧ { t.chip with regs := c.regs } = c) ∧
    ((c.pfUp false = false ∨ p.matched = none) → exec .pairSigTake s = .next s)

/-- R179, R472 to R479, R482, R484 to R487. That windows take no time is the model's choice (log entry 31), as is when a port makes its
grants (log entry 57), where what waits at the ports of the matrix is a free value. -/
def Obligations.DramAndMatrix : Prop :=
  ∀ (s : State) (len : BitVec 5) (len2 : BitVec 10) (init : BitVec 4) (tile : BitVec 27) (corr : BitVec 8) (drift err1 err2 bad fwd mark parity write : Bool)
    (addr : BitVec 35) (addr40 : BitVec 40) (bytes : List Byte) (n : Nat) (x : DmaAct)
    (arr : List DramAccess) (r : DramReq) (waiting : List (Nat × Nat)) (w : Nat × Nat),
    let c := s.chip
    let d := c.dramArrivals arr
    let sd : State := { s with chip := d }
    let boundary := c.eng.ticking = true ∧ c.eng.phase = .entry
    let ready := c.regFld Reg.DDR_STAT 2 0 = 1
    let allowed := (∀ t : Nat, c.ddr.lastWindow = some t → t + 32 ≤ c.tickN) ∧ (∀ t : Nat, c.ddr.lastFreq = some t → t + 32 < c.tickN)
    let absent (t : State) (l : Nat) : Prop := t.chip.regFld Reg.DDR_ABSENT 15 0 = l ∧ t.chip.regFld Reg.DDR_ABSENT 31 16 = max l (c.regFld Reg.DDR_ABSENT 31 16)
    let retrains := boundary ∧ ready ∧ allowed ∧ c.ddr.drift = true ∧ len.toNat ≤ 20
    let changes := boundary ∧ ready ∧ allowed ∧ c.regBit Reg.DDR_STAT 5 ≠ c.eng.cell1000 ∧ c.ddr.cellAt < c.tickN ∧ len2.toNat ≤ 600
    let serves := ready ∧ init.toNat < 9
    let idle := c.ddr.reqs = []
    let acc : DramAccess := { init := init, addr := addr, bytes := bytes, mark := mark }
    let joins := (∀ e : DramReq, entryOf d.ddr.reqs acc = some e → e.parts.contains acc = false) ∧
      (entryOf d.ddr.reqs acc = none → d.dramRoom true = true)
    let port := c.busPort w.1 w.2
    let granted := Map.get last0 (c.busGrant waiting).ports.bus port
    let here := waiting.filter (fun v => c.busPort v.1 v.2 == port)
    let turn (z i j : Nat) : Prop := if z < j then z < i ∧ i ≤ j else z < i ∨ i ≤ j
    let early (q : DramReq) : Prop := q ∈ issuable c.ddr.reqs []
    let urgent (q : DramReq) : Prop := 12 ≤ c.reqQos q
    let t0 := tile.toNat
    let failing := (bad = true ∧ marked (c.mem.entry .dram t0) = false) ∨ c.mem.fails .dram t0 = true
    let aborted (t : State) : Prop := t.chip.host.rsp.status = 2 ∧ CountsOne Reg.GCTL_ABORT_CNT s t
    let a := addr.toNat
    let ta := a / 256
    let fits := bytes ≠ [] ∧ a % 256 + bytes.length ≤ 256 ∧ a < c.dramUsable
    let whole := bytes.length = 256
    let counted (t : State) (cnt lo hi kind : Nat) : Prop := CountsOne cnt s t ∧ t.chip.regFld cnt 31 30 = kind ∧ t.chip.regBit cnt 29 = write ∧
      t.chip.regFld cnt 19 16 = init.toNat ∧ t.chip.reg lo = addr40.setWidth 32 ∧ t.chip.reg hi = (addr40 >>> 32).setWidth 32
    let target := c.busTarget init.toNat addr40.toNat
    let matrix := c.sys.up = true ∧ init.toNat < 9
    let running := n < 16 ∧ c.dma.queue.head? = some n ∧ c.regFld (Reg.DMA_CH_STAT n) 31 29 = 2 ∧ c.forced 4 = false ∧ c.dmaAct n = some x ∧ x.writing = write ∧
      (if write then x.burst.2.1 else x.burst.1) ≤ addr40.toNat ∧ addr40.toNat < (if write then x.burst.2.1 else x.burst.1) + x.burst.2.2
    (c.sys.up = true → drift = true → exec (.dqsOscCheck drift) s = .next { s with chip := { c with ddr := { c.ddr with drift := true } } }) ∧
    ((c.sys.up = false ∨ drift = false) → exec (.dqsOscCheck drift) s = .next s) ∧
    (retrains → ∃ t : State, exec (.retrainWindow len) s = .next t ∧ t.chip.ddr = { c.ddr with drift := false, lastWindow := some c.tickN } ∧
      CountsOne Reg.DDR_RETRAIN_CNT s t ∧ absent t len.toNat ∧ RegsBut [Reg.DDR_RETRAIN_CNT, Reg.DDR_ABSENT] s t ∧ t.chip.mem = c.mem ∧ t.chip.eng = c.eng) ∧
    (¬ retrains → exec (.retrainWindow len) s = .next s) ∧
    (changes → ∃ t : State, exec (.ddrFreqChange len2) s = .next t ∧ t.chip.ddr = { c.ddr with lastFreq := some c.tickN } ∧ absent t len2.toNat ∧
      t.chip.regBit Reg.DDR_STAT 5 = c.eng.cell1000 ∧ t.chip.regBit Reg.DDR_STAT 6 = c.eng.cell1000 ∧ t.chip.regFld Reg.DDR_STAT 2 0 = 1 ∧
      t.chip.regBit Reg.DDR_EVENT 2 = true ∧ RegsBut [Reg.DDR_STAT, Reg.DDR_EVENT, Reg.DDR_ABSENT] s t ∧ t.chip.mem = c.mem ∧ t.chip.eng = c.eng) ∧
    (¬ changes → exec (.ddrFreqChange len2) s = .next s) ∧
    (¬ serves → exec (.dramReadDone init tile corr err1 err2 bad ⟨fwd, arr⟩) s = .next s ∧ exec (.dramWriteDone init addr bytes mark ⟨parity, arr⟩) s = .next s) ∧
    (c.dramNext = some r → early r ∧ ∀ q : DramReq, early q → (urgent q → urgent r) ∧
      ((urgent q ↔ urgent r) → c.rowOpen q.tile = true → c.rowOpen r.tile = true)) ∧
    (c.dramNext = none → ∀ q : DramReq, ¬ early q) ∧
    c.reqQos r = (if r.qos < 12 ∧ r.since + 10000 ≤ c.dtm.clocks then 11 else r.qos) ∧
    (serves → readOf d.ddr.reqs init.toNat t0 = some r → (fwd = true ∨ ∃ q ∈ d.ddr.reqs, q.write = true ∧ q.tile = t0 ∧ q.num < r.num) →
      r.init = init.toNat → r.tile = t0 → ∃ t : State, exec (.dramReadDone init tile corr err1 err2 bad ⟨fwd, arr⟩) s = .next t ∧
      CountsOne Reg.DDR_FWD_CNT sd t ∧ RegsBut [Reg.DDR_FWD_CNT] sd t ∧ t.chip.ddr = { d.ddr with reqs := d.ddr.reqs.filter (fun q => q.num != r.num) } ∧
      { t.chip with regs := d.regs, ddr := d.ddr } = d) ∧
    (serves → readOf d.ddr.reqs init.toNat t0 = none → d.dramRoom false = false →
      exec (.dramReadDone init tile corr err1 err2 bad ⟨fwd, arr⟩) s = .next sd) ∧
    (serves → idle → fwd = true → ∃ t : State, exec (.dramReadDone init tile corr err1 err2 bad ⟨fwd, []⟩) s = .next t ∧ CountsOne Reg.DDR_FWD_CNT s t ∧
      RegsBut [Reg.DDR_FWD_CNT] s t ∧ t.chip.ddr.reqs = [] ∧ { t.chip with regs := c.regs, ddr := c.ddr } = c) ∧
    (serves → idle → fwd = false → Quiet s → ∃ t : State, exec (.dramReadDone init tile corr err1 err2 bad ⟨fwd, []⟩) s = .next t ∧ t.chip.mem = c.mem ∧
      t.chip.ddr.reqs = [] ∧ t.chip.rowOpen t0 = true ∧ t.chip.eng = c.eng ∧
      (corr ≠ 0 → t.chip.regFld Reg.DDR_CORR_CNT 15 0 = min 65535 (c.regFld Reg.DDR_CORR_CNT 15 0 + corr.toNat) ∧
        t.chip.regFld Reg.DDR_CORR_CNT 17 16 = (t0 % 4) ^^^ (t0 / 256 % 4)) ∧
      (corr = 0 → t.chip.reg Reg.DDR_CORR_CNT = c.reg Reg.DDR_CORR_CNT) ∧
      (err1 = true → err2 = true → CountsOne Reg.DDR_XFER_CNT s t ∧ t.chip.reg Reg.DDR_XFER_ADDR = tile.setWidth 32 ∧ t.chip.regBit Reg.DDR_EVENT 0 = true ∧
        t.chip.reg Reg.DDR_TCHK_CNT = c.reg Reg.DDR_TCHK_CNT ∧ (init = 0 → aborted t)) ∧
      (¬ (err1 = true ∧ err2 = true) → t.chip.reg Reg.DDR_XFER_CNT = c.reg Reg.DDR_XFER_CNT ∧
        (failing → CountsOne Reg.DDR_TCHK_CNT s t ∧ t.chip.reg Reg.DDR_TCHK_ADDR = tile.setWidth 32 ∧ t.chip.regBit Reg.DDR_EVENT 1 = true) ∧
        (¬ failing → t.chip.reg Reg.DDR_TCHK_CNT = c.reg Reg.DDR_TCHK_CNT))) ∧
    (¬ fits → exec (.dramWriteDone init addr bytes mark ⟨parity, arr⟩) s = .next s) ∧
    (serves → fits → entryOf d.ddr.reqs acc = none → d.dramRoom true = false → exec (.dramWriteDone init addr bytes mark ⟨parity, arr⟩) s = .next sd) ∧
    (serves → fits → parity = true → entryOf d.ddr.reqs acc = some r → acc ∈ r.parts → r.tile = ta → r.old.length = 256 →
      (∀ q ∈ d.ddr.reqs, q.tile = ta → q.num = r.num) → Quiet sd → ∃ t : State, exec (.dramWriteDone init addr bytes mark ⟨parity, arr⟩) s = .next t ∧
      memRead t.chip.mem.dram (256 * ta) 256 = r.old ∧ t.chip.mem.entry .dram ta = r.oldChk ∧ CountsOne Reg.DDR_XFER_CNT sd t) ∧
    (serves → fits → idle → parity = true → Quiet s → ∃ t : State, exec (.dramWriteDone init addr bytes mark ⟨parity, []⟩) s = .next t ∧ t.chip.mem = c.mem ∧
      CountsOne Reg.DDR_XFER_CNT s t ∧ t.chip.reg Reg.DDR_XFER_ADDR = BitVec.ofNat 32 ta ∧ (init = 0 → aborted t)) ∧
    (serves → fits → parity = false → entryOf d.ddr.reqs acc = some r → acc ∈ r.parts → ∃ t : State,
      exec (.dramWriteDone init addr bytes mark ⟨parity, arr⟩) s = .next t ∧ t.chip.mem = d.mem ∧ ∀ q ∈ t.chip.ddr.reqs, q.num ≠ r.num) ∧
    (serves → fits → parity = false → joins → Quiet sd → ∃ t : State, exec (.dramWriteDone init addr bytes mark ⟨parity, arr⟩) s = .next t ∧
      memRead t.chip.mem.dram a bytes.length = bytes ∧
      (∀ j : Nat, j < a ∨ a + bytes.length ≤ j → Map.get byte0 t.chip.mem.dram j = Map.get byte0 d.mem.dram j) ∧
      (∀ j : Nat, j ≠ ta → t.chip.mem.entry .dram j = d.mem.entry .dram j) ∧ t.chip.mem.fails .dram ta = false ∧
      (marked (t.chip.mem.entry .dram ta) = true ↔ mark = true ∨ (¬ whole ∧ (d.mem.fails .dram ta = true ∨ marked (d.mem.entry .dram ta) = true))) ∧
      { t.chip.mem with dram := d.mem.dram, dramChk := d.mem.dramChk } = d.mem ∧ t.chip.eng = d.eng) ∧
    (c.sys.up = true → ∃ t : State, exec .bmxHeldIssue s = .next t ∧ CountsOne Reg.BMX_HOLD_CNT s t ∧ RegsBut [Reg.BMX_HOLD_CNT] s t ∧
      t.chip.ports = (c.busGrant c.busWaits).ports ∧ { t.chip with regs := c.regs, ports := c.ports, nfree := c.nfree } = c) ∧
    (waiting = [] → c.busGrant waiting = c) ∧
    (waiting.head? = some w → ∃ i : Nat, granted = some i ∧ (∃ v ∈ here, v.1 = i) ∧ ∀ v ∈ here,
        (1 ≤ port → port ≤ 4 → chipRank i ≤ chipRank v.1) ∧ (port = 0 → 12 ≤ c.busQos v.1 → 12 ≤ c.busQos i) ∧
        (5 ≤ port → c.busQos v.1 ≤ c.busQos i ∧
          (c.busQos v.1 = c.busQos i → (Map.get last0 c.ports.bus port = none → i ≤ v.1) ∧
            ∀ z : Nat, Map.get last0 c.ports.bus port = some z → turn z i v.1))) ∧
    (c.sys.up = false → exec .bmxHeldIssue s = .next s) ∧
    (matrix → target = none → Quiet s → ∃ t : State, exec (.defaultTarget init addr40 write) s = .next t ∧
      counted t Reg.BMX_DEC_CNT Reg.BMX_DEC_ADDR_LO Reg.BMX_DEC_ADDR_HI 0 ∧ t.chip.regBit Reg.BMX_EVENT 0 = true ∧ t.chip.mem = c.mem ∧
      t.chip.reg Reg.BMX_ERR_CNT = c.reg Reg.BMX_ERR_CNT ∧ (init = 0 → aborted t) ∧
      (init = 2 → running → (x.stop = false → t.chip.regFld (Reg.DMA_CH_STAT n) 31 29 = 4 ∧ t.chip.regFld (Reg.DMA_CH_STAT n) 28 27 = 2) ∧
        (x.stop = true → t.chip.regFld (Reg.DMA_CH_STAT n) 31 29 = 5))) ∧
    (¬ (matrix ∧ target = none) → exec (.defaultTarget init addr40 write) s = .next s) ∧
    (matrix → target ≠ none → Quiet s → ∃ t : State, exec (.busTimeout init addr40 write) s = .next t ∧
      counted t Reg.BMX_ERR_CNT Reg.BMX_ERR_ADDR_LO Reg.BMX_ERR_ADDR_HI 0 ∧ t.chip.regBit Reg.BMX_EVENT 1 = true ∧ t.chip.mem = c.mem ∧
      t.chip.reg Reg.BMX_DEC_CNT = c.reg Reg.BMX_DEC_CNT ∧ (init = 0 → aborted t) ∧
      (init = 2 → running → x.stop = false → c.regFld (Reg.DMA_CH_STAT n) 25 23 < fld x.cfg 22 20 →
        t.chip.regFld (Reg.DMA_CH_STAT n) 25 23 = c.regFld (Reg.DMA_CH_STAT n) 25 23 + 1 ∧ t.chip.regFld (Reg.DMA_CH_STAT n) 31 29 = 2)) ∧
    (¬ (matrix ∧ target ≠ none) → exec (.busTimeout init addr40 write) s = .next s)

/-- R488, R490 to R497. That LEFT falls with the read of a burst is the model's reading (log entry 31). -/
def Obligations.DmaTransfers : Prop :=
  ∀ (s : State) (ch : BitVec 4) (err : Bool) (n : Nat) (a : DmaAct),
    let c := s.chip
    let k := ch.toNat
    let en (d : Chip) (i : Nat) : Bool := d.regBit (Reg.DMA_CH_CTRL i) 0
    let st (d : Chip) (i : Nat) : Nat := d.regFld (Reg.DMA_CH_STAT i) 31 29
    let count := c.reg (Reg.DMA_CH_COUNT k)
    let check := c.dmaCheck k
    let starts := c.pfUp false = true ∧ c.forced 4 = false ∧ en c k = false
    let unconfirmed (t : State) (i : Nat) (x : DmaAct) : Prop := t.chip.reg (Reg.DMA_CH_RES_CNT i) = BitVec.ofNat 32 x.left ∧
      t.chip.reg (Reg.DMA_CH_RES_ADDR_LO i) = BitVec.ofNat 32 (if x.cfg.getLsbD 31 then x.dst + x.left else x.dst + (x.count - x.left))
    let ended (t : State) (i v : Nat) : Prop := st t.chip i = v ∧ en t.chip i = false ∧ t.chip.dmaAct i = none ∧ i ∉ t.chip.dma.queue
    let head := n < 16 ∧ c.dma.queue.head? = some n ∧ c.forced 4 = false ∧ c.dmaAct n = some a
    let runs := head ∧ st c n = 2
    let goes := runs ∧ a.stop = false
    let halted (t : State) (e : Nat) : Prop := ended t n 4 ∧ t.chip.regFld (Reg.DMA_CH_STAT n) 28 27 = e ∧ unconfirmed t n a ∧
      CountsOne Reg.DMA_ERR_CNT s t ∧ t.chip.regFld Reg.DMA_ERR_CNT 19 16 = n ∧ t.chip.regBit Reg.DMA_EVENT (16 + n) = true
    let src := a.burst.1
    let dst := a.burst.2.1
    let len := a.burst.2.2
    let retries := c.regFld (Reg.DMA_CH_STAT n) 25 23
    let repeated (t : State) : Prop := (retries < fld a.cfg 22 20 → t.chip.regFld (Reg.DMA_CH_STAT n) 25 23 = retries + 1 ∧ st t.chip n = 2 ∧
      t.chip.dma = c.dma) ∧ (fld a.cfg 22 20 ≤ retries → halted t 1)
    let sound (b m : Nat) : Prop := ∀ j ∈ tilesOf b m, c.mem.fails .dram j = false
    let counted (t : State) (target : Option Target) : Prop := (∀ z : Nat, target = some (.dram z) → CountsOne Reg.DDR_XFER_CNT s t) ∧
      (∀ z : Nat, target = some (.region z) → CountsOne Reg.BMX_ERR_CNT s t ∧ t.chip.regFld Reg.BMX_ERR_CNT 31 30 = 1)
    (¬ starts → exec (.dmaStart ch) s = .next s) ∧
    (starts → ∃ t : State, exec (.dmaStart ch) s = .next t ∧ t.chip.regFld Reg.DMA_REASON 19 16 = k ∧ t.chip.regFld Reg.DMA_REASON 15 0 = check ∧
      t.chip.mem = c.mem ∧ t.chip.eng = c.eng ∧ (check ≠ 0 → RegsBut [Reg.DMA_REASON] s t ∧ t.chip.dma = c.dma) ∧
      (check = 0 → count ≠ 0 → t.chip.dma.queue = c.dma.queue ++ [k] ∧ en t.chip k = true ∧ st t.chip k = 1 ∧ t.chip.reg (Reg.DMA_CH_LEFT k) = count ∧
        ∃ x : DmaAct, t.chip.dmaAct k = some x ∧ x.left = count.toNat ∧ x.count = count.toNat ∧ x.src = c.dmaSrc k ∧ x.dst = c.dmaDst k ∧
          x.cfg = c.reg (Reg.DMA_CH_CFG k) ∧ x.writing = false ∧ x.stop = false) ∧
      (check = 0 → count = 0 → ended t k 3 ∧ t.chip.regBit Reg.DMA_EVENT k = true)) ∧
    (c.pfUp false = true → c.dmaAct k = some a → en c k = true → st c k = 2 → ∃ t : State, exec (.dmaAbort ch) s = .next t ∧
      t.chip.dmaAct k = some { a with stop := true } ∧ t.chip.regs = c.regs ∧ t.chip.dma.queue = c.dma.queue ∧ t.chip.mem = c.mem) ∧
    (c.pfUp false = true → c.dmaAct k = some a → en c k = true → st c k ≠ 2 → ∃ t : State, exec (.dmaAbort ch) s = .next t ∧ ended t k 5 ∧ unconfirmed t k a ∧
      t.chip.mem = c.mem ∧ t.chip.dma.queue = c.dma.queue.filter (fun i => i != k)) ∧
    ((c.pfUp false = false ∨ c.dmaAct k = none ∨ en c k = false) → exec (.dmaAbort ch) s = .next s) ∧
    (head → st c n = 1 → ∃ t : State, exec .dmaChannelRun s = .next t ∧ st t.chip n = 2 ∧ t.chip.regBit Reg.DMA_STAT 31 = true ∧
      t.chip.regFld Reg.DMA_STAT 19 16 = n ∧ t.chip.dma = c.dma ∧ RegsBut [Reg.DMA_CH_STAT n, Reg.DMA_STAT] s t) ∧
    ((c.dma.queue = [] ∨ (c.dma.queue.head? = some n ∧ (st c n ≠ 1 ∨ c.forced 4 = true))) → exec .dmaChannelRun s = .next s) ∧
    (a.cfg.getLsbD 31 = false → src = a.src + (a.count - a.left) ∧ dst = a.dst + (a.count - a.left) ∧ len ≤ a.left ∧ src % 256 + len ≤ 256 ∧
      dst % 256 + len ≤ 256 ∧ (len = a.left ∨ src % 256 + len = 256 ∨ dst % 256 + len = 256)) ∧
    (a.cfg.getLsbD 31 = true → src + len = a.src + a.left ∧ dst + len = a.dst + a.left ∧ len ≤ a.left ∧
      (0 < len → src / 256 = (a.src + a.left - 1) / 256 ∧ dst / 256 = (a.dst + a.left - 1) / 256) ∧
      (len = a.left ∨ src % 256 = 0 ∨ dst % 256 = 0)) ∧
    (goes → a.writing = false → c.busTarget 2 src = none → Quiet s → ∃ t : State, exec (.dmaReadResponse err) s = .next t ∧ halted t 2 ∧
      CountsOne Reg.BMX_DEC_CNT s t ∧ t.chip.mem = c.mem) ∧
    (goes → a.writing = false → c.busTarget 2 src ≠ none → err = true → Quiet s → ∃ t : State, exec (.dmaReadResponse err) s = .next t ∧
      repeated t ∧ counted t (c.busTarget 2 src) ∧ t.chip.mem = c.mem) ∧
    (∀ z : Nat, goes → a.writing = false → c.busTarget 2 src = some (.dram z) → err = false → sound z len → ∃ (t : State) (x : DmaAct),
      exec (.dmaReadResponse err) s = .next t ∧ t.chip.dmaAct n = some x ∧ x.hold = memRead c.mem.dram z len ∧
      (x.mark = true ↔ ∃ j ∈ tilesOf z len, marked (c.mem.entry .dram j) = true) ∧ x.writing = true ∧ x.left = a.left ∧ x.src = a.src ∧ x.dst = a.dst ∧
      x.count = a.count ∧ x.cfg = a.cfg ∧ t.chip.reg (Reg.DMA_CH_LEFT n) = BitVec.ofNat 32 (a.left - len) ∧
      (x.mark = true → t.chip.regBit (Reg.DMA_CH_STAT n) 26 = true) ∧ st t.chip n = 2 ∧ t.chip.mem = c.mem ∧ t.chip.dma.queue = c.dma.queue) ∧
    (goes → a.writing = true → c.busTarget 2 dst = none → Quiet s → ∃ t : State, exec (.dmaWriteResponse err) s = .next t ∧ halted t 2 ∧
      CountsOne Reg.BMX_DEC_CNT s t ∧ t.chip.mem = c.mem) ∧
    (goes → a.writing = true → c.busTarget 2 dst ≠ none → err = true → Quiet s → ∃ t : State, exec (.dmaWriteResponse err) s = .next t ∧
      repeated t ∧ counted t (c.busTarget 2 dst) ∧ t.chip.mem = c.mem) ∧
    (∀ z : Nat, goes → a.writing = true → c.busTarget 2 dst = some (.dram z) → err = false → z % 256 + a.hold.length ≤ 256 → Quiet s → ∃ t : State,
      exec (.dmaWriteResponse err) s = .next t ∧ memRead t.chip.mem.dram z a.hold.length = a.hold ∧
      (∀ j : Nat, j < z ∨ z + a.hold.length ≤ j → Map.get byte0 t.chip.mem.dram j = Map.get byte0 c.mem.dram j) ∧
      (a.mark = true → marked (t.chip.mem.entry .dram (z / 256)) = true) ∧
      (a.left ≤ len → ended t n 3 ∧ t.chip.reg (Reg.DMA_CH_RES_CNT n) = 0 ∧ t.chip.regBit Reg.DMA_EVENT n = true) ∧
      (len < a.left → st t.chip n = 2 ∧ t.chip.regFld (Reg.DMA_CH_STAT n) 25 23 = 0 ∧ t.chip.dma.queue = c.dma.queue ∧
        t.chip.dmaAct n = some { a with left := a.left - len, hold := [], mark := false, writing := false })) ∧
    (runs → a.stop = true → a.writing = false → Quiet s → ∃ t : State, exec (.dmaReadResponse err) s = .next t ∧ ended t n 5 ∧ unconfirmed t n a) ∧
    (runs → a.stop = true → a.writing = true → (c.busTarget 2 dst = none ∨ err = true) → Quiet s → ∃ t : State, exec (.dmaWriteResponse err) s = .next t ∧
      ended t n 5 ∧ unconfirmed t n a) ∧
    (∀ z : Nat, runs → a.stop = true → a.writing = true → c.busTarget 2 dst = some (.dram z) → err = false → z % 256 + a.hold.length ≤ 256 → Quiet s →
      ∃ t : State, exec (.dmaWriteResponse err) s = .next t ∧ memRead t.chip.mem.dram z a.hold.length = a.hold ∧ ended t n 5 ∧
      unconfirmed t n { a with left := a.left - len }) ∧
    ((c.dma.queue = [] ∨ c.forced 4 = true ∨ (c.dma.queue.head? = some n ∧ st c n ≠ 2)) →
      exec (.dmaReadResponse err) s = .next s ∧ exec (.dmaWriteResponse err) s = .next s) ∧
    (runs → (a.writing = true → exec (.dmaReadResponse err) s = .next s) ∧ (a.writing = false → exec (.dmaWriteResponse err) s = .next s))

/-- R504, R506 to R516. The counts of averages and of cool readings that make 10 ms and 1 s are the model's reading (log entry 26). -/
def Obligations.FaultsAndPower : Prop :=
  ∀ (s : State) (ch : BitVec 4) (mask : Word) (bad : Option (BitVec 2)) (sum t16 : Half) (u : Unit3) (k : Nat),
    let c := s.chip
    let ch0 := ch.toNat
    let r := c.reqOf ch0
    let unack (d : Chip) (i : Nat) : Bool := d.regBit Reg.FLT_UNACK i
    let pinned (t : State) : Prop := (t.chip.sys.faultN = true ↔ (∃ i : Nat, i < 28 ∧ unack t.chip i = true ∧ t.chip.regBit (Reg.FLT_CFG i) 4 = true) ∨
        t.chip.regBit Reg.PWR_RESET_CAUSE 31 = true ∨ t.chip.regBit Reg.FLT_FAULTN 1 = true ∨ (t.chip.sys.resetLate = true ∧ t.chip.sys.up = false) ∨
        t.chip.pwr.stage = 5) ∧ t.chip.regBit Reg.FLT_FAULTN 31 = t.chip.sys.faultN
    let acked (m : Nat) (t : State) : Prop := pinned t ∧ t.chip.eng = c.eng ∧ t.chip.mem = c.mem ∧ (k < 28 →
      (m.testBit k = true → unack t.chip k = false ∧ (unack c k = true → t.chip.eff k = c.level k)) ∧
      (m.testBit k = false → unack t.chip k = unack c k) ∧ (m.testBit k = false ∨ unack c k = false → t.chip.eff k = c.eff k) ∧ t.chip.level k = c.level k)
    let replies (t : State) (v : Nat) (b : List Byte) : Prop := t.chip.Answers ch0 v (if v = 0 then c.eng.tick else 0xFFFFFFFFFFFFFFFF) b
    let packet := r.noTick = true ∧ r.noHandle = true
    let first := c.flt.resets.find? (fun x => x.atOnce || c.atBoundary)
    let cleared (t : State) (lo hi : Nat) : Prop := ∀ a : Nat, lo ≤ a → a < hi → t.chip.reg a = regReset a
    let older : Bool × Nat := match c.snapNewer with
      | some x => (!x.1, (x.2 + 1) % 2 ^ 32)
      | none => (false, 1)
    let p := c.pwr
    let nom := c.regFld Reg.PWR_VCORE 31 16
    let sag := c.sagOf sum.toNat
    let reached (n : Nat) : Prop := n ≤ 5 ∧ (n = 0 ∨ sag ≤ -(200 * (n : Int) + 200)) ∧ (n = 5 ∨ -(200 * (n : Int) + 400) < sag)
    let v := t16.toInt
    let hot5 := 26880 ≤ v ∧ 1 ≤ p.hot105
    let hot15 := 29440 ≤ v ∧ 1 ≤ p.hot115
    let cold := v ≤ 25600 ∧ 999 ≤ p.cool
    let starts := (if hot5 ∧ p.thermal = false then 1 else 0) + (if hot15 ∧ p.crit = false then 1 else 0)
    let n := p.decided
    let boundary := c.eng.ticking = true ∧ c.eng.phase = .entry
    let drops := if n < 2 then 4 else if n = 2 then 3 else 2
    (c.pfUp false = true → ∃ t : State, exec (.faultAckWrite mask) s = .next t ∧ acked (mask.toNat % 2 ^ 28) t ∧ t.chip.cmd = c.cmd) ∧
    (c.pfUp false = false → exec (.faultAckWrite mask) s = .next s) ∧
    (c.isFresh ch0 0x0A02 = true → ∃ t : State, exec (.faultAck ch) s = .next t ∧ (r.len ≠ 4 → replies t 3 [] ∧ OnlyChan ch0 s t) ∧
      (r.len = 4 → ¬ (packet ∧ r.p 0 4 < 2 ^ 28) → replies t 4 [] ∧ OnlyChan ch0 s t) ∧
      (r.len = 4 → packet → r.p 0 4 < 2 ^ 28 → replies t 0 (leBytes 4 (r.p 0 4 &&& (c.reg Reg.FLT_UNACK).toNat)) ∧ acked (r.p 0 4) t)) ∧
    (c.isFresh ch0 0x0A01 = true → ∃ t : State, exec (.faultCfg ch) s = .next t ∧ replies t (chkFaultCfg r) [] ∧
      (chkFaultCfg r ≠ 0 → OnlyChan ch0 s t) ∧ (chkFaultCfg r = 0 → pinned t ∧ t.chip.eng = c.eng ∧ t.chip.mem = c.mem ∧
        (∀ i : Nat, i < r.p 0 2 → (let e := r.fltEntry i
          t.chip.level e.1 = e.2.1 ∧ t.chip.regFld (Reg.FLT_CFG e.1) 4 4 = e.2.2 ∧ (unack c e.1 = false → t.chip.eff e.1 = e.2.1) ∧
          (unack c e.1 = true → t.chip.eff e.1 = c.eff e.1))) ∧
        (k < 28 → (∀ i : Nat, i < r.p 0 2 → (r.fltEntry i).1 ≠ k) → t.chip.reg (Reg.FLT_CFG k) = c.reg (Reg.FLT_CFG k) ∧ t.chip.eff k = c.eff k))) ∧
    (c.isFresh ch0 0x0A05 = true → ∃ t : State, exec (.cntClear ch) s = .next t ∧ (r.len ≠ 16 → replies t 3 [] ∧ OnlyChan ch0 s t) ∧
      (r.len = 16 → ¬ (packet ∧ r.z 12 4 = true ∧ r.p 0 12 ≠ 0) → replies t 4 [] ∧ OnlyChan ch0 s t) ∧
      (r.len = 16 → packet → r.z 12 4 = true → r.p 0 12 ≠ 0 → replies t 0 [] ∧ (k < 96 → (r.p 0 12).testBit k = true → t.chip.counter k = 0) ∧
        t.chip.eng = c.eng ∧ t.chip.mem = c.mem ∧ t.chip.flt = c.flt)) ∧
    (first = some u → Quiet s → ∃ t : State, exec .blockReset s = .next t ∧ t.chip.flt.resets = c.flt.resets.filter (fun x => x != u) ∧
      t.chip.regBit Reg.FLT_EVENT 2 = true ∧ t.chip.mem = c.mem ∧ t.chip.eng.tick = c.eng.tick ∧
      (u = .eng → t.chip.cells = [] ∧ t.chip.graph.live = none ∧ t.chip.graph.stake = c.graph.stake ∧ t.chip.eng.engine = .staked ∧
        t.chip.pair.owner = false ∧ cleared t 0xE0000 0xF0000 ∧
        ((c.chan k).st = .taken → (c.chan k).work ≠ .answered → (c.reqOf k).op = 0x0201 → t.chip.Answers k 6 0xFFFFFFFFFFFFFFFF [])) ∧
      (u = .sap → t.chip.sap = Sap.reset ∧ cleared t 0x50000 0x60000 ∧ t.chip.pair.owner = false ∧ t.chip.eng = c.eng) ∧
      (u = .drv → t.chip.drv = Drv.reset ∧ cleared t 0x70000 0x80000 ∧ t.chip.pair.owner = false ∧ t.chip.eng = c.eng) ∧
      (u = .net → t.chip.net = { Net.reset with stats := c.net.stats } ∧ cleared t 0x60000 0x70000 ∧ t.chip.pair = c.pair ∧ t.chip.eng = c.eng) ∧
      (u = .dtm → (k < 18 → t.chip.refEn k = false) ∧ (c.dtm.corr.natAbs ≤ 20000000000 → t.chip.dtm.corr = c.dtm.corr ∧
        ∃ i : Int, IsRound i c.dtm.corr 100 ∧ t.chip.reg Reg.DTM_FREQ = BitVec.ofInt 32 i) ∧ t.chip.pair = c.pair ∧ t.chip.eng = c.eng) ∧
      (u = .dma → (∀ a : DmaAct, k < 16 → c.dmaAct k = some a → c.regBit (Reg.DMA_CH_CTRL k) 0 = true →
        t.chip.regFld (Reg.DMA_CH_STAT k) 31 29 = 5 ∧ t.chip.regBit (Reg.DMA_CH_CTRL k) 0 = false ∧ t.chip.dmaAct k = none) ∧ t.chip.eng = c.eng) ∧
      (u = .executive → t.chip.sys.execReady = false ∧ t.chip.sys.execAlive = false ∧ t.chip.cmd.held = false ∧ t.chip.cmd.sched = c.cmd.sched ∧
        ((c.chan k).st = .taken → (c.chan k).work ≠ .accepted → (t.chip.chan k).st = .idle) ∧
        ((c.chan k).st = .taken → (c.chan k).work = .accepted → (∀ e ∈ c.cmd.chans, e.1 = k → e.2 = c.chan k) → (t.chip.chan k).orphan = true))) ∧
    (first = none → exec .blockReset s = .next s) ∧
    (c.execRuns = true → bad = none → ∃ t : State, exec (.counterSnapshot bad) s = .next t ∧ t.chip.regs = c.regs ∧ t.chip.mem = c.mem ∧
      t.chip.snapNewer = some older ∧ (let b := t.chip.fb (snapCopy older.1) 256
        snapValid b = true ∧ leField b 8 4 = older.2 ∧ leField b 12 8 = c.tickN ∧ (k < 96 → leField b (64 + 2 * k) 2 = c.counter k)) ∧
      t.chip.fb (snapCopy (!older.1)) 256 = c.fb (snapCopy (!older.1)) 256) ∧
    (∀ i : BitVec 2, c.execRuns = true → bad = some i → Quiet s → ∃ t : State, exec (.counterSnapshot bad) s = .next t ∧ CountsOne Reg.FLT_FB_CNT s t ∧
      t.chip.fb (snapCopy (!older.1)) 256 = c.fb (snapCopy (!older.1)) 256) ∧
    (c.execRuns = false → exec (.counterSnapshot bad) s = .next s) ∧
    (nom ≠ 0 → IsRound sag (((sum.toNat : Int) - (4 * nom : Nat)) * 10000) (4 * nom : Nat)) ∧
    (c.sys.railsGood = true → Quiet s → ∃ (t : State) (m : Nat), exec (.vcoreAverage sum) s = .next t ∧ reached m ∧ t.chip.pwr.supply = max p.supply m ∧
      t.chip.pwr.stage = p.stage ∧ t.chip.pwr.above = (if p.supply < m ∨ p.supply = 0 ∨ sag ≤ -(200 * (p.supply : Int) + 100) then 0 else p.above + 1) ∧
      (c.sys.up = false → t.chip.regs = c.regs) ∧
      (c.sys.up = true → (-32768 ≤ sag → sag ≤ 32767 → ((t.chip.reg Reg.PWR_VCORE).setWidth 16).toInt = sag ∧
          ((t.chip.reg Reg.PWR_VMIN).setWidth 16).toInt = min ((c.reg Reg.PWR_VMIN).setWidth 16).toInt sag) ∧
        (p.supply < m → t.chip.regFld Reg.PWR_SAG_CNT 15 0 = min 65535 (c.regFld Reg.PWR_SAG_CNT 15 0 + (m - p.supply)) ∧
          t.chip.regFld Reg.PWR_SAG_CNT 18 16 = m ∧ t.chip.regBit Reg.PWR_EVENT 0 = true) ∧
        (m ≤ p.supply → t.chip.reg Reg.PWR_SAG_CNT = c.reg Reg.PWR_SAG_CNT))) ∧
    (c.sys.railsGood = false → exec (.vcoreAverage sum) s = .next s ∧ exec (.dieTempRead t16) s = .next s) ∧
    (2501 ≤ p.above → 0 < p.supply → exec .shedStageFall s = .next { s with chip := { c with pwr := { p with supply := p.supply - 1, above := 1 } } }) ∧
    ((p.above ≤ 2500 ∨ p.supply = 0) → exec .shedStageFall s = .next s) ∧
    (c.sys.railsGood = true → Quiet s → ∃ t : State, exec (.dieTempRead t16) s = .next t ∧ t.chip.pwr.supply = p.supply ∧ t.chip.pwr.stage = p.stage ∧
      (t.chip.pwr.thermal = true ↔ hot5 ∨ (¬ cold ∧ p.thermal = true)) ∧
      (t.chip.pwr.crit = true ↔ hot15 ∨ (¬ (cold ∧ c.sys.up = false) ∧ p.crit = true)) ∧
      (c.sys.up = true → t.chip.regFld Reg.DTM_TEMP 31 16 = t16.toNat ∧
        t.chip.regFld Reg.PWR_THERM_CNT 15 0 = min 65535 (c.regFld Reg.PWR_THERM_CNT 15 0 + starts) ∧
        (hot15 ∧ p.crit = false → t.chip.regFld Reg.PWR_THERM_CNT 18 16 = 1)) ∧
      (c.sys.up = false → t.chip.regs = c.regs)) ∧
    (c.sys.up = true → n ≠ p.stage → n < 5 → boundary → Quiet s → ∃ t : State, exec .shedStageEffect s = .next t ∧ t.chip.pwr = { p with stage := n } ∧
      { t.chip.mem with sched := c.mem.sched, schedChk := c.mem.schedChk } = c.mem ∧ t.chip.eng.tick = c.eng.tick ∧ (t.chip.eng.cell1000 = true ↔ 2 ≤ n ∨ p.thermal = true) ∧ t.chip.graph.dropFrom = drops ∧
      (2 ≤ n → t.chip.graph.fade = none) ∧ (n < p.stage → t.chip.regBit Reg.PWR_EVENT 2 = true) ∧ t.chip.graph.live = c.graph.live ∧
      (4 ≤ n → p.stage < 4 → ((c.cell k).power ≠ .wakeFail → (t.chip.cell k).power = .off) ∧
        ((c.cell k).power = .wakeFail → c.graph.retire = none → (t.chip.cell k).power = .wakeFail) ∧ t.chip.graph.retire = none ∧ (c.eng.engine = .running → t.chip.eng.engine = .staked)) ∧
      (n < 4 → 4 ≤ p.stage → ∀ g : Graph, c.graph.live = some g → (c.eng.engine = .staked → t.chip.eng.engine = .running) ∧
        ∀ e ∈ g.cells, e.cls < drops → (c.cell (t.chip.physOf e.laddr)).power = .off → (t.chip.cell (t.chip.physOf e.laddr)).power = .waking)) ∧
    (c.sys.up = true → n ≠ p.stage → 5 ≤ n → ∃ t : State, exec .shedStageEffect s = .next t ∧ t.chip.pwr = { p with stage := 5 } ∧ t.chip.sys.up = false ∧
      t.chip.eng.engine = .held ∧ t.chip.eng.ticking = false ∧ t.chip.pair.owner = false ∧ t.chip.mem = c.mem ∧
      t.chip.sys.fieldBook = c.sys.fieldBook ∧ pinned t) ∧
    ((c.sys.up = false ∨ n = p.stage ∨ (n < 5 ∧ ¬ boundary)) → exec .shedStageEffect s = .next s) ∧
    (p.stage = 5 → n < 5 → ∃ t : State, exec .shedResetRelease s = .next t ∧ t.chip.pwr = { p with stage := n } ∧ t.chip.eng.engine = .boot ∧
      t.chip.regBit Reg.PWR_RESET_CAUSE 30 = true ∧ pinned t ∧ RegsBut [Reg.PWR_RESET_CAUSE, Reg.FLT_FAULTN, Reg.FLT_EVENT] s t) ∧
    (¬ (p.stage = 5 ∧ n < 5) → exec .shedResetRelease s = .next s)

/-- R283, R529, R530, R532, R534 to R538, R542 to R544. What a failed write leaves behind is free (log entry 33). -/
def Obligations.Firmware : Prop :=
  ∀ (s : State) (ch : BitVec 4) (bad rec taken on : Bool) (bad8 : Option Byte) (slot8 : BitVec 8) (key : BitVec 256) (sl n j : Nat),
    let c := s.chip
    let m := ch.toNat
    let r := c.reqOf m
    let slot := r.p 0 1
    let replies (t : State) (v : Nat) (b : List Byte) : Prop := t.chip.Answers m v (if v = 0 then c.eng.tick else 0xFFFFFFFFFFFFFFFF) b
    let nor (d : Chip) (a : Nat) : Byte := Map.get (fun _ => (0xFF : Byte)) d.sys.qspi a
    let base (i : Nat) : Nat := 0x100000 + 0x200000 * i
    let inSlot (i a : Nat) : Prop := base i ≤ a ∧ a < base i + 0x200000
    let data := memRead c.mem.dram (r.p 8 8) (r.p 16 4)
    let sound := ∀ i ∈ tilesOf (r.p 8 8) (r.p 16 4), c.mem.fails .dram i = false ∧ marked (c.mem.entry .dram i) = false
    let h := c.fwHeader slot
    let signed := sha512 (c.nor (base slot + 256) (leField h 8 4)) = bytesFrom h 32 64 ∧
      edVerify (leBytes 32 (Config.romKey (leField h 24 1)).toNat) (h.take 96) (bytesFrom h 96 64) = true
    let result := if bad then 5 else if fwHeaderOk h = false then 2 else if ¬ signed then 3 else if leField h 20 1 < c.fwPtr.minSvn then 4 else 1
    let slotOk := r.noTick = true ∧ r.noHandle = true ∧ slot ≤ 1
    let p := c.fwPtr
    let fb (d : Chip) (a : Nat) : Byte := Map.get byte0 d.sys.fieldBook a
    let outside (t : State) (lo hi : Nat) : Prop := ∀ a : Nat, a < lo ∨ hi ≤ a → fb t.chip a = fb c a
    let rest (t : State) : Prop := t.chip.eng = c.eng ∧ t.chip.mem = c.mem ∧ t.chip.cells = c.cells ∧ t.chip.sys.qspi = c.sys.qspi
    let refusedIf (op reason : Nat) (i : Instr) : Prop := c.isFresh m op = true → reason ≠ 0 → ∃ t : State, exec i s = .next t ∧ replies t reason [] ∧
      OnlyChan m s t
    let k := r.p 0 1
    let k8 := slot8.toNat
    let empty := ∀ i : Nat, i < 4 → c.keyEmpty i = true
    let loads := k8 < 4 ∧ c.secureEn = true ∧ c.sys.railsGood = true ∧ empty
    (refusedIf 0x0B10 (c.chkFwWrite r) (.fwWrite ch bad) ∧ refusedIf 0x0B12 (c.chkSwap m r bad) (.execSwap ch bad) ∧
      refusedIf 0x0B13 (c.chkSlotSet r bad) (.fwSlotSet ch bad rec) ∧ refusedIf 0x0B20 (c.chkFbWrite r) (.fbWrite ch bad8) ∧
      refusedIf 0x0B21 (c.chkKeySet r) (.keySet ch bad)) ∧
    (c.isFresh m 0x0B10 = true → c.chkFwWrite r = 0 → sound → bad = false → ∃ t : State, exec (.fwWrite ch bad) s = .next t ∧ replies t 0 [] ∧
      t.chip.nor (base slot) (r.p 16 4) = data ∧ (inSlot slot j → base slot + r.p 16 4 ≤ j → nor t.chip j = 0xFF) ∧
      (¬ inSlot slot j → nor t.chip j = nor c j) ∧ t.chip.eng = c.eng ∧ t.chip.mem = c.mem ∧ t.chip.regs = c.regs) ∧
    (c.isFresh m 0x0B10 = true → c.chkFwWrite r = 0 → ¬ (sound ∧ bad = false) → Quiet s → ∃ t : State, exec (.fwWrite ch bad) s = .next t ∧ replies t 9 [] ∧
      (j < 4 → nor t.chip (base slot + j) = 0xFF) ∧ (¬ inSlot slot j → nor t.chip j = nor c j) ∧ t.chip.eng = c.eng ∧ t.chip.mem = c.mem) ∧
    (c.isFresh m 0x0B11 = true → ∃ t : State, exec (.fwVerify ch bad) s = .next t ∧ OnlyChan m s t ∧ (r.len ≠ 4 → replies t 3 []) ∧
      (r.len = 4 → ¬ (slotOk ∧ r.z 1 3 = true) → replies t 4 []) ∧ (r.len = 4 → slotOk → r.z 1 3 = true → c.swapBars r = true → replies t 6 []) ∧
      (r.len = 4 → slotOk → r.z 1 3 = true → c.swapBars r = false →
        replies t (if result = 1 then 0 else if result = 3 ∨ result = 4 then rSignature else 9)
          (leBytes 1 result ++ bytesFrom h 20 1 ++ bytesFrom h 24 1 ++ [0] ++ bytesFrom h 12 4 ++ bytesFrom h 8 4 ++ leBytes 4 0))) ∧
    (c.isFresh m 0x0B12 = true → c.chkSwap m r bad = 0 → ∃ t : State, exec (.execSwap ch bad) s = .next t ∧ OnlyChan m s t ∧
      t.chip.chan m = { c.chan m with work := .checked } ∧ t.chip.cmd.takes = c.cmd.takes) ∧
    (c.sys.swap = some (sl, n) → c.cmd.held = true → sl ≤ 1 → ∃ t : State, exec (.execHandover true) s = .next t ∧
      t.chip.Answers n 0 (BitVec.ofNat 64 (c.chan n).effTick) (c.fwVersion sl) ∧ t.chip.cmd.held = false ∧ t.chip.sys.swap = none ∧
      t.chip.sys.bank = !c.sys.bank ∧ t.chip.regFld Reg.GCTL_BOOT 25 25 = sl ∧ (t.chip.regBit Reg.GCTL_BOOT 26 = true ↔ sl ≠ p.active) ∧
      t.chip.regFld Reg.GCTL_BOOT 7 0 = c.fwSvn sl ∧ rest t) ∧
    (c.sys.swap = some (sl, n) → c.cmd.held = false → c.eng.ticking = true → c.eng.phase = .entry → (c.chan n).effTick ≤ c.tickN →
      (∀ h : RateChange, c.eng.change = some h → h.stopped = true ∨ c.tickN ≠ h.t + 64) →
      ∃ t : State, exec (.execHandover false) s = .next t ∧ t.chip.cmd.held = true ∧ t.chip.cmd.sched = c.cmd.sched.filter (fun e => e.op != 0x0B12) ∧
      t.chip.regs = c.regs ∧ rest t ∧ t.chip.cmd.chans = c.cmd.chans) ∧
    ((c.sys.swap = none ∨ (c.cmd.held = true ∧ taken = false) ∨ (c.cmd.held = false ∧ taken = true)) → exec (.execHandover taken) s = .next s) ∧
    (c.sys.swap = some (sl, n) → c.cmd.held = true → ∃ t : State, exec .handoverTimeout s = .next t ∧ t.chip.cmd.held = false ∧ t.chip.sys.swap = none ∧
      t.chip.Answers n 9 0xFFFFFFFFFFFFFFFF [] ∧ t.chip.reg Reg.GCTL_BOOT = c.reg Reg.GCTL_BOOT ∧ t.chip.sys.bank = c.sys.bank ∧ rest t) ∧
    ((c.sys.swap = none ∨ c.cmd.held = false) → exec .handoverTimeout s = .next s) ∧
    (c.isFresh m 0x0B13 = true → c.chkSlotSet r bad = 0 → rec = false → ∃ t : State, exec (.fwSlotSet ch bad rec) s = .next t ∧ replies t 0 [] ∧
      outside t 0x100 0x140 ∧ rest t ∧
      (r.p 1 1 = 0 → t.chip.fwPtr = { active := slot, try_ := none, minSvn := if r.p 2 1 = 1 then max p.minSvn (c.fwSvn slot) else p.minSvn } ∧
        (slot = c.runSlot → t.chip.trial = false)) ∧
      (r.p 1 1 ≠ 0 → t.chip.fwPtr = { active := p.active, try_ := some slot, minSvn := p.minSvn } ∧ t.chip.trial = c.trial)) ∧
    (c.isFresh m 0x0B13 = true → c.chkSlotSet r bad = 0 → rec = true → Quiet s → ∃ t : State, exec (.fwSlotSet ch bad rec) s = .next t ∧ replies t 9 [] ∧
      outside t 0x100 0x140 ∧ CountsOne Reg.FLT_FB_CNT s t ∧ rest t) ∧
    (c.isFresh m 0x0B20 = true → c.chkFbWrite r = 0 → bad8 = none → ∃ t : State, exec (.fbWrite ch bad8) s = .next t ∧ replies t 0 [] ∧
      t.chip.fb (r.p 0 4) (64 * r.p 4 2) = bytesFrom r.par 16 (64 * r.p 4 2) ∧ outside t (r.p 0 4) (r.p 0 4 + 64 * r.p 4 2) ∧ rest t ∧ t.chip.regs = c.regs) ∧
    (∀ i : Byte, c.isFresh m 0x0B20 = true → c.chkFbWrite r = 0 → bad8 = some i → i.toNat < r.p 4 2 → Quiet s → ∃ t : State,
      exec (.fbWrite ch bad8) s = .next t ∧ replies t 9 [] ∧ t.chip.fb (r.p 0 4) (64 * i.toNat) = bytesFrom r.par 16 (64 * i.toNat) ∧
      outside t (r.p 0 4) (r.p 0 4 + 64 * (i.toNat + 1)) ∧ CountsOne Reg.FLT_FB_CNT s t ∧ rest t) ∧
    (c.isFresh m 0x0B21 = true → c.chkKeySet r = 0 → bad = false → ∃ t : State, exec (.keySet ch bad) s = .next t ∧ replies t 0 [] ∧
      t.chip.keySlot k = bytesFrom r.par 4 32 ∧ (∀ i : Nat, i < 4 → i ≠ k → t.chip.keySlot i = c.keySlot i) ∧ outside t 0x140 0x1C0 ∧ rest t) ∧
    (c.isFresh m 0x0B21 = true → c.chkKeySet r = 0 → bad = true → Quiet s → ∃ t : State, exec (.keySet ch bad) s = .next t ∧ replies t 9 [] ∧
      outside t 0x140 0x1C0 ∧ CountsOne Reg.FLT_FB_CNT s t ∧ rest t) ∧
    (loads → ∃ t : State, exec (.keyLoad slot8 key) s = .next t ∧ t.chip.keySlot k8 = leBytes 32 key.toNat ∧
      (∀ i : Nat, i < 4 → i ≠ k8 → t.chip.keyEmpty i = true) ∧ outside t 0x140 0x1C0 ∧ rest t ∧ t.chip.regs = c.regs) ∧
    (¬ loads → exec (.keyLoad slot8 key) s = .next s) ∧
    (c.pfUp false = true → (on = false ∨ c.cmd.session.isOpen = true) → ∃ t : State, exec (.debugEnableWrite on) s = .next t ∧
      t.chip.regBit Reg.GCTL_DEBUG 0 = on ∧ RegsBut [Reg.GCTL_DEBUG] s t ∧ { t.chip with regs := c.regs } = c) ∧
    ((c.pfUp false = false ∨ (on = true ∧ c.cmd.session.isOpen = false)) → exec (.debugEnableWrite on) s = .next s)

/-- R287, R506, R507, R521, R522, R524, R526, R527, R535, R541, R552, R554. That a failing rail clears the memories is the model's choice (log entry 2). -/
def Obligations.ResetsAndBoot : Prop :=
  ∀ (s : State) (straps : BitVec 6) (trained ranks badA badB rec : Bool) (clks : Word) (ir : TapIr) (bsr : List Bool) (a : Nat),
    let c := s.chip
    let phase := c.regFld Reg.GCTL_BOOT 31 28
    let kept := [Reg.CLK_RESET_CAUSE, Reg.PWR_RESET_CAUSE, Reg.CLK_STAT, Reg.CLK_XO_WIN]
    let inReset (t : State) : Prop := t.pending = s.pending ∧ t.chip.sys.up = false ∧ t.chip.sys.execReady = false ∧ t.chip.eng = Eng.reset ∧
      t.chip.cells = [] ∧ t.chip.graph = GraphState.reset ∧ t.chip.chain = Chain.reset ∧ t.chip.cmd = Cmd.reset ∧ t.chip.dtm = Dtm.reset ∧
      t.chip.sap = Sap.reset ∧ t.chip.net = Net.reset ∧ t.chip.drv = Drv.reset ∧ t.chip.dma = Dma.reset ∧ t.chip.pair.owner = false ∧
      t.chip.sys.straps = c.sys.straps ∧ t.chip.sys.fieldBook = c.sys.fieldBook ∧ t.chip.sys.qspi = c.sys.qspi
    let chipReset (t : State) : Prop := inReset t ∧ t.chip.mem = c.mem ∧ t.chip.pwr = c.pwr ∧ t.chip.clk = c.clk ∧
      t.chip.sys.railsGood = c.sys.railsGood ∧ t.chip.reg Reg.CLK_RESET_CAUSE = c.reg Reg.CLK_RESET_CAUSE ∧
      t.chip.reg Reg.PWR_RESET_CAUSE = c.reg Reg.PWR_RESET_CAUSE ∧ t.chip.reg Reg.CLK_XO_WIN = c.reg Reg.CLK_XO_WIN ∧
      (a ∉ kept → a ≠ Reg.FLT_FAULTN → a ≠ Reg.FLT_EVENT → t.chip.reg a = regReset a)
    let sessionEnds (t : State) : Prop := t.chip.cmd.session.isOpen = false ∧ t.chip.regBit Reg.GCTL_DEBUG 0 = false
    let readying := c.sys.up = true ∧ c.sys.execStarted = true ∧ c.sys.execReady = false ∧ phase = 4
    let restarting := c.sys.up = true ∧ c.sys.execStarted = true ∧ c.sys.execReady = false ∧ phase = 5
    let k := c.clk
    let tests := ir = .extest ∨ ir = .clamp ∨ ir = .highz
    let scanned := if ir = .sample ∨ ir = .extest then bsr else c.sys.tapBsr
    let source := if k.hold = true ∨ c.onFbrc = true then c.fbOk = true ∧ c.onFbrc = true else k.first = 2
    let free := c.sys.up = false ∧ c.sys.resetN = true ∧ c.sys.railsGood = true ∧ c.sys.tapTest = false ∧ c.pwr.stage ≠ 5 ∧ source
    let p := c.fwPtr
    let result (i : Nat) : Nat := c.fwResult i (if i = 0 then badA else badB)
    let first := p.try_.getD p.active
    let second := if p.try_.isSome then p.active else 1 - p.active
    let starts (t : State) (i : Nat) : Prop := t.chip.regFld Reg.GCTL_BOOT 31 28 = 4 ∧ t.chip.runSlot = i ∧ t.chip.sys.execStarted = true ∧
      (t.chip.trial = true ↔ p.try_ = some i) ∧ (t.chip.regBit Reg.GCTL_BOOT 27 = true ↔ p.try_ = none ∧ i ≠ p.active) ∧
      t.chip.regFld Reg.GCTL_BOOT 7 0 = c.fwSvn i
    (∃ t : State, exec .resetNAssert s = .next t ∧ t.chip.sys.resetN = false ∧ chipReset t ∧ t.chip.sys.tapTest = c.sys.tapTest) ∧
    (tests → ∃ t : State, exec (.tapTestMode ⟨some ir, bsr⟩) s = .next t ∧ t.chip.sys.tapTest = true ∧ t.chip.sys.tapIr = ir ∧ t.chip.sys.tapBsr = scanned ∧
      chipReset t ∧ t.chip.sys.resetN = c.sys.resetN) ∧
    (¬ tests → exec (.tapTestMode ⟨some ir, bsr⟩) s = .next { s with chip := { c with sys := { c.sys with tapIr := ir, tapBsr := scanned } } }) ∧
    (exec (.tapTestMode ⟨none, bsr⟩) s = .next { s with chip := { c with sys := { c.sys with tapTest := false, tapIr := .idcode } } }) ∧
    (c.sys.resetN = false → ∃ t : State, exec (.resetNRelease straps) s = .next t ∧
      t.chip.sys = { c.sys with resetN := true, straps := straps.toNat &&& 0x37 } ∧ t.chip.clk = Clk.reset ∧ t.chip.reg Reg.CLK_STAT = 0 ∧
      RegsBut [Reg.CLK_STAT] s t ∧ { t.chip with regs := c.regs, clk := c.clk, sys := c.sys } = c) ∧
    (c.sys.resetN = true → exec (.resetNRelease straps) s = .next s) ∧
    (exec (.perstNAssert false) s = .next { s with chip := { c with sys := { c.sys with perstN := true } } }) ∧
    (∃ t : State, exec (.perstNAssert true) s = .next t ∧ t.chip.sys = { c.sys with perstN := false } ∧ sessionEnds t ∧ t.chip.eng = c.eng ∧ t.chip.mem = c.mem ∧
      t.chip.cells = c.cells ∧ t.chip.graph = c.graph ∧ t.chip.chain = c.chain ∧ t.chip.dtm = c.dtm ∧ t.chip.pair = c.pair ∧ t.chip.cmd.sched = c.cmd.sched ∧
      (a < 8 → ((c.chan a).st = .taken → (t.chip.chan a).st = .taken ∧ (t.chip.chan a).orphan = true) ∧
        ((c.chan a).st ≠ .taken → t.chip.chan a = Chan.reset) ∧ t.chip.reg (Reg.CMD_EVENT a) = regReset (Reg.CMD_EVENT a))) ∧
    (∃ t : State, exec .railPowerFail s = .next t ∧ inReset t ∧ t.chip.sys.railsGood = false ∧ t.chip.reg a = regReset a ∧ t.chip.mem = Mem.reset) ∧
    (c.sys.railsGood = false → ∃ t : State, exec .railPowerGood s = .next t ∧ t.chip.sys = { c.sys with railsGood := true } ∧ t.chip.clk = Clk.reset ∧
      t.chip.regBit Reg.CLK_RESET_CAUSE 0 = true ∧ RegsBut [Reg.CLK_RESET_CAUSE] s t ∧ { t.chip with regs := c.regs, clk := c.clk, sys := c.sys } = c) ∧
    (c.sys.railsGood = true → exec .railPowerGood s = .next s) ∧
    (free → Quiet s → ∃ t : State, exec (.internalResetRelease clks badA badB rec) s = .next t ∧ t.chip.mem = c.mem ∧
      (result first = 1 → starts t first) ∧ (result first ≠ 1 → result second = 1 → starts t second) ∧
      (result first ≠ 1 → result second ≠ 1 → t.chip.regFld Reg.GCTL_BOOT 31 28 = 6) ∧ (rec = false → t.chip.fwPtr = { p with try_ := none })) ∧
    (readying → trained = false → ∃ t : State, exec (.execReady trained ranks) s = .next t ∧ t.chip.regFld Reg.DDR_STAT 2 0 = 4 ∧
      RegsBut [Reg.DDR_STAT] s t ∧ { t.chip with regs := c.regs } = c) ∧
    (readying → trained = true → ∃ t : State, exec (.execReady trained ranks) s = .next t ∧ t.chip.regFld Reg.DDR_STAT 2 0 = 1 ∧
      t.chip.regBit Reg.DDR_STAT 7 = ranks ∧ t.chip.regFld Reg.GCTL_BOOT 31 28 = 5 ∧ t.chip.sys.execReady = true ∧ t.chip.sys.execAlive = true ∧
      Map.get byte0 t.chip.mem.dram a = 0 ∧ t.chip.mem.fails .dram a = false ∧ marked (t.chip.mem.entry .dram a) = false ∧ t.chip.eng = c.eng ∧
      RegsBut [Reg.DDR_STAT, Reg.GCTL_BOOT] s t) ∧
    (¬ readying → exec (.execReady trained ranks) s = .next s) ∧
    (restarting → ∃ t : State, exec .execRestartDone s = .next t ∧ t.chip.sys.execReady = true ∧ t.chip.sys.execAlive = true ∧ t.chip.flt.waiting = [] ∧
      t.chip.mem = c.mem ∧ t.chip.eng = c.eng ∧ t.chip.cmd = c.cmd ∧ RegsBut [Reg.FLT_EVENT] s t) ∧
    (¬ restarting → exec .execRestartDone s = .next s) ∧
    (∃ t : State, exec .pcieLinkLoss s = .next t ∧ sessionEnds t ∧ RegsBut [Reg.GCTL_DEBUG] s t ∧ t.chip.cmd.chans = c.cmd.chans ∧
      t.chip.cmd.sched = c.cmd.sched ∧ t.chip.eng = c.eng ∧ t.chip.mem = c.mem ∧ t.chip.pair = c.pair)

/-- The queue's part of a step. That an empty queue idles is the model's choice (log entry 1). -/
def Obligations.StepRunsFront : Prop :=
  ∀ (c : Chip) (i : Instr) (q : List Instr),
    step { chip := c, pending := i :: q } = exec i { chip := c, pending := q } ∧ step { chip := c, pending := [] } = .next { chip := c, pending := [] } ∧
    (∀ t : State, exec i { chip := c, pending := q } = .next t → t.pending = q ∧ exec i { chip := c, pending := [] } = .next { t with pending := [] })

/-- R16, R344, R345, R500, R521, R552. That the supplies are good in it is the model's choice (log entry 32). -/
def Obligations.ResetIsWellFormed : Prop :=
  let c := State.reset.chip
  State.reset.wf ∧ State.reset.pending = [] ∧ c.eng.ticking = false ∧ c.eng.tick = 0 ∧ c.eng.engine = .boot ∧ c.graph.live = none ∧
    c.graph.bank = .empty ∧ c.sys.execReady = false ∧ c.sys.up = false ∧ c.pair.owner = false ∧ c.reg Reg.CLK_RESET_CAUSE = 1 ∧
    (∀ k : Nat, (c.chan k).st = .idle) ∧ (∀ k : Nat, (c.cell k).power = .off) ∧
    (∀ a : Nat, a ≠ Reg.CLK_RESET_CAUSE → c.reg a = regReset a) ∧
    (List.range 28).map c.level = [1, 1, 0, 1, 1, 1, 1, 1, 1, 1, 1, 0, 0, 0, 0, 0, 0, 1, 1, 1, 1, 1, 1, 1, 1, 1, 2, 1] ∧
    (∀ k : Nat, k < 28 → (c.regBit (Reg.FLT_CFG k) 4 = true ↔ k = 18 ∨ k = 19 ∨ k = 25 ∨ k = 26))

/-- The invariant of every step, over all 297 commands. -/
def Obligations.StepKeepsForm : Prop := ∀ s t : State, s.wf → step s = .next t → t.wf

end
end

