-- ==== Sys2Proof/Laws/Map.lean ====
section
/-! SUPPORT. What the operations of sparse maps do: a read after a write, and the canonical form they keep. -/
namespace Sys2Proof.Machine
set_option Elab.async false

/-! ## Reads -/

@[simp] theorem Map.get_nil {α : Type} (d : Nat → α) (k : Nat) : Map.get d [] k = d k := rfl

theorem Map.get_place {α : Type} (d : Nat → α) (m : Map α) (k j : Nat) (v : α) :
    Map.get d (Map.place m k v) j = if j = k then v else Map.get d m j := by
  induction m with
  | nil => simp only [Map.place, Map.get]; grind
  | cons e m ih =>
    obtain ⟨i, w⟩ := e
    simp only [Map.place]
    split
    · simp only [Map.get]; grind
    · split
      · simp only [Map.get]; grind
      · simp only [Map.get, ih]; grind

theorem Map.get_erase {α : Type} (d : Nat → α) (m : Map α) (k j : Nat) :
    Map.get d (Map.erase m k) j = if j = k then d k else Map.get d m j := by
  induction m with
  | nil => simp only [Map.erase, Map.get]; grind
  | cons e m ih =>
    obtain ⟨i, w⟩ := e
    simp only [Map.erase]
    split
    · rw [ih]; simp only [Map.get]; grind
    · simp only [Map.get, ih]; grind

/-- A read after a write gives the value written at that key, and what stood there at every other. -/
theorem Map.get_put {α : Type} [DecidableEq α] (d : Nat → α) (m : Map α) (k j : Nat) (v : α) :
    Map.get d (Map.put d m k v) j = if j = k then v else Map.get d m j := by
  unfold Map.put
  split
  · rw [Map.get_erase]; grind
  · rw [Map.get_place]

@[simp] theorem Map.get_put_same {α : Type} [DecidableEq α] (d : Nat → α) (m : Map α) (k : Nat) (v : α) :
    Map.get d (Map.put d m k v) k = v := by simp [Map.get_put]

theorem Map.get_put_ne {α : Type} [DecidableEq α] (d : Nat → α) (m : Map α) {k j : Nat} (v : α) (h : j ≠ k) :
    Map.get d (Map.put d m k v) j = Map.get d m j := by simp [Map.get_put, h]

theorem Map.get_mapVals {α : Type} [DecidableEq α] (d : Nat → α) (f : Nat → α → α) (m : Map α) (k : Nat)
    (hd : ∀ j, f j (d j) = d j) : Map.get d (Map.mapVals d f m) k = f k (Map.get d m k) := by
  induction m with
  | nil => simp [Map.mapVals, Map.get, hd]
  | cons e m ih =>
    obtain ⟨i, w⟩ := e
    simp only [Map.mapVals]
    split
    · rw [Map.get_erase, ih]; simp only [Map.get]; grind
    · simp only [Map.get, ih]; grind

/-! ## The canonical form -/

/-- Every key is above the bound `b`. -/
def Map.aboveAll {α : Type} (b : Option Nat) (m : Map α) : Prop := ∀ j, b = some j → ∀ e ∈ m, j < e.1

theorem Map.wfAbove_iff {α : Type} [DecidableEq α] (d : Nat → α) (b : Option Nat) (i : Nat) (v : α) (m : Map α) :
    Map.wfAbove d b ((i, v) :: m) = true ↔ ((∀ j, b = some j → j < i) ∧ v ≠ d i ∧ Map.wfAbove d (some i) m = true) := by
  simp only [Map.wfAbove]
  cases b <;> simp [and_assoc]

theorem Map.wfAbove_mono {α : Type} [DecidableEq α] (d : Nat → α) {i : Nat} {m : Map α} (h : Map.wfAbove d (some i) m = true)
    (b : Option Nat) (hb : ∀ j, b = some j → j ≤ i) : Map.wfAbove d b m = true := by
  cases m with
  | nil => rfl
  | cons e m =>
    obtain ⟨k, w⟩ := e
    rw [Map.wfAbove_iff] at h ⊢
    exact ⟨fun j hj => Nat.lt_of_le_of_lt (hb j hj) (h.1 i rfl), h.2⟩

theorem Map.wfAbove_erase {α : Type} [DecidableEq α] (d : Nat → α) (k : Nat) (m : Map α) (b : Option Nat)
    (h : Map.wfAbove d b m = true) : Map.wfAbove d b (Map.erase m k) = true := by
  induction m generalizing b with
  | nil => rfl
  | cons e m ih =>
    obtain ⟨i, w⟩ := e
    rw [Map.wfAbove_iff] at h
    simp only [Map.erase]
    split
    · exact Map.wfAbove_mono d (ih (some i) h.2.2) b (fun j hj => Nat.le_of_lt (h.1 j hj))
    · rw [Map.wfAbove_iff]; exact ⟨h.1, h.2.1, ih _ h.2.2⟩

theorem Map.wfAbove_place {α : Type} [DecidableEq α] (d : Nat → α) (k : Nat) (v : α) (hv : v ≠ d k) (m : Map α) (b : Option Nat)
    (hb : ∀ j, b = some j → j < k) (h : Map.wfAbove d b m = true) : Map.wfAbove d b (Map.place m k v) = true := by
  induction m generalizing b with
  | nil => rw [Map.place, Map.wfAbove_iff]; exact ⟨hb, hv, rfl⟩
  | cons e m ih =>
    obtain ⟨i, w⟩ := e
    have h' := (Map.wfAbove_iff d b i w m).1 h
    simp only [Map.place]
    split
    · rename_i hk
      rw [Map.wfAbove_iff, Map.wfAbove_iff]
      exact ⟨hb, hv, by simpa using hk, h'.2⟩
    · split
      · rename_i hk
        subst hk
        rw [Map.wfAbove_iff]; exact ⟨hb, hv, h'.2.2⟩
      · rw [Map.wfAbove_iff]
        exact ⟨h'.1, h'.2.1, ih _ (by simp; omega) h'.2.2⟩

/-- A write keeps the canonical form. -/
theorem Map.wf_put {α : Type} [DecidableEq α] (d : Nat → α) (m : Map α) (k : Nat) (v : α) (h : Map.wf d m = true) :
    Map.wf d (Map.put d m k v) = true := by
  unfold Map.put Map.wf at *
  split
  · exact Map.wfAbove_erase d k m none h
  · rename_i hv
    exact Map.wfAbove_place d k v hv m none (by simp) h

theorem Map.wf_erase {α : Type} [DecidableEq α] (d : Nat → α) (m : Map α) (k : Nat) (h : Map.wf d m = true) :
    Map.wf d (Map.erase m k) = true := Map.wfAbove_erase d k m none h

theorem Map.wf_upd {α : Type} [DecidableEq α] (d : Nat → α) (m : Map α) (k : Nat) (f : α → α) (h : Map.wf d m = true) :
    Map.wf d (Map.upd d m k f) = true := Map.wf_put d m k _ h

theorem Map.wfAbove_mapVals {α : Type} [DecidableEq α] (d : Nat → α) (f : Nat → α → α) (m : Map α) (b : Option Nat)
    (h : Map.wfAbove d b m = true) : Map.wfAbove d b (Map.mapVals d f m) = true := by
  induction m generalizing b with
  | nil => rfl
  | cons e m ih =>
    obtain ⟨i, w⟩ := e
    have h' := (Map.wfAbove_iff d b i w m).1 h
    simp only [Map.mapVals]
    split
    · exact Map.wfAbove_erase d i _ b
        (Map.wfAbove_mono d (ih (some i) h'.2.2) b (fun j hj => Nat.le_of_lt (h'.1 j hj)))
    · rename_i hv
      rw [Map.wfAbove_iff]; exact ⟨h'.1, hv, ih _ h'.2.2⟩

theorem Map.wf_mapVals {α : Type} [DecidableEq α] (d : Nat → α) (f : Nat → α → α) (m : Map α) (h : Map.wf d m = true) :
    Map.wf d (Map.mapVals d f m) = true := Map.wfAbove_mapVals d f m none h

/-- The empty map is in canonical form. -/
theorem Map.wf_nil {α : Type} [DecidableEq α] (d : Nat → α) : Map.wf d ([] : Map α) = true := rfl

end Sys2Proof.Machine
end

