-- ==== Sys2Proof/Laws/Cell.lean ====
section
/-! SUPPORT. What the operations of a cell do to its fields: one lemma for a field and an update, and what landing results,
fetching and retiring an instruction leave as it was. -/
namespace Sys2Proof.Machine
open Sys2Proof

/-! ## Updates of the registers and slots -/

@[simp] theorem Cell.setD_power (x : Cell) (i : Nat) (v : Sample) : (x.setD i v).power = x.power := rfl
@[simp] theorem Cell.setD_fresh (x : Cell) (i : Nat) (v : Sample) : (x.setD i v).fresh = x.fresh := rfl
@[simp] theorem Cell.setD_dead (x : Cell) (i : Nat) (v : Sample) : (x.setD i v).dead = x.dead := rfl
@[simp] theorem Cell.setD_writes (x : Cell) (i : Nat) (v : Sample) : (x.setD i v).writes = x.writes := rfl
@[simp] theorem Cell.setD_acc (x : Cell) (i : Nat) (v : Sample) : (x.setD i v).acc = x.acc := rfl
@[simp] theorem Cell.setD_ptr (x : Cell) (i : Nat) (v : Sample) : (x.setD i v).ptr = x.ptr := rfl
@[simp] theorem Cell.setD_base (x : Cell) (i : Nat) (v : Sample) : (x.setD i v).base = x.base := rfl
@[simp] theorem Cell.setD_len (x : Cell) (i : Nat) (v : Sample) : (x.setD i v).len = x.len := rfl
@[simp] theorem Cell.setD_step (x : Cell) (i : Nat) (v : Sample) : (x.setD i v).step = x.step := rfl
@[simp] theorem Cell.setD_lc (x : Cell) (i : Nat) (v : Sample) : (x.setD i v).lc = x.lc := rfl
@[simp] theorem Cell.setD_ls (x : Cell) (i : Nat) (v : Sample) : (x.setD i v).ls = x.ls := rfl
@[simp] theorem Cell.setD_le (x : Cell) (i : Nat) (v : Sample) : (x.setD i v).le = x.le := rfl
@[simp] theorem Cell.setD_sr (x : Cell) (i : Nat) (v : Sample) : (x.setD i v).sr = x.sr := rfl
@[simp] theorem Cell.setD_mr (x : Cell) (i : Nat) (v : Sample) : (x.setD i v).mr = x.mr := rfl
@[simp] theorem Cell.setD_pc (x : Cell) (i : Nat) (v : Sample) : (x.setD i v).pc = x.pc := rfl
@[simp] theorem Cell.setD_leg (x : Cell) (i : Nat) (v : Sample) : (x.setD i v).leg = x.leg := rfl
@[simp] theorem Cell.setD_ctx (x : Cell) (i : Nat) (v : Sample) : (x.setD i v).ctx = x.ctx := rfl
@[simp] theorem Cell.setD_second (x : Cell) (i : Nat) (v : Sample) : (x.setD i v).second = x.second := rfl
@[simp] theorem Cell.setD_legDone (x : Cell) (i : Nat) (v : Sample) : (x.setD i v).legDone = x.legDone := rfl
@[simp] theorem Cell.setD_bpc (x : Cell) (i : Nat) (v : Sample) : (x.setD i v).bpc = x.bpc := rfl
@[simp] theorem Cell.setD_bsr (x : Cell) (i : Nat) (v : Sample) : (x.setD i v).bsr = x.bsr := rfl
@[simp] theorem Cell.setD_bbranch (x : Cell) (i : Nat) (v : Sample) : (x.setD i v).bbranch = x.bbranch := rfl
@[simp] theorem Cell.setD_bgSaved (x : Cell) (i : Nat) (v : Sample) : (x.setD i v).bgSaved = x.bgSaved := rfl
@[simp] theorem Cell.setD_bg (x : Cell) (i : Nat) (v : Sample) : (x.setD i v).bg = x.bg := rfl
@[simp] theorem Cell.setD_bgWrote (x : Cell) (i : Nat) (v : Sample) : (x.setD i v).bgWrote = x.bgWrote := rfl
@[simp] theorem Cell.setD_pend (x : Cell) (i : Nat) (v : Sample) : (x.setD i v).pend = x.pend := rfl
@[simp] theorem Cell.setD_branch (x : Cell) (i : Nat) (v : Sample) : (x.setD i v).branch = x.branch := rfl
@[simp] theorem Cell.setD_slots (x : Cell) (i : Nat) (v : Sample) : (x.setD i v).slots = x.slots := rfl
@[simp] theorem Cell.setD_moves (x : Cell) (i : Nat) (v : Sample) : (x.setD i v).moves = x.moves := rfl
@[simp] theorem Cell.setD_streamer (x : Cell) (i : Nat) (v : Sample) : (x.setD i v).streamer = x.streamer := rfl
@[simp] theorem Cell.setD_fetched (x : Cell) (i : Nat) (v : Sample) : (x.setD i v).fetched = x.fetched := rfl
@[simp] theorem Cell.setD_fetches (x : Cell) (i : Nat) (v : Sample) : (x.setD i v).fetches = x.fetches := rfl
@[simp] theorem Cell.setD_pubs (x : Cell) (i : Nat) (v : Sample) : (x.setD i v).pubs = x.pubs := rfl
@[simp] theorem Cell.setD_subs (x : Cell) (i : Nat) (v : Sample) : (x.setD i v).subs = x.subs := rfl
@[simp] theorem Cell.setD_gains (x : Cell) (i : Nat) (v : Sample) : (x.setD i v).gains = x.gains := rfl
@[simp] theorem Cell.setD_sticky (x : Cell) (i : Nat) (v : Sample) : (x.setD i v).sticky = x.sticky := rfl
@[simp] theorem Cell.setD_fetchFailed (x : Cell) (i : Nat) (v : Sample) : (x.setD i v).fetchFailed = x.fetchFailed := rfl
@[simp] theorem Cell.setA_power (x : Cell) (i : Nat) (v : AccReg) : (x.setA i v).power = x.power := rfl
@[simp] theorem Cell.setA_fresh (x : Cell) (i : Nat) (v : AccReg) : (x.setA i v).fresh = x.fresh := rfl
@[simp] theorem Cell.setA_dead (x : Cell) (i : Nat) (v : AccReg) : (x.setA i v).dead = x.dead := rfl
@[simp] theorem Cell.setA_writes (x : Cell) (i : Nat) (v : AccReg) : (x.setA i v).writes = x.writes := rfl
@[simp] theorem Cell.setA_d (x : Cell) (i : Nat) (v : AccReg) : (x.setA i v).d = x.d := rfl
@[simp] theorem Cell.setA_ptr (x : Cell) (i : Nat) (v : AccReg) : (x.setA i v).ptr = x.ptr := rfl
@[simp] theorem Cell.setA_base (x : Cell) (i : Nat) (v : AccReg) : (x.setA i v).base = x.base := rfl
@[simp] theorem Cell.setA_len (x : Cell) (i : Nat) (v : AccReg) : (x.setA i v).len = x.len := rfl
@[simp] theorem Cell.setA_step (x : Cell) (i : Nat) (v : AccReg) : (x.setA i v).step = x.step := rfl
@[simp] theorem Cell.setA_lc (x : Cell) (i : Nat) (v : AccReg) : (x.setA i v).lc = x.lc := rfl
@[simp] theorem Cell.setA_ls (x : Cell) (i : Nat) (v : AccReg) : (x.setA i v).ls = x.ls := rfl
@[simp] theorem Cell.setA_le (x : Cell) (i : Nat) (v : AccReg) : (x.setA i v).le = x.le := rfl
@[simp] theorem Cell.setA_sr (x : Cell) (i : Nat) (v : AccReg) : (x.setA i v).sr = x.sr := rfl
@[simp] theorem Cell.setA_mr (x : Cell) (i : Nat) (v : AccReg) : (x.setA i v).mr = x.mr := rfl
@[simp] theorem Cell.setA_pc (x : Cell) (i : Nat) (v : AccReg) : (x.setA i v).pc = x.pc := rfl
@[simp] theorem Cell.setA_leg (x : Cell) (i : Nat) (v : AccReg) : (x.setA i v).leg = x.leg := rfl
@[simp] theorem Cell.setA_ctx (x : Cell) (i : Nat) (v : AccReg) : (x.setA i v).ctx = x.ctx := rfl
@[simp] theorem Cell.setA_second (x : Cell) (i : Nat) (v : AccReg) : (x.setA i v).second = x.second := rfl
@[simp] theorem Cell.setA_legDone (x : Cell) (i : Nat) (v : AccReg) : (x.setA i v).legDone = x.legDone := rfl
@[simp] theorem Cell.setA_bpc (x : Cell) (i : Nat) (v : AccReg) : (x.setA i v).bpc = x.bpc := rfl
@[simp] theorem Cell.setA_bsr (x : Cell) (i : Nat) (v : AccReg) : (x.setA i v).bsr = x.bsr := rfl
@[simp] theorem Cell.setA_bbranch (x : Cell) (i : Nat) (v : AccReg) : (x.setA i v).bbranch = x.bbranch := rfl
@[simp] theorem Cell.setA_bgSaved (x : Cell) (i : Nat) (v : AccReg) : (x.setA i v).bgSaved = x.bgSaved := rfl
@[simp] theorem Cell.setA_bg (x : Cell) (i : Nat) (v : AccReg) : (x.setA i v).bg = x.bg := rfl
@[simp] theorem Cell.setA_bgWrote (x : Cell) (i : Nat) (v : AccReg) : (x.setA i v).bgWrote = x.bgWrote := rfl
@[simp] theorem Cell.setA_pend (x : Cell) (i : Nat) (v : AccReg) : (x.setA i v).pend = x.pend := rfl
@[simp] theorem Cell.setA_branch (x : Cell) (i : Nat) (v : AccReg) : (x.setA i v).branch = x.branch := rfl
@[simp] theorem Cell.setA_slots (x : Cell) (i : Nat) (v : AccReg) : (x.setA i v).slots = x.slots := rfl
@[simp] theorem Cell.setA_moves (x : Cell) (i : Nat) (v : AccReg) : (x.setA i v).moves = x.moves := rfl
@[simp] theorem Cell.setA_streamer (x : Cell) (i : Nat) (v : AccReg) : (x.setA i v).streamer = x.streamer := rfl
@[simp] theorem Cell.setA_fetched (x : Cell) (i : Nat) (v : AccReg) : (x.setA i v).fetched = x.fetched := rfl
@[simp] theorem Cell.setA_fetches (x : Cell) (i : Nat) (v : AccReg) : (x.setA i v).fetches = x.fetches := rfl
@[simp] theorem Cell.setA_pubs (x : Cell) (i : Nat) (v : AccReg) : (x.setA i v).pubs = x.pubs := rfl
@[simp] theorem Cell.setA_subs (x : Cell) (i : Nat) (v : AccReg) : (x.setA i v).subs = x.subs := rfl
@[simp] theorem Cell.setA_gains (x : Cell) (i : Nat) (v : AccReg) : (x.setA i v).gains = x.gains := rfl
@[simp] theorem Cell.setA_sticky (x : Cell) (i : Nat) (v : AccReg) : (x.setA i v).sticky = x.sticky := rfl
@[simp] theorem Cell.setA_fetchFailed (x : Cell) (i : Nat) (v : AccReg) : (x.setA i v).fetchFailed = x.fetchFailed := rfl
@[simp] theorem Cell.setP_power (x : Cell) (i : Nat) (v : PtrReg) : (x.setP i v).power = x.power := rfl
@[simp] theorem Cell.setP_fresh (x : Cell) (i : Nat) (v : PtrReg) : (x.setP i v).fresh = x.fresh := rfl
@[simp] theorem Cell.setP_dead (x : Cell) (i : Nat) (v : PtrReg) : (x.setP i v).dead = x.dead := rfl
@[simp] theorem Cell.setP_writes (x : Cell) (i : Nat) (v : PtrReg) : (x.setP i v).writes = x.writes := rfl
@[simp] theorem Cell.setP_d (x : Cell) (i : Nat) (v : PtrReg) : (x.setP i v).d = x.d := rfl
@[simp] theorem Cell.setP_acc (x : Cell) (i : Nat) (v : PtrReg) : (x.setP i v).acc = x.acc := rfl
@[simp] theorem Cell.setP_base (x : Cell) (i : Nat) (v : PtrReg) : (x.setP i v).base = x.base := rfl
@[simp] theorem Cell.setP_len (x : Cell) (i : Nat) (v : PtrReg) : (x.setP i v).len = x.len := rfl
@[simp] theorem Cell.setP_step (x : Cell) (i : Nat) (v : PtrReg) : (x.setP i v).step = x.step := rfl
@[simp] theorem Cell.setP_lc (x : Cell) (i : Nat) (v : PtrReg) : (x.setP i v).lc = x.lc := rfl
@[simp] theorem Cell.setP_ls (x : Cell) (i : Nat) (v : PtrReg) : (x.setP i v).ls = x.ls := rfl
@[simp] theorem Cell.setP_le (x : Cell) (i : Nat) (v : PtrReg) : (x.setP i v).le = x.le := rfl
@[simp] theorem Cell.setP_sr (x : Cell) (i : Nat) (v : PtrReg) : (x.setP i v).sr = x.sr := rfl
@[simp] theorem Cell.setP_mr (x : Cell) (i : Nat) (v : PtrReg) : (x.setP i v).mr = x.mr := rfl
@[simp] theorem Cell.setP_pc (x : Cell) (i : Nat) (v : PtrReg) : (x.setP i v).pc = x.pc := rfl
@[simp] theorem Cell.setP_leg (x : Cell) (i : Nat) (v : PtrReg) : (x.setP i v).leg = x.leg := rfl
@[simp] theorem Cell.setP_ctx (x : Cell) (i : Nat) (v : PtrReg) : (x.setP i v).ctx = x.ctx := rfl
@[simp] theorem Cell.setP_second (x : Cell) (i : Nat) (v : PtrReg) : (x.setP i v).second = x.second := rfl
@[simp] theorem Cell.setP_legDone (x : Cell) (i : Nat) (v : PtrReg) : (x.setP i v).legDone = x.legDone := rfl
@[simp] theorem Cell.setP_bpc (x : Cell) (i : Nat) (v : PtrReg) : (x.setP i v).bpc = x.bpc := rfl
@[simp] theorem Cell.setP_bsr (x : Cell) (i : Nat) (v : PtrReg) : (x.setP i v).bsr = x.bsr := rfl
@[simp] theorem Cell.setP_bbranch (x : Cell) (i : Nat) (v : PtrReg) : (x.setP i v).bbranch = x.bbranch := rfl
@[simp] theorem Cell.setP_bgSaved (x : Cell) (i : Nat) (v : PtrReg) : (x.setP i v).bgSaved = x.bgSaved := rfl
@[simp] theorem Cell.setP_bg (x : Cell) (i : Nat) (v : PtrReg) : (x.setP i v).bg = x.bg := rfl
@[simp] theorem Cell.setP_bgWrote (x : Cell) (i : Nat) (v : PtrReg) : (x.setP i v).bgWrote = x.bgWrote := rfl
@[simp] theorem Cell.setP_pend (x : Cell) (i : Nat) (v : PtrReg) : (x.setP i v).pend = x.pend := rfl
@[simp] theorem Cell.setP_branch (x : Cell) (i : Nat) (v : PtrReg) : (x.setP i v).branch = x.branch := rfl
@[simp] theorem Cell.setP_slots (x : Cell) (i : Nat) (v : PtrReg) : (x.setP i v).slots = x.slots := rfl
@[simp] theorem Cell.setP_moves (x : Cell) (i : Nat) (v : PtrReg) : (x.setP i v).moves = x.moves := rfl
@[simp] theorem Cell.setP_streamer (x : Cell) (i : Nat) (v : PtrReg) : (x.setP i v).streamer = x.streamer := rfl
@[simp] theorem Cell.setP_fetched (x : Cell) (i : Nat) (v : PtrReg) : (x.setP i v).fetched = x.fetched := rfl
@[simp] theorem Cell.setP_fetches (x : Cell) (i : Nat) (v : PtrReg) : (x.setP i v).fetches = x.fetches := rfl
@[simp] theorem Cell.setP_pubs (x : Cell) (i : Nat) (v : PtrReg) : (x.setP i v).pubs = x.pubs := rfl
@[simp] theorem Cell.setP_subs (x : Cell) (i : Nat) (v : PtrReg) : (x.setP i v).subs = x.subs := rfl
@[simp] theorem Cell.setP_gains (x : Cell) (i : Nat) (v : PtrReg) : (x.setP i v).gains = x.gains := rfl
@[simp] theorem Cell.setP_sticky (x : Cell) (i : Nat) (v : PtrReg) : (x.setP i v).sticky = x.sticky := rfl
@[simp] theorem Cell.setP_fetchFailed (x : Cell) (i : Nat) (v : PtrReg) : (x.setP i v).fetchFailed = x.fetchFailed := rfl
@[simp] theorem Cell.setB_power (x : Cell) (i : Nat) (v : PtrReg) : (x.setB i v).power = x.power := rfl
@[simp] theorem Cell.setB_fresh (x : Cell) (i : Nat) (v : PtrReg) : (x.setB i v).fresh = x.fresh := rfl
@[simp] theorem Cell.setB_dead (x : Cell) (i : Nat) (v : PtrReg) : (x.setB i v).dead = x.dead := rfl
@[simp] theorem Cell.setB_writes (x : Cell) (i : Nat) (v : PtrReg) : (x.setB i v).writes = x.writes := rfl
@[simp] theorem Cell.setB_d (x : Cell) (i : Nat) (v : PtrReg) : (x.setB i v).d = x.d := rfl
@[simp] theorem Cell.setB_acc (x : Cell) (i : Nat) (v : PtrReg) : (x.setB i v).acc = x.acc := rfl
@[simp] theorem Cell.setB_ptr (x : Cell) (i : Nat) (v : PtrReg) : (x.setB i v).ptr = x.ptr := rfl
@[simp] theorem Cell.setB_len (x : Cell) (i : Nat) (v : PtrReg) : (x.setB i v).len = x.len := rfl
@[simp] theorem Cell.setB_step (x : Cell) (i : Nat) (v : PtrReg) : (x.setB i v).step = x.step := rfl
@[simp] theorem Cell.setB_lc (x : Cell) (i : Nat) (v : PtrReg) : (x.setB i v).lc = x.lc := rfl
@[simp] theorem Cell.setB_ls (x : Cell) (i : Nat) (v : PtrReg) : (x.setB i v).ls = x.ls := rfl
@[simp] theorem Cell.setB_le (x : Cell) (i : Nat) (v : PtrReg) : (x.setB i v).le = x.le := rfl
@[simp] theorem Cell.setB_sr (x : Cell) (i : Nat) (v : PtrReg) : (x.setB i v).sr = x.sr := rfl
@[simp] theorem Cell.setB_mr (x : Cell) (i : Nat) (v : PtrReg) : (x.setB i v).mr = x.mr := rfl
@[simp] theorem Cell.setB_pc (x : Cell) (i : Nat) (v : PtrReg) : (x.setB i v).pc = x.pc := rfl
@[simp] theorem Cell.setB_leg (x : Cell) (i : Nat) (v : PtrReg) : (x.setB i v).leg = x.leg := rfl
@[simp] theorem Cell.setB_ctx (x : Cell) (i : Nat) (v : PtrReg) : (x.setB i v).ctx = x.ctx := rfl
@[simp] theorem Cell.setB_second (x : Cell) (i : Nat) (v : PtrReg) : (x.setB i v).second = x.second := rfl
@[simp] theorem Cell.setB_legDone (x : Cell) (i : Nat) (v : PtrReg) : (x.setB i v).legDone = x.legDone := rfl
@[simp] theorem Cell.setB_bpc (x : Cell) (i : Nat) (v : PtrReg) : (x.setB i v).bpc = x.bpc := rfl
@[simp] theorem Cell.setB_bsr (x : Cell) (i : Nat) (v : PtrReg) : (x.setB i v).bsr = x.bsr := rfl
@[simp] theorem Cell.setB_bbranch (x : Cell) (i : Nat) (v : PtrReg) : (x.setB i v).bbranch = x.bbranch := rfl
@[simp] theorem Cell.setB_bgSaved (x : Cell) (i : Nat) (v : PtrReg) : (x.setB i v).bgSaved = x.bgSaved := rfl
@[simp] theorem Cell.setB_bg (x : Cell) (i : Nat) (v : PtrReg) : (x.setB i v).bg = x.bg := rfl
@[simp] theorem Cell.setB_bgWrote (x : Cell) (i : Nat) (v : PtrReg) : (x.setB i v).bgWrote = x.bgWrote := rfl
@[simp] theorem Cell.setB_pend (x : Cell) (i : Nat) (v : PtrReg) : (x.setB i v).pend = x.pend := rfl
@[simp] theorem Cell.setB_branch (x : Cell) (i : Nat) (v : PtrReg) : (x.setB i v).branch = x.branch := rfl
@[simp] theorem Cell.setB_slots (x : Cell) (i : Nat) (v : PtrReg) : (x.setB i v).slots = x.slots := rfl
@[simp] theorem Cell.setB_moves (x : Cell) (i : Nat) (v : PtrReg) : (x.setB i v).moves = x.moves := rfl
@[simp] theorem Cell.setB_streamer (x : Cell) (i : Nat) (v : PtrReg) : (x.setB i v).streamer = x.streamer := rfl
@[simp] theorem Cell.setB_fetched (x : Cell) (i : Nat) (v : PtrReg) : (x.setB i v).fetched = x.fetched := rfl
@[simp] theorem Cell.setB_fetches (x : Cell) (i : Nat) (v : PtrReg) : (x.setB i v).fetches = x.fetches := rfl
@[simp] theorem Cell.setB_pubs (x : Cell) (i : Nat) (v : PtrReg) : (x.setB i v).pubs = x.pubs := rfl
@[simp] theorem Cell.setB_subs (x : Cell) (i : Nat) (v : PtrReg) : (x.setB i v).subs = x.subs := rfl
@[simp] theorem Cell.setB_gains (x : Cell) (i : Nat) (v : PtrReg) : (x.setB i v).gains = x.gains := rfl
@[simp] theorem Cell.setB_sticky (x : Cell) (i : Nat) (v : PtrReg) : (x.setB i v).sticky = x.sticky := rfl
@[simp] theorem Cell.setB_fetchFailed (x : Cell) (i : Nat) (v : PtrReg) : (x.setB i v).fetchFailed = x.fetchFailed := rfl
@[simp] theorem Cell.setL_power (x : Cell) (i : Nat) (v : LenReg) : (x.setL i v).power = x.power := rfl
@[simp] theorem Cell.setL_fresh (x : Cell) (i : Nat) (v : LenReg) : (x.setL i v).fresh = x.fresh := rfl
@[simp] theorem Cell.setL_dead (x : Cell) (i : Nat) (v : LenReg) : (x.setL i v).dead = x.dead := rfl
@[simp] theorem Cell.setL_writes (x : Cell) (i : Nat) (v : LenReg) : (x.setL i v).writes = x.writes := rfl
@[simp] theorem Cell.setL_d (x : Cell) (i : Nat) (v : LenReg) : (x.setL i v).d = x.d := rfl
@[simp] theorem Cell.setL_acc (x : Cell) (i : Nat) (v : LenReg) : (x.setL i v).acc = x.acc := rfl
@[simp] theorem Cell.setL_ptr (x : Cell) (i : Nat) (v : LenReg) : (x.setL i v).ptr = x.ptr := rfl
@[simp] theorem Cell.setL_base (x : Cell) (i : Nat) (v : LenReg) : (x.setL i v).base = x.base := rfl
@[simp] theorem Cell.setL_step (x : Cell) (i : Nat) (v : LenReg) : (x.setL i v).step = x.step := rfl
@[simp] theorem Cell.setL_lc (x : Cell) (i : Nat) (v : LenReg) : (x.setL i v).lc = x.lc := rfl
@[simp] theorem Cell.setL_ls (x : Cell) (i : Nat) (v : LenReg) : (x.setL i v).ls = x.ls := rfl
@[simp] theorem Cell.setL_le (x : Cell) (i : Nat) (v : LenReg) : (x.setL i v).le = x.le := rfl
@[simp] theorem Cell.setL_sr (x : Cell) (i : Nat) (v : LenReg) : (x.setL i v).sr = x.sr := rfl
@[simp] theorem Cell.setL_mr (x : Cell) (i : Nat) (v : LenReg) : (x.setL i v).mr = x.mr := rfl
@[simp] theorem Cell.setL_pc (x : Cell) (i : Nat) (v : LenReg) : (x.setL i v).pc = x.pc := rfl
@[simp] theorem Cell.setL_leg (x : Cell) (i : Nat) (v : LenReg) : (x.setL i v).leg = x.leg := rfl
@[simp] theorem Cell.setL_ctx (x : Cell) (i : Nat) (v : LenReg) : (x.setL i v).ctx = x.ctx := rfl
@[simp] theorem Cell.setL_second (x : Cell) (i : Nat) (v : LenReg) : (x.setL i v).second = x.second := rfl
@[simp] theorem Cell.setL_legDone (x : Cell) (i : Nat) (v : LenReg) : (x.setL i v).legDone = x.legDone := rfl
@[simp] theorem Cell.setL_bpc (x : Cell) (i : Nat) (v : LenReg) : (x.setL i v).bpc = x.bpc := rfl
@[simp] theorem Cell.setL_bsr (x : Cell) (i : Nat) (v : LenReg) : (x.setL i v).bsr = x.bsr := rfl
@[simp] theorem Cell.setL_bbranch (x : Cell) (i : Nat) (v : LenReg) : (x.setL i v).bbranch = x.bbranch := rfl
@[simp] theorem Cell.setL_bgSaved (x : Cell) (i : Nat) (v : LenReg) : (x.setL i v).bgSaved = x.bgSaved := rfl
@[simp] theorem Cell.setL_bg (x : Cell) (i : Nat) (v : LenReg) : (x.setL i v).bg = x.bg := rfl
@[simp] theorem Cell.setL_bgWrote (x : Cell) (i : Nat) (v : LenReg) : (x.setL i v).bgWrote = x.bgWrote := rfl
@[simp] theorem Cell.setL_pend (x : Cell) (i : Nat) (v : LenReg) : (x.setL i v).pend = x.pend := rfl
@[simp] theorem Cell.setL_branch (x : Cell) (i : Nat) (v : LenReg) : (x.setL i v).branch = x.branch := rfl
@[simp] theorem Cell.setL_slots (x : Cell) (i : Nat) (v : LenReg) : (x.setL i v).slots = x.slots := rfl
@[simp] theorem Cell.setL_moves (x : Cell) (i : Nat) (v : LenReg) : (x.setL i v).moves = x.moves := rfl
@[simp] theorem Cell.setL_streamer (x : Cell) (i : Nat) (v : LenReg) : (x.setL i v).streamer = x.streamer := rfl
@[simp] theorem Cell.setL_fetched (x : Cell) (i : Nat) (v : LenReg) : (x.setL i v).fetched = x.fetched := rfl
@[simp] theorem Cell.setL_fetches (x : Cell) (i : Nat) (v : LenReg) : (x.setL i v).fetches = x.fetches := rfl
@[simp] theorem Cell.setL_pubs (x : Cell) (i : Nat) (v : LenReg) : (x.setL i v).pubs = x.pubs := rfl
@[simp] theorem Cell.setL_subs (x : Cell) (i : Nat) (v : LenReg) : (x.setL i v).subs = x.subs := rfl
@[simp] theorem Cell.setL_gains (x : Cell) (i : Nat) (v : LenReg) : (x.setL i v).gains = x.gains := rfl
@[simp] theorem Cell.setL_sticky (x : Cell) (i : Nat) (v : LenReg) : (x.setL i v).sticky = x.sticky := rfl
@[simp] theorem Cell.setL_fetchFailed (x : Cell) (i : Nat) (v : LenReg) : (x.setL i v).fetchFailed = x.fetchFailed := rfl
@[simp] theorem Cell.setM_power (x : Cell) (i : Nat) (v : StepReg) : (x.setM i v).power = x.power := rfl
@[simp] theorem Cell.setM_fresh (x : Cell) (i : Nat) (v : StepReg) : (x.setM i v).fresh = x.fresh := rfl
@[simp] theorem Cell.setM_dead (x : Cell) (i : Nat) (v : StepReg) : (x.setM i v).dead = x.dead := rfl
@[simp] theorem Cell.setM_writes (x : Cell) (i : Nat) (v : StepReg) : (x.setM i v).writes = x.writes := rfl
@[simp] theorem Cell.setM_d (x : Cell) (i : Nat) (v : StepReg) : (x.setM i v).d = x.d := rfl
@[simp] theorem Cell.setM_acc (x : Cell) (i : Nat) (v : StepReg) : (x.setM i v).acc = x.acc := rfl
@[simp] theorem Cell.setM_ptr (x : Cell) (i : Nat) (v : StepReg) : (x.setM i v).ptr = x.ptr := rfl
@[simp] theorem Cell.setM_base (x : Cell) (i : Nat) (v : StepReg) : (x.setM i v).base = x.base := rfl
@[simp] theorem Cell.setM_len (x : Cell) (i : Nat) (v : StepReg) : (x.setM i v).len = x.len := rfl
@[simp] theorem Cell.setM_lc (x : Cell) (i : Nat) (v : StepReg) : (x.setM i v).lc = x.lc := rfl
@[simp] theorem Cell.setM_ls (x : Cell) (i : Nat) (v : StepReg) : (x.setM i v).ls = x.ls := rfl
@[simp] theorem Cell.setM_le (x : Cell) (i : Nat) (v : StepReg) : (x.setM i v).le = x.le := rfl
@[simp] theorem Cell.setM_sr (x : Cell) (i : Nat) (v : StepReg) : (x.setM i v).sr = x.sr := rfl
@[simp] theorem Cell.setM_mr (x : Cell) (i : Nat) (v : StepReg) : (x.setM i v).mr = x.mr := rfl
@[simp] theorem Cell.setM_pc (x : Cell) (i : Nat) (v : StepReg) : (x.setM i v).pc = x.pc := rfl
@[simp] theorem Cell.setM_leg (x : Cell) (i : Nat) (v : StepReg) : (x.setM i v).leg = x.leg := rfl
@[simp] theorem Cell.setM_ctx (x : Cell) (i : Nat) (v : StepReg) : (x.setM i v).ctx = x.ctx := rfl
@[simp] theorem Cell.setM_second (x : Cell) (i : Nat) (v : StepReg) : (x.setM i v).second = x.second := rfl
@[simp] theorem Cell.setM_legDone (x : Cell) (i : Nat) (v : StepReg) : (x.setM i v).legDone = x.legDone := rfl
@[simp] theorem Cell.setM_bpc (x : Cell) (i : Nat) (v : StepReg) : (x.setM i v).bpc = x.bpc := rfl
@[simp] theorem Cell.setM_bsr (x : Cell) (i : Nat) (v : StepReg) : (x.setM i v).bsr = x.bsr := rfl
@[simp] theorem Cell.setM_bbranch (x : Cell) (i : Nat) (v : StepReg) : (x.setM i v).bbranch = x.bbranch := rfl
@[simp] theorem Cell.setM_bgSaved (x : Cell) (i : Nat) (v : StepReg) : (x.setM i v).bgSaved = x.bgSaved := rfl
@[simp] theorem Cell.setM_bg (x : Cell) (i : Nat) (v : StepReg) : (x.setM i v).bg = x.bg := rfl
@[simp] theorem Cell.setM_bgWrote (x : Cell) (i : Nat) (v : StepReg) : (x.setM i v).bgWrote = x.bgWrote := rfl
@[simp] theorem Cell.setM_pend (x : Cell) (i : Nat) (v : StepReg) : (x.setM i v).pend = x.pend := rfl
@[simp] theorem Cell.setM_branch (x : Cell) (i : Nat) (v : StepReg) : (x.setM i v).branch = x.branch := rfl
@[simp] theorem Cell.setM_slots (x : Cell) (i : Nat) (v : StepReg) : (x.setM i v).slots = x.slots := rfl
@[simp] theorem Cell.setM_moves (x : Cell) (i : Nat) (v : StepReg) : (x.setM i v).moves = x.moves := rfl
@[simp] theorem Cell.setM_streamer (x : Cell) (i : Nat) (v : StepReg) : (x.setM i v).streamer = x.streamer := rfl
@[simp] theorem Cell.setM_fetched (x : Cell) (i : Nat) (v : StepReg) : (x.setM i v).fetched = x.fetched := rfl
@[simp] theorem Cell.setM_fetches (x : Cell) (i : Nat) (v : StepReg) : (x.setM i v).fetches = x.fetches := rfl
@[simp] theorem Cell.setM_pubs (x : Cell) (i : Nat) (v : StepReg) : (x.setM i v).pubs = x.pubs := rfl
@[simp] theorem Cell.setM_subs (x : Cell) (i : Nat) (v : StepReg) : (x.setM i v).subs = x.subs := rfl
@[simp] theorem Cell.setM_gains (x : Cell) (i : Nat) (v : StepReg) : (x.setM i v).gains = x.gains := rfl
@[simp] theorem Cell.setM_sticky (x : Cell) (i : Nat) (v : StepReg) : (x.setM i v).sticky = x.sticky := rfl
@[simp] theorem Cell.setM_fetchFailed (x : Cell) (i : Nat) (v : StepReg) : (x.setM i v).fetchFailed = x.fetchFailed := rfl
@[simp] theorem Cell.setLc_power (x : Cell) (i : Nat) (v : BitVec 16) : (x.setLc i v).power = x.power := rfl
@[simp] theorem Cell.setLc_fresh (x : Cell) (i : Nat) (v : BitVec 16) : (x.setLc i v).fresh = x.fresh := rfl
@[simp] theorem Cell.setLc_dead (x : Cell) (i : Nat) (v : BitVec 16) : (x.setLc i v).dead = x.dead := rfl
@[simp] theorem Cell.setLc_writes (x : Cell) (i : Nat) (v : BitVec 16) : (x.setLc i v).writes = x.writes := rfl
@[simp] theorem Cell.setLc_d (x : Cell) (i : Nat) (v : BitVec 16) : (x.setLc i v).d = x.d := rfl
@[simp] theorem Cell.setLc_acc (x : Cell) (i : Nat) (v : BitVec 16) : (x.setLc i v).acc = x.acc := rfl
@[simp] theorem Cell.setLc_ptr (x : Cell) (i : Nat) (v : BitVec 16) : (x.setLc i v).ptr = x.ptr := rfl
@[simp] theorem Cell.setLc_base (x : Cell) (i : Nat) (v : BitVec 16) : (x.setLc i v).base = x.base := rfl
@[simp] theorem Cell.setLc_len (x : Cell) (i : Nat) (v : BitVec 16) : (x.setLc i v).len = x.len := rfl
@[simp] theorem Cell.setLc_step (x : Cell) (i : Nat) (v : BitVec 16) : (x.setLc i v).step = x.step := rfl
@[simp] theorem Cell.setLc_ls (x : Cell) (i : Nat) (v : BitVec 16) : (x.setLc i v).ls = x.ls := rfl
@[simp] theorem Cell.setLc_le (x : Cell) (i : Nat) (v : BitVec 16) : (x.setLc i v).le = x.le := rfl
@[simp] theorem Cell.setLc_sr (x : Cell) (i : Nat) (v : BitVec 16) : (x.setLc i v).sr = x.sr := rfl
@[simp] theorem Cell.setLc_mr (x : Cell) (i : Nat) (v : BitVec 16) : (x.setLc i v).mr = x.mr := rfl
@[simp] theorem Cell.setLc_pc (x : Cell) (i : Nat) (v : BitVec 16) : (x.setLc i v).pc = x.pc := rfl
@[simp] theorem Cell.setLc_leg (x : Cell) (i : Nat) (v : BitVec 16) : (x.setLc i v).leg = x.leg := rfl
@[simp] theorem Cell.setLc_ctx (x : Cell) (i : Nat) (v : BitVec 16) : (x.setLc i v).ctx = x.ctx := rfl
@[simp] theorem Cell.setLc_second (x : Cell) (i : Nat) (v : BitVec 16) : (x.setLc i v).second = x.second := rfl
@[simp] theorem Cell.setLc_legDone (x : Cell) (i : Nat) (v : BitVec 16) : (x.setLc i v).legDone = x.legDone := rfl
@[simp] theorem Cell.setLc_bpc (x : Cell) (i : Nat) (v : BitVec 16) : (x.setLc i v).bpc = x.bpc := rfl
@[simp] theorem Cell.setLc_bsr (x : Cell) (i : Nat) (v : BitVec 16) : (x.setLc i v).bsr = x.bsr := rfl
@[simp] theorem Cell.setLc_bbranch (x : Cell) (i : Nat) (v : BitVec 16) : (x.setLc i v).bbranch = x.bbranch := rfl
@[simp] theorem Cell.setLc_bgSaved (x : Cell) (i : Nat) (v : BitVec 16) : (x.setLc i v).bgSaved = x.bgSaved := rfl
@[simp] theorem Cell.setLc_bg (x : Cell) (i : Nat) (v : BitVec 16) : (x.setLc i v).bg = x.bg := rfl
@[simp] theorem Cell.setLc_bgWrote (x : Cell) (i : Nat) (v : BitVec 16) : (x.setLc i v).bgWrote = x.bgWrote := rfl
@[simp] theorem Cell.setLc_pend (x : Cell) (i : Nat) (v : BitVec 16) : (x.setLc i v).pend = x.pend := rfl
@[simp] theorem Cell.setLc_branch (x : Cell) (i : Nat) (v : BitVec 16) : (x.setLc i v).branch = x.branch := rfl
@[simp] theorem Cell.setLc_slots (x : Cell) (i : Nat) (v : BitVec 16) : (x.setLc i v).slots = x.slots := rfl
@[simp] theorem Cell.setLc_moves (x : Cell) (i : Nat) (v : BitVec 16) : (x.setLc i v).moves = x.moves := rfl
@[simp] theorem Cell.setLc_streamer (x : Cell) (i : Nat) (v : BitVec 16) : (x.setLc i v).streamer = x.streamer := rfl
@[simp] theorem Cell.setLc_fetched (x : Cell) (i : Nat) (v : BitVec 16) : (x.setLc i v).fetched = x.fetched := rfl
@[simp] theorem Cell.setLc_fetches (x : Cell) (i : Nat) (v : BitVec 16) : (x.setLc i v).fetches = x.fetches := rfl
@[simp] theorem Cell.setLc_pubs (x : Cell) (i : Nat) (v : BitVec 16) : (x.setLc i v).pubs = x.pubs := rfl
@[simp] theorem Cell.setLc_subs (x : Cell) (i : Nat) (v : BitVec 16) : (x.setLc i v).subs = x.subs := rfl
@[simp] theorem Cell.setLc_gains (x : Cell) (i : Nat) (v : BitVec 16) : (x.setLc i v).gains = x.gains := rfl
@[simp] theorem Cell.setLc_sticky (x : Cell) (i : Nat) (v : BitVec 16) : (x.setLc i v).sticky = x.sticky := rfl
@[simp] theorem Cell.setLc_fetchFailed (x : Cell) (i : Nat) (v : BitVec 16) : (x.setLc i v).fetchFailed = x.fetchFailed := rfl
@[simp] theorem Cell.setLs_power (x : Cell) (i : Nat) (v : BitVec 12) : (x.setLs i v).power = x.power := rfl
@[simp] theorem Cell.setLs_fresh (x : Cell) (i : Nat) (v : BitVec 12) : (x.setLs i v).fresh = x.fresh := rfl
@[simp] theorem Cell.setLs_dead (x : Cell) (i : Nat) (v : BitVec 12) : (x.setLs i v).dead = x.dead := rfl
@[simp] theorem Cell.setLs_writes (x : Cell) (i : Nat) (v : BitVec 12) : (x.setLs i v).writes = x.writes := rfl
@[simp] theorem Cell.setLs_d (x : Cell) (i : Nat) (v : BitVec 12) : (x.setLs i v).d = x.d := rfl
@[simp] theorem Cell.setLs_acc (x : Cell) (i : Nat) (v : BitVec 12) : (x.setLs i v).acc = x.acc := rfl
@[simp] theorem Cell.setLs_ptr (x : Cell) (i : Nat) (v : BitVec 12) : (x.setLs i v).ptr = x.ptr := rfl
@[simp] theorem Cell.setLs_base (x : Cell) (i : Nat) (v : BitVec 12) : (x.setLs i v).base = x.base := rfl
@[simp] theorem Cell.setLs_len (x : Cell) (i : Nat) (v : BitVec 12) : (x.setLs i v).len = x.len := rfl
@[simp] theorem Cell.setLs_step (x : Cell) (i : Nat) (v : BitVec 12) : (x.setLs i v).step = x.step := rfl
@[simp] theorem Cell.setLs_lc (x : Cell) (i : Nat) (v : BitVec 12) : (x.setLs i v).lc = x.lc := rfl
@[simp] theorem Cell.setLs_le (x : Cell) (i : Nat) (v : BitVec 12) : (x.setLs i v).le = x.le := rfl
@[simp] theorem Cell.setLs_sr (x : Cell) (i : Nat) (v : BitVec 12) : (x.setLs i v).sr = x.sr := rfl
@[simp] theorem Cell.setLs_mr (x : Cell) (i : Nat) (v : BitVec 12) : (x.setLs i v).mr = x.mr := rfl
@[simp] theorem Cell.setLs_pc (x : Cell) (i : Nat) (v : BitVec 12) : (x.setLs i v).pc = x.pc := rfl
@[simp] theorem Cell.setLs_leg (x : Cell) (i : Nat) (v : BitVec 12) : (x.setLs i v).leg = x.leg := rfl
@[simp] theorem Cell.setLs_ctx (x : Cell) (i : Nat) (v : BitVec 12) : (x.setLs i v).ctx = x.ctx := rfl
@[simp] theorem Cell.setLs_second (x : Cell) (i : Nat) (v : BitVec 12) : (x.setLs i v).second = x.second := rfl
@[simp] theorem Cell.setLs_legDone (x : Cell) (i : Nat) (v : BitVec 12) : (x.setLs i v).legDone = x.legDone := rfl
@[simp] theorem Cell.setLs_bpc (x : Cell) (i : Nat) (v : BitVec 12) : (x.setLs i v).bpc = x.bpc := rfl
@[simp] theorem Cell.setLs_bsr (x : Cell) (i : Nat) (v : BitVec 12) : (x.setLs i v).bsr = x.bsr := rfl
@[simp] theorem Cell.setLs_bbranch (x : Cell) (i : Nat) (v : BitVec 12) : (x.setLs i v).bbranch = x.bbranch := rfl
@[simp] theorem Cell.setLs_bgSaved (x : Cell) (i : Nat) (v : BitVec 12) : (x.setLs i v).bgSaved = x.bgSaved := rfl
@[simp] theorem Cell.setLs_bg (x : Cell) (i : Nat) (v : BitVec 12) : (x.setLs i v).bg = x.bg := rfl
@[simp] theorem Cell.setLs_bgWrote (x : Cell) (i : Nat) (v : BitVec 12) : (x.setLs i v).bgWrote = x.bgWrote := rfl
@[simp] theorem Cell.setLs_pend (x : Cell) (i : Nat) (v : BitVec 12) : (x.setLs i v).pend = x.pend := rfl
@[simp] theorem Cell.setLs_branch (x : Cell) (i : Nat) (v : BitVec 12) : (x.setLs i v).branch = x.branch := rfl
@[simp] theorem Cell.setLs_slots (x : Cell) (i : Nat) (v : BitVec 12) : (x.setLs i v).slots = x.slots := rfl
@[simp] theorem Cell.setLs_moves (x : Cell) (i : Nat) (v : BitVec 12) : (x.setLs i v).moves = x.moves := rfl
@[simp] theorem Cell.setLs_streamer (x : Cell) (i : Nat) (v : BitVec 12) : (x.setLs i v).streamer = x.streamer := rfl
@[simp] theorem Cell.setLs_fetched (x : Cell) (i : Nat) (v : BitVec 12) : (x.setLs i v).fetched = x.fetched := rfl
@[simp] theorem Cell.setLs_fetches (x : Cell) (i : Nat) (v : BitVec 12) : (x.setLs i v).fetches = x.fetches := rfl
@[simp] theorem Cell.setLs_pubs (x : Cell) (i : Nat) (v : BitVec 12) : (x.setLs i v).pubs = x.pubs := rfl
@[simp] theorem Cell.setLs_subs (x : Cell) (i : Nat) (v : BitVec 12) : (x.setLs i v).subs = x.subs := rfl
@[simp] theorem Cell.setLs_gains (x : Cell) (i : Nat) (v : BitVec 12) : (x.setLs i v).gains = x.gains := rfl
@[simp] theorem Cell.setLs_sticky (x : Cell) (i : Nat) (v : BitVec 12) : (x.setLs i v).sticky = x.sticky := rfl
@[simp] theorem Cell.setLs_fetchFailed (x : Cell) (i : Nat) (v : BitVec 12) : (x.setLs i v).fetchFailed = x.fetchFailed := rfl
@[simp] theorem Cell.setLe_power (x : Cell) (i : Nat) (v : BitVec 12) : (x.setLe i v).power = x.power := rfl
@[simp] theorem Cell.setLe_fresh (x : Cell) (i : Nat) (v : BitVec 12) : (x.setLe i v).fresh = x.fresh := rfl
@[simp] theorem Cell.setLe_dead (x : Cell) (i : Nat) (v : BitVec 12) : (x.setLe i v).dead = x.dead := rfl
@[simp] theorem Cell.setLe_writes (x : Cell) (i : Nat) (v : BitVec 12) : (x.setLe i v).writes = x.writes := rfl
@[simp] theorem Cell.setLe_d (x : Cell) (i : Nat) (v : BitVec 12) : (x.setLe i v).d = x.d := rfl
@[simp] theorem Cell.setLe_acc (x : Cell) (i : Nat) (v : BitVec 12) : (x.setLe i v).acc = x.acc := rfl
@[simp] theorem Cell.setLe_ptr (x : Cell) (i : Nat) (v : BitVec 12) : (x.setLe i v).ptr = x.ptr := rfl
@[simp] theorem Cell.setLe_base (x : Cell) (i : Nat) (v : BitVec 12) : (x.setLe i v).base = x.base := rfl
@[simp] theorem Cell.setLe_len (x : Cell) (i : Nat) (v : BitVec 12) : (x.setLe i v).len = x.len := rfl
@[simp] theorem Cell.setLe_step (x : Cell) (i : Nat) (v : BitVec 12) : (x.setLe i v).step = x.step := rfl
@[simp] theorem Cell.setLe_lc (x : Cell) (i : Nat) (v : BitVec 12) : (x.setLe i v).lc = x.lc := rfl
@[simp] theorem Cell.setLe_ls (x : Cell) (i : Nat) (v : BitVec 12) : (x.setLe i v).ls = x.ls := rfl
@[simp] theorem Cell.setLe_sr (x : Cell) (i : Nat) (v : BitVec 12) : (x.setLe i v).sr = x.sr := rfl
@[simp] theorem Cell.setLe_mr (x : Cell) (i : Nat) (v : BitVec 12) : (x.setLe i v).mr = x.mr := rfl
@[simp] theorem Cell.setLe_pc (x : Cell) (i : Nat) (v : BitVec 12) : (x.setLe i v).pc = x.pc := rfl
@[simp] theorem Cell.setLe_leg (x : Cell) (i : Nat) (v : BitVec 12) : (x.setLe i v).leg = x.leg := rfl
@[simp] theorem Cell.setLe_ctx (x : Cell) (i : Nat) (v : BitVec 12) : (x.setLe i v).ctx = x.ctx := rfl
@[simp] theorem Cell.setLe_second (x : Cell) (i : Nat) (v : BitVec 12) : (x.setLe i v).second = x.second := rfl
@[simp] theorem Cell.setLe_legDone (x : Cell) (i : Nat) (v : BitVec 12) : (x.setLe i v).legDone = x.legDone := rfl
@[simp] theorem Cell.setLe_bpc (x : Cell) (i : Nat) (v : BitVec 12) : (x.setLe i v).bpc = x.bpc := rfl
@[simp] theorem Cell.setLe_bsr (x : Cell) (i : Nat) (v : BitVec 12) : (x.setLe i v).bsr = x.bsr := rfl
@[simp] theorem Cell.setLe_bbranch (x : Cell) (i : Nat) (v : BitVec 12) : (x.setLe i v).bbranch = x.bbranch := rfl
@[simp] theorem Cell.setLe_bgSaved (x : Cell) (i : Nat) (v : BitVec 12) : (x.setLe i v).bgSaved = x.bgSaved := rfl
@[simp] theorem Cell.setLe_bg (x : Cell) (i : Nat) (v : BitVec 12) : (x.setLe i v).bg = x.bg := rfl
@[simp] theorem Cell.setLe_bgWrote (x : Cell) (i : Nat) (v : BitVec 12) : (x.setLe i v).bgWrote = x.bgWrote := rfl
@[simp] theorem Cell.setLe_pend (x : Cell) (i : Nat) (v : BitVec 12) : (x.setLe i v).pend = x.pend := rfl
@[simp] theorem Cell.setLe_branch (x : Cell) (i : Nat) (v : BitVec 12) : (x.setLe i v).branch = x.branch := rfl
@[simp] theorem Cell.setLe_slots (x : Cell) (i : Nat) (v : BitVec 12) : (x.setLe i v).slots = x.slots := rfl
@[simp] theorem Cell.setLe_moves (x : Cell) (i : Nat) (v : BitVec 12) : (x.setLe i v).moves = x.moves := rfl
@[simp] theorem Cell.setLe_streamer (x : Cell) (i : Nat) (v : BitVec 12) : (x.setLe i v).streamer = x.streamer := rfl
@[simp] theorem Cell.setLe_fetched (x : Cell) (i : Nat) (v : BitVec 12) : (x.setLe i v).fetched = x.fetched := rfl
@[simp] theorem Cell.setLe_fetches (x : Cell) (i : Nat) (v : BitVec 12) : (x.setLe i v).fetches = x.fetches := rfl
@[simp] theorem Cell.setLe_pubs (x : Cell) (i : Nat) (v : BitVec 12) : (x.setLe i v).pubs = x.pubs := rfl
@[simp] theorem Cell.setLe_subs (x : Cell) (i : Nat) (v : BitVec 12) : (x.setLe i v).subs = x.subs := rfl
@[simp] theorem Cell.setLe_gains (x : Cell) (i : Nat) (v : BitVec 12) : (x.setLe i v).gains = x.gains := rfl
@[simp] theorem Cell.setLe_sticky (x : Cell) (i : Nat) (v : BitVec 12) : (x.setLe i v).sticky = x.sticky := rfl
@[simp] theorem Cell.setLe_fetchFailed (x : Cell) (i : Nat) (v : BitVec 12) : (x.setLe i v).fetchFailed = x.fetchFailed := rfl
@[simp] theorem Cell.setWord_power (x : Cell) (i : Nat) (v : Sample) : (x.setWord i v).power = x.power := rfl
@[simp] theorem Cell.setWord_fresh (x : Cell) (i : Nat) (v : Sample) : (x.setWord i v).fresh = x.fresh := rfl
@[simp] theorem Cell.setWord_dead (x : Cell) (i : Nat) (v : Sample) : (x.setWord i v).dead = x.dead := rfl
@[simp] theorem Cell.setWord_writes (x : Cell) (i : Nat) (v : Sample) : (x.setWord i v).writes = x.writes := rfl
@[simp] theorem Cell.setWord_d (x : Cell) (i : Nat) (v : Sample) : (x.setWord i v).d = x.d := rfl
@[simp] theorem Cell.setWord_acc (x : Cell) (i : Nat) (v : Sample) : (x.setWord i v).acc = x.acc := rfl
@[simp] theorem Cell.setWord_ptr (x : Cell) (i : Nat) (v : Sample) : (x.setWord i v).ptr = x.ptr := rfl
@[simp] theorem Cell.setWord_base (x : Cell) (i : Nat) (v : Sample) : (x.setWord i v).base = x.base := rfl
@[simp] theorem Cell.setWord_len (x : Cell) (i : Nat) (v : Sample) : (x.setWord i v).len = x.len := rfl
@[simp] theorem Cell.setWord_step (x : Cell) (i : Nat) (v : Sample) : (x.setWord i v).step = x.step := rfl
@[simp] theorem Cell.setWord_lc (x : Cell) (i : Nat) (v : Sample) : (x.setWord i v).lc = x.lc := rfl
@[simp] theorem Cell.setWord_ls (x : Cell) (i : Nat) (v : Sample) : (x.setWord i v).ls = x.ls := rfl
@[simp] theorem Cell.setWord_le (x : Cell) (i : Nat) (v : Sample) : (x.setWord i v).le = x.le := rfl
@[simp] theorem Cell.setWord_sr (x : Cell) (i : Nat) (v : Sample) : (x.setWord i v).sr = x.sr := rfl
@[simp] theorem Cell.setWord_mr (x : Cell) (i : Nat) (v : Sample) : (x.setWord i v).mr = x.mr := rfl
@[simp] theorem Cell.setWord_pc (x : Cell) (i : Nat) (v : Sample) : (x.setWord i v).pc = x.pc := rfl
@[simp] theorem Cell.setWord_leg (x : Cell) (i : Nat) (v : Sample) : (x.setWord i v).leg = x.leg := rfl
@[simp] theorem Cell.setWord_ctx (x : Cell) (i : Nat) (v : Sample) : (x.setWord i v).ctx = x.ctx := rfl
@[simp] theorem Cell.setWord_second (x : Cell) (i : Nat) (v : Sample) : (x.setWord i v).second = x.second := rfl
@[simp] theorem Cell.setWord_legDone (x : Cell) (i : Nat) (v : Sample) : (x.setWord i v).legDone = x.legDone := rfl
@[simp] theorem Cell.setWord_bpc (x : Cell) (i : Nat) (v : Sample) : (x.setWord i v).bpc = x.bpc := rfl
@[simp] theorem Cell.setWord_bsr (x : Cell) (i : Nat) (v : Sample) : (x.setWord i v).bsr = x.bsr := rfl
@[simp] theorem Cell.setWord_bbranch (x : Cell) (i : Nat) (v : Sample) : (x.setWord i v).bbranch = x.bbranch := rfl
@[simp] theorem Cell.setWord_bgSaved (x : Cell) (i : Nat) (v : Sample) : (x.setWord i v).bgSaved = x.bgSaved := rfl
@[simp] theorem Cell.setWord_bg (x : Cell) (i : Nat) (v : Sample) : (x.setWord i v).bg = x.bg := rfl
@[simp] theorem Cell.setWord_bgWrote (x : Cell) (i : Nat) (v : Sample) : (x.setWord i v).bgWrote = x.bgWrote := rfl
@[simp] theorem Cell.setWord_pend (x : Cell) (i : Nat) (v : Sample) : (x.setWord i v).pend = x.pend := rfl
@[simp] theorem Cell.setWord_branch (x : Cell) (i : Nat) (v : Sample) : (x.setWord i v).branch = x.branch := rfl
@[simp] theorem Cell.setWord_moves (x : Cell) (i : Nat) (v : Sample) : (x.setWord i v).moves = x.moves := rfl
@[simp] theorem Cell.setWord_streamer (x : Cell) (i : Nat) (v : Sample) : (x.setWord i v).streamer = x.streamer := rfl
@[simp] theorem Cell.setWord_fetched (x : Cell) (i : Nat) (v : Sample) : (x.setWord i v).fetched = x.fetched := rfl
@[simp] theorem Cell.setWord_fetches (x : Cell) (i : Nat) (v : Sample) : (x.setWord i v).fetches = x.fetches := rfl
@[simp] theorem Cell.setWord_pubs (x : Cell) (i : Nat) (v : Sample) : (x.setWord i v).pubs = x.pubs := rfl
@[simp] theorem Cell.setWord_subs (x : Cell) (i : Nat) (v : Sample) : (x.setWord i v).subs = x.subs := rfl
@[simp] theorem Cell.setWord_gains (x : Cell) (i : Nat) (v : Sample) : (x.setWord i v).gains = x.gains := rfl
@[simp] theorem Cell.setWord_sticky (x : Cell) (i : Nat) (v : Sample) : (x.setWord i v).sticky = x.sticky := rfl
@[simp] theorem Cell.setWord_fetchFailed (x : Cell) (i : Nat) (v : Sample) : (x.setWord i v).fetchFailed = x.fetchFailed := rfl
@[simp] theorem Cell.setPub_power (x : Cell) (i : Nat) (v : PubSlot) : (x.setPub i v).power = x.power := rfl
@[simp] theorem Cell.setPub_fresh (x : Cell) (i : Nat) (v : PubSlot) : (x.setPub i v).fresh = x.fresh := rfl
@[simp] theorem Cell.setPub_dead (x : Cell) (i : Nat) (v : PubSlot) : (x.setPub i v).dead = x.dead := rfl
@[simp] theorem Cell.setPub_writes (x : Cell) (i : Nat) (v : PubSlot) : (x.setPub i v).writes = x.writes := rfl
@[simp] theorem Cell.setPub_d (x : Cell) (i : Nat) (v : PubSlot) : (x.setPub i v).d = x.d := rfl
@[simp] theorem Cell.setPub_acc (x : Cell) (i : Nat) (v : PubSlot) : (x.setPub i v).acc = x.acc := rfl
@[simp] theorem Cell.setPub_ptr (x : Cell) (i : Nat) (v : PubSlot) : (x.setPub i v).ptr = x.ptr := rfl
@[simp] theorem Cell.setPub_base (x : Cell) (i : Nat) (v : PubSlot) : (x.setPub i v).base = x.base := rfl
@[simp] theorem Cell.setPub_len (x : Cell) (i : Nat) (v : PubSlot) : (x.setPub i v).len = x.len := rfl
@[simp] theorem Cell.setPub_step (x : Cell) (i : Nat) (v : PubSlot) : (x.setPub i v).step = x.step := rfl
@[simp] theorem Cell.setPub_lc (x : Cell) (i : Nat) (v : PubSlot) : (x.setPub i v).lc = x.lc := rfl
@[simp] theorem Cell.setPub_ls (x : Cell) (i : Nat) (v : PubSlot) : (x.setPub i v).ls = x.ls := rfl
@[simp] theorem Cell.setPub_le (x : Cell) (i : Nat) (v : PubSlot) : (x.setPub i v).le = x.le := rfl
@[simp] theorem Cell.setPub_sr (x : Cell) (i : Nat) (v : PubSlot) : (x.setPub i v).sr = x.sr := rfl
@[simp] theorem Cell.setPub_mr (x : Cell) (i : Nat) (v : PubSlot) : (x.setPub i v).mr = x.mr := rfl
@[simp] theorem Cell.setPub_pc (x : Cell) (i : Nat) (v : PubSlot) : (x.setPub i v).pc = x.pc := rfl
@[simp] theorem Cell.setPub_leg (x : Cell) (i : Nat) (v : PubSlot) : (x.setPub i v).leg = x.leg := rfl
@[simp] theorem Cell.setPub_ctx (x : Cell) (i : Nat) (v : PubSlot) : (x.setPub i v).ctx = x.ctx := rfl
@[simp] theorem Cell.setPub_second (x : Cell) (i : Nat) (v : PubSlot) : (x.setPub i v).second = x.second := rfl
@[simp] theorem Cell.setPub_legDone (x : Cell) (i : Nat) (v : PubSlot) : (x.setPub i v).legDone = x.legDone := rfl
@[simp] theorem Cell.setPub_bpc (x : Cell) (i : Nat) (v : PubSlot) : (x.setPub i v).bpc = x.bpc := rfl
@[simp] theorem Cell.setPub_bsr (x : Cell) (i : Nat) (v : PubSlot) : (x.setPub i v).bsr = x.bsr := rfl
@[simp] theorem Cell.setPub_bbranch (x : Cell) (i : Nat) (v : PubSlot) : (x.setPub i v).bbranch = x.bbranch := rfl
@[simp] theorem Cell.setPub_bgSaved (x : Cell) (i : Nat) (v : PubSlot) : (x.setPub i v).bgSaved = x.bgSaved := rfl
@[simp] theorem Cell.setPub_bg (x : Cell) (i : Nat) (v : PubSlot) : (x.setPub i v).bg = x.bg := rfl
@[simp] theorem Cell.setPub_bgWrote (x : Cell) (i : Nat) (v : PubSlot) : (x.setPub i v).bgWrote = x.bgWrote := rfl
@[simp] theorem Cell.setPub_pend (x : Cell) (i : Nat) (v : PubSlot) : (x.setPub i v).pend = x.pend := rfl
@[simp] theorem Cell.setPub_branch (x : Cell) (i : Nat) (v : PubSlot) : (x.setPub i v).branch = x.branch := rfl
@[simp] theorem Cell.setPub_slots (x : Cell) (i : Nat) (v : PubSlot) : (x.setPub i v).slots = x.slots := rfl
@[simp] theorem Cell.setPub_moves (x : Cell) (i : Nat) (v : PubSlot) : (x.setPub i v).moves = x.moves := rfl
@[simp] theorem Cell.setPub_streamer (x : Cell) (i : Nat) (v : PubSlot) : (x.setPub i v).streamer = x.streamer := rfl
@[simp] theorem Cell.setPub_fetched (x : Cell) (i : Nat) (v : PubSlot) : (x.setPub i v).fetched = x.fetched := rfl
@[simp] theorem Cell.setPub_fetches (x : Cell) (i : Nat) (v : PubSlot) : (x.setPub i v).fetches = x.fetches := rfl
@[simp] theorem Cell.setPub_subs (x : Cell) (i : Nat) (v : PubSlot) : (x.setPub i v).subs = x.subs := rfl
@[simp] theorem Cell.setPub_gains (x : Cell) (i : Nat) (v : PubSlot) : (x.setPub i v).gains = x.gains := rfl
@[simp] theorem Cell.setPub_sticky (x : Cell) (i : Nat) (v : PubSlot) : (x.setPub i v).sticky = x.sticky := rfl
@[simp] theorem Cell.setPub_fetchFailed (x : Cell) (i : Nat) (v : PubSlot) : (x.setPub i v).fetchFailed = x.fetchFailed := rfl
@[simp] theorem Cell.setSub_power (x : Cell) (i : Nat) (v : SubSlot) : (x.setSub i v).power = x.power := rfl
@[simp] theorem Cell.setSub_fresh (x : Cell) (i : Nat) (v : SubSlot) : (x.setSub i v).fresh = x.fresh := rfl
@[simp] theorem Cell.setSub_dead (x : Cell) (i : Nat) (v : SubSlot) : (x.setSub i v).dead = x.dead := rfl
@[simp] theorem Cell.setSub_writes (x : Cell) (i : Nat) (v : SubSlot) : (x.setSub i v).writes = x.writes := rfl
@[simp] theorem Cell.setSub_d (x : Cell) (i : Nat) (v : SubSlot) : (x.setSub i v).d = x.d := rfl
@[simp] theorem Cell.setSub_acc (x : Cell) (i : Nat) (v : SubSlot) : (x.setSub i v).acc = x.acc := rfl
@[simp] theorem Cell.setSub_ptr (x : Cell) (i : Nat) (v : SubSlot) : (x.setSub i v).ptr = x.ptr := rfl
@[simp] theorem Cell.setSub_base (x : Cell) (i : Nat) (v : SubSlot) : (x.setSub i v).base = x.base := rfl
@[simp] theorem Cell.setSub_len (x : Cell) (i : Nat) (v : SubSlot) : (x.setSub i v).len = x.len := rfl
@[simp] theorem Cell.setSub_step (x : Cell) (i : Nat) (v : SubSlot) : (x.setSub i v).step = x.step := rfl
@[simp] theorem Cell.setSub_lc (x : Cell) (i : Nat) (v : SubSlot) : (x.setSub i v).lc = x.lc := rfl
@[simp] theorem Cell.setSub_ls (x : Cell) (i : Nat) (v : SubSlot) : (x.setSub i v).ls = x.ls := rfl
@[simp] theorem Cell.setSub_le (x : Cell) (i : Nat) (v : SubSlot) : (x.setSub i v).le = x.le := rfl
@[simp] theorem Cell.setSub_sr (x : Cell) (i : Nat) (v : SubSlot) : (x.setSub i v).sr = x.sr := rfl
@[simp] theorem Cell.setSub_mr (x : Cell) (i : Nat) (v : SubSlot) : (x.setSub i v).mr = x.mr := rfl
@[simp] theorem Cell.setSub_pc (x : Cell) (i : Nat) (v : SubSlot) : (x.setSub i v).pc = x.pc := rfl
@[simp] theorem Cell.setSub_leg (x : Cell) (i : Nat) (v : SubSlot) : (x.setSub i v).leg = x.leg := rfl
@[simp] theorem Cell.setSub_ctx (x : Cell) (i : Nat) (v : SubSlot) : (x.setSub i v).ctx = x.ctx := rfl
@[simp] theorem Cell.setSub_second (x : Cell) (i : Nat) (v : SubSlot) : (x.setSub i v).second = x.second := rfl
@[simp] theorem Cell.setSub_legDone (x : Cell) (i : Nat) (v : SubSlot) : (x.setSub i v).legDone = x.legDone := rfl
@[simp] theorem Cell.setSub_bpc (x : Cell) (i : Nat) (v : SubSlot) : (x.setSub i v).bpc = x.bpc := rfl
@[simp] theorem Cell.setSub_bsr (x : Cell) (i : Nat) (v : SubSlot) : (x.setSub i v).bsr = x.bsr := rfl
@[simp] theorem Cell.setSub_bbranch (x : Cell) (i : Nat) (v : SubSlot) : (x.setSub i v).bbranch = x.bbranch := rfl
@[simp] theorem Cell.setSub_bgSaved (x : Cell) (i : Nat) (v : SubSlot) : (x.setSub i v).bgSaved = x.bgSaved := rfl
@[simp] theorem Cell.setSub_bg (x : Cell) (i : Nat) (v : SubSlot) : (x.setSub i v).bg = x.bg := rfl
@[simp] theorem Cell.setSub_bgWrote (x : Cell) (i : Nat) (v : SubSlot) : (x.setSub i v).bgWrote = x.bgWrote := rfl
@[simp] theorem Cell.setSub_pend (x : Cell) (i : Nat) (v : SubSlot) : (x.setSub i v).pend = x.pend := rfl
@[simp] theorem Cell.setSub_branch (x : Cell) (i : Nat) (v : SubSlot) : (x.setSub i v).branch = x.branch := rfl
@[simp] theorem Cell.setSub_slots (x : Cell) (i : Nat) (v : SubSlot) : (x.setSub i v).slots = x.slots := rfl
@[simp] theorem Cell.setSub_moves (x : Cell) (i : Nat) (v : SubSlot) : (x.setSub i v).moves = x.moves := rfl
@[simp] theorem Cell.setSub_streamer (x : Cell) (i : Nat) (v : SubSlot) : (x.setSub i v).streamer = x.streamer := rfl
@[simp] theorem Cell.setSub_fetched (x : Cell) (i : Nat) (v : SubSlot) : (x.setSub i v).fetched = x.fetched := rfl
@[simp] theorem Cell.setSub_fetches (x : Cell) (i : Nat) (v : SubSlot) : (x.setSub i v).fetches = x.fetches := rfl
@[simp] theorem Cell.setSub_pubs (x : Cell) (i : Nat) (v : SubSlot) : (x.setSub i v).pubs = x.pubs := rfl
@[simp] theorem Cell.setSub_gains (x : Cell) (i : Nat) (v : SubSlot) : (x.setSub i v).gains = x.gains := rfl
@[simp] theorem Cell.setSub_sticky (x : Cell) (i : Nat) (v : SubSlot) : (x.setSub i v).sticky = x.sticky := rfl
@[simp] theorem Cell.setSub_fetchFailed (x : Cell) (i : Nat) (v : SubSlot) : (x.setSub i v).fetchFailed = x.fetchFailed := rfl
@[simp] theorem Cell.setGain_power (x : Cell) (i : Nat) (v : GainSlot) : (x.setGain i v).power = x.power := rfl
@[simp] theorem Cell.setGain_fresh (x : Cell) (i : Nat) (v : GainSlot) : (x.setGain i v).fresh = x.fresh := rfl
@[simp] theorem Cell.setGain_dead (x : Cell) (i : Nat) (v : GainSlot) : (x.setGain i v).dead = x.dead := rfl
@[simp] theorem Cell.setGain_writes (x : Cell) (i : Nat) (v : GainSlot) : (x.setGain i v).writes = x.writes := rfl
@[simp] theorem Cell.setGain_d (x : Cell) (i : Nat) (v : GainSlot) : (x.setGain i v).d = x.d := rfl
@[simp] theorem Cell.setGain_acc (x : Cell) (i : Nat) (v : GainSlot) : (x.setGain i v).acc = x.acc := rfl
@[simp] theorem Cell.setGain_ptr (x : Cell) (i : Nat) (v : GainSlot) : (x.setGain i v).ptr = x.ptr := rfl
@[simp] theorem Cell.setGain_base (x : Cell) (i : Nat) (v : GainSlot) : (x.setGain i v).base = x.base := rfl
@[simp] theorem Cell.setGain_len (x : Cell) (i : Nat) (v : GainSlot) : (x.setGain i v).len = x.len := rfl
@[simp] theorem Cell.setGain_step (x : Cell) (i : Nat) (v : GainSlot) : (x.setGain i v).step = x.step := rfl
@[simp] theorem Cell.setGain_lc (x : Cell) (i : Nat) (v : GainSlot) : (x.setGain i v).lc = x.lc := rfl
@[simp] theorem Cell.setGain_ls (x : Cell) (i : Nat) (v : GainSlot) : (x.setGain i v).ls = x.ls := rfl
@[simp] theorem Cell.setGain_le (x : Cell) (i : Nat) (v : GainSlot) : (x.setGain i v).le = x.le := rfl
@[simp] theorem Cell.setGain_sr (x : Cell) (i : Nat) (v : GainSlot) : (x.setGain i v).sr = x.sr := rfl
@[simp] theorem Cell.setGain_mr (x : Cell) (i : Nat) (v : GainSlot) : (x.setGain i v).mr = x.mr := rfl
@[simp] theorem Cell.setGain_pc (x : Cell) (i : Nat) (v : GainSlot) : (x.setGain i v).pc = x.pc := rfl
@[simp] theorem Cell.setGain_leg (x : Cell) (i : Nat) (v : GainSlot) : (x.setGain i v).leg = x.leg := rfl
@[simp] theorem Cell.setGain_ctx (x : Cell) (i : Nat) (v : GainSlot) : (x.setGain i v).ctx = x.ctx := rfl
@[simp] theorem Cell.setGain_second (x : Cell) (i : Nat) (v : GainSlot) : (x.setGain i v).second = x.second := rfl
@[simp] theorem Cell.setGain_legDone (x : Cell) (i : Nat) (v : GainSlot) : (x.setGain i v).legDone = x.legDone := rfl
@[simp] theorem Cell.setGain_bpc (x : Cell) (i : Nat) (v : GainSlot) : (x.setGain i v).bpc = x.bpc := rfl
@[simp] theorem Cell.setGain_bsr (x : Cell) (i : Nat) (v : GainSlot) : (x.setGain i v).bsr = x.bsr := rfl
@[simp] theorem Cell.setGain_bbranch (x : Cell) (i : Nat) (v : GainSlot) : (x.setGain i v).bbranch = x.bbranch := rfl
@[simp] theorem Cell.setGain_bgSaved (x : Cell) (i : Nat) (v : GainSlot) : (x.setGain i v).bgSaved = x.bgSaved := rfl
@[simp] theorem Cell.setGain_bg (x : Cell) (i : Nat) (v : GainSlot) : (x.setGain i v).bg = x.bg := rfl
@[simp] theorem Cell.setGain_bgWrote (x : Cell) (i : Nat) (v : GainSlot) : (x.setGain i v).bgWrote = x.bgWrote := rfl
@[simp] theorem Cell.setGain_pend (x : Cell) (i : Nat) (v : GainSlot) : (x.setGain i v).pend = x.pend := rfl
@[simp] theorem Cell.setGain_branch (x : Cell) (i : Nat) (v : GainSlot) : (x.setGain i v).branch = x.branch := rfl
@[simp] theorem Cell.setGain_slots (x : Cell) (i : Nat) (v : GainSlot) : (x.setGain i v).slots = x.slots := rfl
@[simp] theorem Cell.setGain_moves (x : Cell) (i : Nat) (v : GainSlot) : (x.setGain i v).moves = x.moves := rfl
@[simp] theorem Cell.setGain_streamer (x : Cell) (i : Nat) (v : GainSlot) : (x.setGain i v).streamer = x.streamer := rfl
@[simp] theorem Cell.setGain_fetched (x : Cell) (i : Nat) (v : GainSlot) : (x.setGain i v).fetched = x.fetched := rfl
@[simp] theorem Cell.setGain_fetches (x : Cell) (i : Nat) (v : GainSlot) : (x.setGain i v).fetches = x.fetches := rfl
@[simp] theorem Cell.setGain_pubs (x : Cell) (i : Nat) (v : GainSlot) : (x.setGain i v).pubs = x.pubs := rfl
@[simp] theorem Cell.setGain_subs (x : Cell) (i : Nat) (v : GainSlot) : (x.setGain i v).subs = x.subs := rfl
@[simp] theorem Cell.setGain_sticky (x : Cell) (i : Nat) (v : GainSlot) : (x.setGain i v).sticky = x.sticky := rfl
@[simp] theorem Cell.setGain_fetchFailed (x : Cell) (i : Nat) (v : GainSlot) : (x.setGain i v).fetchFailed = x.fetchFailed := rfl

/-! ## Reads after updates -/

theorem Cell.rd_setD (x : Cell) (i j : Nat) (v : Sample) : (x.setD i v).rd j = if j = i then v else x.rd j := Map.get_put ..
@[simp] theorem Cell.rd_setD_same (x : Cell) (i : Nat) (v : Sample) : (x.setD i v).rd i = v := by simp [Cell.rd_setD]
theorem Cell.ra_setA (x : Cell) (i j : Nat) (v : AccReg) : (x.setA i v).ra j = if j = i then v else x.ra j := Map.get_put ..
@[simp] theorem Cell.ra_setA_same (x : Cell) (i : Nat) (v : AccReg) : (x.setA i v).ra i = v := by simp [Cell.ra_setA]
theorem Cell.p_setP (x : Cell) (i j : Nat) (v : PtrReg) : (x.setP i v).p j = if j = i then v else x.p j := Map.get_put ..
@[simp] theorem Cell.p_setP_same (x : Cell) (i : Nat) (v : PtrReg) : (x.setP i v).p i = v := by simp [Cell.p_setP]
theorem Cell.b_setB (x : Cell) (i j : Nat) (v : PtrReg) : (x.setB i v).b j = if j = i then v else x.b j := Map.get_put ..
@[simp] theorem Cell.b_setB_same (x : Cell) (i : Nat) (v : PtrReg) : (x.setB i v).b i = v := by simp [Cell.b_setB]
theorem Cell.l_setL (x : Cell) (i j : Nat) (v : LenReg) : (x.setL i v).l j = if j = i then v else x.l j := Map.get_put ..
@[simp] theorem Cell.l_setL_same (x : Cell) (i : Nat) (v : LenReg) : (x.setL i v).l i = v := by simp [Cell.l_setL]
theorem Cell.m_setM (x : Cell) (i j : Nat) (v : StepReg) : (x.setM i v).m j = if j = i then v else x.m j := Map.get_put ..
@[simp] theorem Cell.m_setM_same (x : Cell) (i : Nat) (v : StepReg) : (x.setM i v).m i = v := by simp [Cell.m_setM]
theorem Cell.lcN_setLc (x : Cell) (i j : Nat) (v : BitVec 16) : (x.setLc i v).lcN j = if j = i then v else x.lcN j := Map.get_put ..
@[simp] theorem Cell.lcN_setLc_same (x : Cell) (i : Nat) (v : BitVec 16) : (x.setLc i v).lcN i = v := by simp [Cell.lcN_setLc]
theorem Cell.lsN_setLs (x : Cell) (i j : Nat) (v : BitVec 12) : (x.setLs i v).lsN j = if j = i then v else x.lsN j := Map.get_put ..
@[simp] theorem Cell.lsN_setLs_same (x : Cell) (i : Nat) (v : BitVec 12) : (x.setLs i v).lsN i = v := by simp [Cell.lsN_setLs]
theorem Cell.leN_setLe (x : Cell) (i j : Nat) (v : BitVec 12) : (x.setLe i v).leN j = if j = i then v else x.leN j := Map.get_put ..
@[simp] theorem Cell.leN_setLe_same (x : Cell) (i : Nat) (v : BitVec 12) : (x.setLe i v).leN i = v := by simp [Cell.leN_setLe]
theorem Cell.word_setWord (x : Cell) (i j : Nat) (v : Sample) : (x.setWord i v).word j = if j = i then v else x.word j := Map.get_put ..
@[simp] theorem Cell.word_setWord_same (x : Cell) (i : Nat) (v : Sample) : (x.setWord i v).word i = v := by simp [Cell.word_setWord]
theorem Cell.pub_setPub (x : Cell) (i j : Nat) (v : PubSlot) : (x.setPub i v).pub j = if j = i then v else x.pub j := Map.get_put ..
@[simp] theorem Cell.pub_setPub_same (x : Cell) (i : Nat) (v : PubSlot) : (x.setPub i v).pub i = v := by simp [Cell.pub_setPub]
theorem Cell.sub_setSub (x : Cell) (i j : Nat) (v : SubSlot) : (x.setSub i v).sub j = if j = i then v else x.sub j := Map.get_put ..
@[simp] theorem Cell.sub_setSub_same (x : Cell) (i : Nat) (v : SubSlot) : (x.setSub i v).sub i = v := by simp [Cell.sub_setSub]
theorem Cell.gain_setGain (x : Cell) (i j : Nat) (v : GainSlot) : (x.setGain i v).gain j = if j = i then v else x.gain j := Map.get_put ..
@[simp] theorem Cell.gain_setGain_same (x : Cell) (i : Nat) (v : GainSlot) : (x.setGain i v).gain i = v := by simp [Cell.gain_setGain]

/-! ## Results that fall due -/

@[simp] theorem Cell.writeSpec_power (x : Cell) (n : Nat) (v : Word) (p : Bool) : (x.writeSpec n v p).power = x.power := by
  simp [Cell.writeSpec, apply_ite Cell.power]
@[simp] theorem Cell.writeSpec_fresh (x : Cell) (n : Nat) (v : Word) (p : Bool) : (x.writeSpec n v p).fresh = x.fresh := by
  simp [Cell.writeSpec, apply_ite Cell.fresh]
@[simp] theorem Cell.writeSpec_dead (x : Cell) (n : Nat) (v : Word) (p : Bool) : (x.writeSpec n v p).dead = x.dead := by
  simp [Cell.writeSpec, apply_ite Cell.dead]
@[simp] theorem Cell.writeSpec_writes (x : Cell) (n : Nat) (v : Word) (p : Bool) : (x.writeSpec n v p).writes = x.writes := by
  simp [Cell.writeSpec, apply_ite Cell.writes]
@[simp] theorem Cell.writeSpec_pc (x : Cell) (n : Nat) (v : Word) (p : Bool) : (x.writeSpec n v p).pc = x.pc := by
  simp [Cell.writeSpec, apply_ite Cell.pc]
@[simp] theorem Cell.writeSpec_leg (x : Cell) (n : Nat) (v : Word) (p : Bool) : (x.writeSpec n v p).leg = x.leg := by
  simp [Cell.writeSpec, apply_ite Cell.leg]
@[simp] theorem Cell.writeSpec_ctx (x : Cell) (n : Nat) (v : Word) (p : Bool) : (x.writeSpec n v p).ctx = x.ctx := by
  simp [Cell.writeSpec, apply_ite Cell.ctx]
@[simp] theorem Cell.writeSpec_second (x : Cell) (n : Nat) (v : Word) (p : Bool) : (x.writeSpec n v p).second = x.second := by
  simp [Cell.writeSpec, apply_ite Cell.second]
@[simp] theorem Cell.writeSpec_legDone (x : Cell) (n : Nat) (v : Word) (p : Bool) : (x.writeSpec n v p).legDone = x.legDone := by
  simp [Cell.writeSpec, apply_ite Cell.legDone]
@[simp] theorem Cell.writeSpec_bpc (x : Cell) (n : Nat) (v : Word) (p : Bool) : (x.writeSpec n v p).bpc = x.bpc := by
  simp [Cell.writeSpec, apply_ite Cell.bpc]
@[simp] theorem Cell.writeSpec_bsr (x : Cell) (n : Nat) (v : Word) (p : Bool) : (x.writeSpec n v p).bsr = x.bsr := by
  simp [Cell.writeSpec, apply_ite Cell.bsr]
@[simp] theorem Cell.writeSpec_bbranch (x : Cell) (n : Nat) (v : Word) (p : Bool) : (x.writeSpec n v p).bbranch = x.bbranch := by
  simp [Cell.writeSpec, apply_ite Cell.bbranch]
@[simp] theorem Cell.writeSpec_bgSaved (x : Cell) (n : Nat) (v : Word) (p : Bool) : (x.writeSpec n v p).bgSaved = x.bgSaved := by
  simp [Cell.writeSpec, apply_ite Cell.bgSaved]
@[simp] theorem Cell.writeSpec_bg (x : Cell) (n : Nat) (v : Word) (p : Bool) : (x.writeSpec n v p).bg = x.bg := by
  simp [Cell.writeSpec, apply_ite Cell.bg]
@[simp] theorem Cell.writeSpec_bgWrote (x : Cell) (n : Nat) (v : Word) (p : Bool) : (x.writeSpec n v p).bgWrote = x.bgWrote := by
  simp [Cell.writeSpec, apply_ite Cell.bgWrote]
@[simp] theorem Cell.writeSpec_pend (x : Cell) (n : Nat) (v : Word) (p : Bool) : (x.writeSpec n v p).pend = x.pend := by
  simp [Cell.writeSpec, apply_ite Cell.pend]
@[simp] theorem Cell.writeSpec_branch (x : Cell) (n : Nat) (v : Word) (p : Bool) : (x.writeSpec n v p).branch = x.branch := by
  simp [Cell.writeSpec, apply_ite Cell.branch]
@[simp] theorem Cell.writeSpec_slots (x : Cell) (n : Nat) (v : Word) (p : Bool) : (x.writeSpec n v p).slots = x.slots := by
  simp [Cell.writeSpec, apply_ite Cell.slots]
@[simp] theorem Cell.writeSpec_moves (x : Cell) (n : Nat) (v : Word) (p : Bool) : (x.writeSpec n v p).moves = x.moves := by
  simp [Cell.writeSpec, apply_ite Cell.moves]
@[simp] theorem Cell.writeSpec_streamer (x : Cell) (n : Nat) (v : Word) (p : Bool) : (x.writeSpec n v p).streamer = x.streamer := by
  simp [Cell.writeSpec, apply_ite Cell.streamer]
@[simp] theorem Cell.writeSpec_fetched (x : Cell) (n : Nat) (v : Word) (p : Bool) : (x.writeSpec n v p).fetched = x.fetched := by
  simp [Cell.writeSpec, apply_ite Cell.fetched]
@[simp] theorem Cell.writeSpec_fetches (x : Cell) (n : Nat) (v : Word) (p : Bool) : (x.writeSpec n v p).fetches = x.fetches := by
  simp [Cell.writeSpec, apply_ite Cell.fetches]
@[simp] theorem Cell.writeSpec_pubs (x : Cell) (n : Nat) (v : Word) (p : Bool) : (x.writeSpec n v p).pubs = x.pubs := by
  simp [Cell.writeSpec, apply_ite Cell.pubs]
@[simp] theorem Cell.writeSpec_subs (x : Cell) (n : Nat) (v : Word) (p : Bool) : (x.writeSpec n v p).subs = x.subs := by
  simp [Cell.writeSpec, apply_ite Cell.subs]
@[simp] theorem Cell.writeSpec_gains (x : Cell) (n : Nat) (v : Word) (p : Bool) : (x.writeSpec n v p).gains = x.gains := by
  simp [Cell.writeSpec, apply_ite Cell.gains]
@[simp] theorem Cell.writeSpec_sticky (x : Cell) (n : Nat) (v : Word) (p : Bool) : (x.writeSpec n v p).sticky = x.sticky := by
  simp [Cell.writeSpec, apply_ite Cell.sticky]
@[simp] theorem Cell.writeSpec_fetchFailed (x : Cell) (n : Nat) (v : Word) (p : Bool) : (x.writeSpec n v p).fetchFailed = x.fetchFailed := by
  simp [Cell.writeSpec, apply_ite Cell.fetchFailed]
@[simp] theorem Cell.writeSpec_d (x : Cell) (n : Nat) (v : Word) (p : Bool) : (x.writeSpec n v p).d = x.d := by
  simp [Cell.writeSpec, apply_ite Cell.d]
@[simp] theorem Cell.writeSpec_acc (x : Cell) (n : Nat) (v : Word) (p : Bool) : (x.writeSpec n v p).acc = x.acc := by
  simp [Cell.writeSpec, apply_ite Cell.acc]
@[simp] theorem Cell.land_power (x : Cell) (r : Pend) : (x.land r).power = x.power := by
  unfold Cell.land; split <;> simp
@[simp] theorem Cell.land_fresh (x : Cell) (r : Pend) : (x.land r).fresh = x.fresh := by
  unfold Cell.land; split <;> simp
@[simp] theorem Cell.land_dead (x : Cell) (r : Pend) : (x.land r).dead = x.dead := by
  unfold Cell.land; split <;> simp
@[simp] theorem Cell.land_writes (x : Cell) (r : Pend) : (x.land r).writes = x.writes := by
  unfold Cell.land; split <;> simp
@[simp] theorem Cell.land_pc (x : Cell) (r : Pend) : (x.land r).pc = x.pc := by
  unfold Cell.land; split <;> simp
@[simp] theorem Cell.land_leg (x : Cell) (r : Pend) : (x.land r).leg = x.leg := by
  unfold Cell.land; split <;> simp
@[simp] theorem Cell.land_ctx (x : Cell) (r : Pend) : (x.land r).ctx = x.ctx := by
  unfold Cell.land; split <;> simp
@[simp] theorem Cell.land_second (x : Cell) (r : Pend) : (x.land r).second = x.second := by
  unfold Cell.land; split <;> simp
@[simp] theorem Cell.land_legDone (x : Cell) (r : Pend) : (x.land r).legDone = x.legDone := by
  unfold Cell.land; split <;> simp
@[simp] theorem Cell.land_bpc (x : Cell) (r : Pend) : (x.land r).bpc = x.bpc := by
  unfold Cell.land; split <;> simp
@[simp] theorem Cell.land_bsr (x : Cell) (r : Pend) : (x.land r).bsr = x.bsr := by
  unfold Cell.land; split <;> simp
@[simp] theorem Cell.land_bbranch (x : Cell) (r : Pend) : (x.land r).bbranch = x.bbranch := by
  unfold Cell.land; split <;> simp
@[simp] theorem Cell.land_bgSaved (x : Cell) (r : Pend) : (x.land r).bgSaved = x.bgSaved := by
  unfold Cell.land; split <;> simp
@[simp] theorem Cell.land_bg (x : Cell) (r : Pend) : (x.land r).bg = x.bg := by
  unfold Cell.land; split <;> simp
@[simp] theorem Cell.land_bgWrote (x : Cell) (r : Pend) : (x.land r).bgWrote = x.bgWrote := by
  unfold Cell.land; split <;> simp
@[simp] theorem Cell.land_pend (x : Cell) (r : Pend) : (x.land r).pend = x.pend := by
  unfold Cell.land; split <;> simp
@[simp] theorem Cell.land_branch (x : Cell) (r : Pend) : (x.land r).branch = x.branch := by
  unfold Cell.land; split <;> simp
@[simp] theorem Cell.land_slots (x : Cell) (r : Pend) : (x.land r).slots = x.slots := by
  unfold Cell.land; split <;> simp
@[simp] theorem Cell.land_moves (x : Cell) (r : Pend) : (x.land r).moves = x.moves := by
  unfold Cell.land; split <;> simp
@[simp] theorem Cell.land_streamer (x : Cell) (r : Pend) : (x.land r).streamer = x.streamer := by
  unfold Cell.land; split <;> simp
@[simp] theorem Cell.land_fetched (x : Cell) (r : Pend) : (x.land r).fetched = x.fetched := by
  unfold Cell.land; split <;> simp
@[simp] theorem Cell.land_fetches (x : Cell) (r : Pend) : (x.land r).fetches = x.fetches := by
  unfold Cell.land; split <;> simp
@[simp] theorem Cell.land_pubs (x : Cell) (r : Pend) : (x.land r).pubs = x.pubs := by
  unfold Cell.land; split <;> simp
@[simp] theorem Cell.land_subs (x : Cell) (r : Pend) : (x.land r).subs = x.subs := by
  unfold Cell.land; split <;> simp
@[simp] theorem Cell.land_gains (x : Cell) (r : Pend) : (x.land r).gains = x.gains := by
  unfold Cell.land; split <;> simp
@[simp] theorem Cell.land_sticky (x : Cell) (r : Pend) : (x.land r).sticky = x.sticky := by
  unfold Cell.land; split <;> simp
@[simp] theorem Cell.land_fetchFailed (x : Cell) (r : Pend) : (x.land r).fetchFailed = x.fetchFailed := by
  unfold Cell.land; split <;> simp
@[simp] theorem Cell.landAll_power (x : Cell) (l : List Pend) : (x.landAll l).power = x.power := by
  induction l generalizing x with
  | nil => rfl
  | cons r l ih => simp [Cell.landAll, ih]
@[simp] theorem Cell.landAll_fresh (x : Cell) (l : List Pend) : (x.landAll l).fresh = x.fresh := by
  induction l generalizing x with
  | nil => rfl
  | cons r l ih => simp [Cell.landAll, ih]
@[simp] theorem Cell.landAll_dead (x : Cell) (l : List Pend) : (x.landAll l).dead = x.dead := by
  induction l generalizing x with
  | nil => rfl
  | cons r l ih => simp [Cell.landAll, ih]
@[simp] theorem Cell.landAll_writes (x : Cell) (l : List Pend) : (x.landAll l).writes = x.writes := by
  induction l generalizing x with
  | nil => rfl
  | cons r l ih => simp [Cell.landAll, ih]
@[simp] theorem Cell.landAll_pc (x : Cell) (l : List Pend) : (x.landAll l).pc = x.pc := by
  induction l generalizing x with
  | nil => rfl
  | cons r l ih => simp [Cell.landAll, ih]
@[simp] theorem Cell.landAll_leg (x : Cell) (l : List Pend) : (x.landAll l).leg = x.leg := by
  induction l generalizing x with
  | nil => rfl
  | cons r l ih => simp [Cell.landAll, ih]
@[simp] theorem Cell.landAll_ctx (x : Cell) (l : List Pend) : (x.landAll l).ctx = x.ctx := by
  induction l generalizing x with
  | nil => rfl
  | cons r l ih => simp [Cell.landAll, ih]
@[simp] theorem Cell.landAll_second (x : Cell) (l : List Pend) : (x.landAll l).second = x.second := by
  induction l generalizing x with
  | nil => rfl
  | cons r l ih => simp [Cell.landAll, ih]
@[simp] theorem Cell.landAll_legDone (x : Cell) (l : List Pend) : (x.landAll l).legDone = x.legDone := by
  induction l generalizing x with
  | nil => rfl
  | cons r l ih => simp [Cell.landAll, ih]
@[simp] theorem Cell.landAll_bpc (x : Cell) (l : List Pend) : (x.landAll l).bpc = x.bpc := by
  induction l generalizing x with
  | nil => rfl
  | cons r l ih => simp [Cell.landAll, ih]
@[simp] theorem Cell.landAll_bsr (x : Cell) (l : List Pend) : (x.landAll l).bsr = x.bsr := by
  induction l generalizing x with
  | nil => rfl
  | cons r l ih => simp [Cell.landAll, ih]
@[simp] theorem Cell.landAll_bbranch (x : Cell) (l : List Pend) : (x.landAll l).bbranch = x.bbranch := by
  induction l generalizing x with
  | nil => rfl
  | cons r l ih => simp [Cell.landAll, ih]
@[simp] theorem Cell.landAll_bgSaved (x : Cell) (l : List Pend) : (x.landAll l).bgSaved = x.bgSaved := by
  induction l generalizing x with
  | nil => rfl
  | cons r l ih => simp [Cell.landAll, ih]
@[simp] theorem Cell.landAll_bg (x : Cell) (l : List Pend) : (x.landAll l).bg = x.bg := by
  induction l generalizing x with
  | nil => rfl
  | cons r l ih => simp [Cell.landAll, ih]
@[simp] theorem Cell.landAll_bgWrote (x : Cell) (l : List Pend) : (x.landAll l).bgWrote = x.bgWrote := by
  induction l generalizing x with
  | nil => rfl
  | cons r l ih => simp [Cell.landAll, ih]
@[simp] theorem Cell.landAll_pend (x : Cell) (l : List Pend) : (x.landAll l).pend = x.pend := by
  induction l generalizing x with
  | nil => rfl
  | cons r l ih => simp [Cell.landAll, ih]
@[simp] theorem Cell.landAll_branch (x : Cell) (l : List Pend) : (x.landAll l).branch = x.branch := by
  induction l generalizing x with
  | nil => rfl
  | cons r l ih => simp [Cell.landAll, ih]
@[simp] theorem Cell.landAll_slots (x : Cell) (l : List Pend) : (x.landAll l).slots = x.slots := by
  induction l generalizing x with
  | nil => rfl
  | cons r l ih => simp [Cell.landAll, ih]
@[simp] theorem Cell.landAll_moves (x : Cell) (l : List Pend) : (x.landAll l).moves = x.moves := by
  induction l generalizing x with
  | nil => rfl
  | cons r l ih => simp [Cell.landAll, ih]
@[simp] theorem Cell.landAll_streamer (x : Cell) (l : List Pend) : (x.landAll l).streamer = x.streamer := by
  induction l generalizing x with
  | nil => rfl
  | cons r l ih => simp [Cell.landAll, ih]
@[simp] theorem Cell.landAll_fetched (x : Cell) (l : List Pend) : (x.landAll l).fetched = x.fetched := by
  induction l generalizing x with
  | nil => rfl
  | cons r l ih => simp [Cell.landAll, ih]
@[simp] theorem Cell.landAll_fetches (x : Cell) (l : List Pend) : (x.landAll l).fetches = x.fetches := by
  induction l generalizing x with
  | nil => rfl
  | cons r l ih => simp [Cell.landAll, ih]
@[simp] theorem Cell.landAll_pubs (x : Cell) (l : List Pend) : (x.landAll l).pubs = x.pubs := by
  induction l generalizing x with
  | nil => rfl
  | cons r l ih => simp [Cell.landAll, ih]
@[simp] theorem Cell.landAll_subs (x : Cell) (l : List Pend) : (x.landAll l).subs = x.subs := by
  induction l generalizing x with
  | nil => rfl
  | cons r l ih => simp [Cell.landAll, ih]
@[simp] theorem Cell.landAll_gains (x : Cell) (l : List Pend) : (x.landAll l).gains = x.gains := by
  induction l generalizing x with
  | nil => rfl
  | cons r l ih => simp [Cell.landAll, ih]
@[simp] theorem Cell.landAll_sticky (x : Cell) (l : List Pend) : (x.landAll l).sticky = x.sticky := by
  induction l generalizing x with
  | nil => rfl
  | cons r l ih => simp [Cell.landAll, ih]
@[simp] theorem Cell.landAll_fetchFailed (x : Cell) (l : List Pend) : (x.landAll l).fetchFailed = x.fetchFailed := by
  induction l generalizing x with
  | nil => rfl
  | cons r l ih => simp [Cell.landAll, ih]
@[simp] theorem Cell.age_power (x : Cell)  : (x.age).power = x.power := by
  simp [Cell.age]
@[simp] theorem Cell.age_fresh (x : Cell)  : (x.age).fresh = x.fresh := by
  simp [Cell.age]
@[simp] theorem Cell.age_dead (x : Cell)  : (x.age).dead = x.dead := by
  simp [Cell.age]
@[simp] theorem Cell.age_writes (x : Cell)  : (x.age).writes = x.writes := by
  simp [Cell.age]
@[simp] theorem Cell.age_pc (x : Cell)  : (x.age).pc = x.pc := by
  simp [Cell.age]
@[simp] theorem Cell.age_leg (x : Cell)  : (x.age).leg = x.leg := by
  simp [Cell.age]
@[simp] theorem Cell.age_ctx (x : Cell)  : (x.age).ctx = x.ctx := by
  simp [Cell.age]
@[simp] theorem Cell.age_second (x : Cell)  : (x.age).second = x.second := by
  simp [Cell.age]
@[simp] theorem Cell.age_legDone (x : Cell)  : (x.age).legDone = x.legDone := by
  simp [Cell.age]
@[simp] theorem Cell.age_bpc (x : Cell)  : (x.age).bpc = x.bpc := by
  simp [Cell.age]
@[simp] theorem Cell.age_bsr (x : Cell)  : (x.age).bsr = x.bsr := by
  simp [Cell.age]
@[simp] theorem Cell.age_bbranch (x : Cell)  : (x.age).bbranch = x.bbranch := by
  simp [Cell.age]
@[simp] theorem Cell.age_bgSaved (x : Cell)  : (x.age).bgSaved = x.bgSaved := by
  simp [Cell.age]
@[simp] theorem Cell.age_bg (x : Cell)  : (x.age).bg = x.bg := by
  simp [Cell.age]
@[simp] theorem Cell.age_bgWrote (x : Cell)  : (x.age).bgWrote = x.bgWrote := by
  simp [Cell.age]
@[simp] theorem Cell.age_branch (x : Cell)  : (x.age).branch = x.branch := by
  simp [Cell.age]
@[simp] theorem Cell.age_slots (x : Cell)  : (x.age).slots = x.slots := by
  simp [Cell.age]
@[simp] theorem Cell.age_moves (x : Cell)  : (x.age).moves = x.moves := by
  simp [Cell.age]
@[simp] theorem Cell.age_streamer (x : Cell)  : (x.age).streamer = x.streamer := by
  simp [Cell.age]
@[simp] theorem Cell.age_fetched (x : Cell)  : (x.age).fetched = x.fetched := by
  simp [Cell.age]
@[simp] theorem Cell.age_fetches (x : Cell)  : (x.age).fetches = x.fetches := by
  simp [Cell.age]
@[simp] theorem Cell.age_pubs (x : Cell)  : (x.age).pubs = x.pubs := by
  simp [Cell.age]
@[simp] theorem Cell.age_subs (x : Cell)  : (x.age).subs = x.subs := by
  simp [Cell.age]
@[simp] theorem Cell.age_gains (x : Cell)  : (x.age).gains = x.gains := by
  simp [Cell.age]
@[simp] theorem Cell.age_sticky (x : Cell)  : (x.age).sticky = x.sticky := by
  simp [Cell.age]
@[simp] theorem Cell.age_fetchFailed (x : Cell)  : (x.age).fetchFailed = x.fetchFailed := by
  simp [Cell.age]
@[simp] theorem Cell.flush_power (x : Cell)  : (x.flush).power = x.power := by
  simp [Cell.flush]
@[simp] theorem Cell.flush_fresh (x : Cell)  : (x.flush).fresh = x.fresh := by
  simp [Cell.flush]
@[simp] theorem Cell.flush_dead (x : Cell)  : (x.flush).dead = x.dead := by
  simp [Cell.flush]
@[simp] theorem Cell.flush_writes (x : Cell)  : (x.flush).writes = x.writes := by
  simp [Cell.flush]
@[simp] theorem Cell.flush_pc (x : Cell)  : (x.flush).pc = x.pc := by
  simp [Cell.flush]
@[simp] theorem Cell.flush_leg (x : Cell)  : (x.flush).leg = x.leg := by
  simp [Cell.flush]
@[simp] theorem Cell.flush_ctx (x : Cell)  : (x.flush).ctx = x.ctx := by
  simp [Cell.flush]
@[simp] theorem Cell.flush_second (x : Cell)  : (x.flush).second = x.second := by
  simp [Cell.flush]
@[simp] theorem Cell.flush_legDone (x : Cell)  : (x.flush).legDone = x.legDone := by
  simp [Cell.flush]
@[simp] theorem Cell.flush_bpc (x : Cell)  : (x.flush).bpc = x.bpc := by
  simp [Cell.flush]
@[simp] theorem Cell.flush_bsr (x : Cell)  : (x.flush).bsr = x.bsr := by
  simp [Cell.flush]
@[simp] theorem Cell.flush_bbranch (x : Cell)  : (x.flush).bbranch = x.bbranch := by
  simp [Cell.flush]
@[simp] theorem Cell.flush_bgSaved (x : Cell)  : (x.flush).bgSaved = x.bgSaved := by
  simp [Cell.flush]
@[simp] theorem Cell.flush_bg (x : Cell)  : (x.flush).bg = x.bg := by
  simp [Cell.flush]
@[simp] theorem Cell.flush_bgWrote (x : Cell)  : (x.flush).bgWrote = x.bgWrote := by
  simp [Cell.flush]
@[simp] theorem Cell.flush_branch (x : Cell)  : (x.flush).branch = x.branch := by
  simp [Cell.flush]
@[simp] theorem Cell.flush_slots (x : Cell)  : (x.flush).slots = x.slots := by
  simp [Cell.flush]
@[simp] theorem Cell.flush_moves (x : Cell)  : (x.flush).moves = x.moves := by
  simp [Cell.flush]
@[simp] theorem Cell.flush_streamer (x : Cell)  : (x.flush).streamer = x.streamer := by
  simp [Cell.flush]
@[simp] theorem Cell.flush_fetched (x : Cell)  : (x.flush).fetched = x.fetched := by
  simp [Cell.flush]
@[simp] theorem Cell.flush_fetches (x : Cell)  : (x.flush).fetches = x.fetches := by
  simp [Cell.flush]
@[simp] theorem Cell.flush_pubs (x : Cell)  : (x.flush).pubs = x.pubs := by
  simp [Cell.flush]
@[simp] theorem Cell.flush_subs (x : Cell)  : (x.flush).subs = x.subs := by
  simp [Cell.flush]
@[simp] theorem Cell.flush_gains (x : Cell)  : (x.flush).gains = x.gains := by
  simp [Cell.flush]
@[simp] theorem Cell.flush_sticky (x : Cell)  : (x.flush).sticky = x.sticky := by
  simp [Cell.flush]
@[simp] theorem Cell.flush_fetchFailed (x : Cell)  : (x.flush).fetchFailed = x.fetchFailed := by
  simp [Cell.flush]
@[simp] theorem Cell.flush_pend (x : Cell) : x.flush.pend = [] := by
  simp [Cell.flush]
theorem Cell.age_pend (x : Cell) :
    x.age.pend = (x.pend.filter (fun r => decide (1 < r.left))).map (fun r => { r with left := r.left - 1 }) := by
  simp [Cell.age]
theorem Cell.landAll_append (x : Cell) (l k : List Pend) : x.landAll (l ++ k) = (x.landAll l).landAll k := by
  induction l generalizing x with
  | nil => rfl
  | cons r l ih => simp [Cell.landAll, ih]

/-! ## Fetching -/

@[simp] theorem Cell.want_power (x : Cell) (t : Nat) : (x.want t).power = x.power := by
  unfold Cell.want
  simp only []
  split
  · rfl
  · split <;> rfl
@[simp] theorem Cell.want_fresh (x : Cell) (t : Nat) : (x.want t).fresh = x.fresh := by
  unfold Cell.want
  simp only []
  split
  · rfl
  · split <;> rfl
@[simp] theorem Cell.want_dead (x : Cell) (t : Nat) : (x.want t).dead = x.dead := by
  unfold Cell.want
  simp only []
  split
  · rfl
  · split <;> rfl
@[simp] theorem Cell.want_writes (x : Cell) (t : Nat) : (x.want t).writes = x.writes := by
  unfold Cell.want
  simp only []
  split
  · rfl
  · split <;> rfl
@[simp] theorem Cell.want_d (x : Cell) (t : Nat) : (x.want t).d = x.d := by
  unfold Cell.want
  simp only []
  split
  · rfl
  · split <;> rfl
@[simp] theorem Cell.want_acc (x : Cell) (t : Nat) : (x.want t).acc = x.acc := by
  unfold Cell.want
  simp only []
  split
  · rfl
  · split <;> rfl
@[simp] theorem Cell.want_ptr (x : Cell) (t : Nat) : (x.want t).ptr = x.ptr := by
  unfold Cell.want
  simp only []
  split
  · rfl
  · split <;> rfl
@[simp] theorem Cell.want_base (x : Cell) (t : Nat) : (x.want t).base = x.base := by
  unfold Cell.want
  simp only []
  split
  · rfl
  · split <;> rfl
@[simp] theorem Cell.want_len (x : Cell) (t : Nat) : (x.want t).len = x.len := by
  unfold Cell.want
  simp only []
  split
  · rfl
  · split <;> rfl
@[simp] theorem Cell.want_step (x : Cell) (t : Nat) : (x.want t).step = x.step := by
  unfold Cell.want
  simp only []
  split
  · rfl
  · split <;> rfl
@[simp] theorem Cell.want_lc (x : Cell) (t : Nat) : (x.want t).lc = x.lc := by
  unfold Cell.want
  simp only []
  split
  · rfl
  · split <;> rfl
@[simp] theorem Cell.want_ls (x : Cell) (t : Nat) : (x.want t).ls = x.ls := by
  unfold Cell.want
  simp only []
  split
  · rfl
  · split <;> rfl
@[simp] theorem Cell.want_le (x : Cell) (t : Nat) : (x.want t).le = x.le := by
  unfold Cell.want
  simp only []
  split
  · rfl
  · split <;> rfl
@[simp] theorem Cell.want_sr (x : Cell) (t : Nat) : (x.want t).sr = x.sr := by
  unfold Cell.want
  simp only []
  split
  · rfl
  · split <;> rfl
@[simp] theorem Cell.want_mr (x : Cell) (t : Nat) : (x.want t).mr = x.mr := by
  unfold Cell.want
  simp only []
  split
  · rfl
  · split <;> rfl
@[simp] theorem Cell.want_pc (x : Cell) (t : Nat) : (x.want t).pc = x.pc := by
  unfold Cell.want
  simp only []
  split
  · rfl
  · split <;> rfl
@[simp] theorem Cell.want_leg (x : Cell) (t : Nat) : (x.want t).leg = x.leg := by
  unfold Cell.want
  simp only []
  split
  · rfl
  · split <;> rfl
@[simp] theorem Cell.want_ctx (x : Cell) (t : Nat) : (x.want t).ctx = x.ctx := by
  unfold Cell.want
  simp only []
  split
  · rfl
  · split <;> rfl
@[simp] theorem Cell.want_second (x : Cell) (t : Nat) : (x.want t).second = x.second := by
  unfold Cell.want
  simp only []
  split
  · rfl
  · split <;> rfl
@[simp] theorem Cell.want_legDone (x : Cell) (t : Nat) : (x.want t).legDone = x.legDone := by
  unfold Cell.want
  simp only []
  split
  · rfl
  · split <;> rfl
@[simp] theorem Cell.want_bpc (x : Cell) (t : Nat) : (x.want t).bpc = x.bpc := by
  unfold Cell.want
  simp only []
  split
  · rfl
  · split <;> rfl
@[simp] theorem Cell.want_bsr (x : Cell) (t : Nat) : (x.want t).bsr = x.bsr := by
  unfold Cell.want
  simp only []
  split
  · rfl
  · split <;> rfl
@[simp] theorem Cell.want_bbranch (x : Cell) (t : Nat) : (x.want t).bbranch = x.bbranch := by
  unfold Cell.want
  simp only []
  split
  · rfl
  · split <;> rfl
@[simp] theorem Cell.want_bgSaved (x : Cell) (t : Nat) : (x.want t).bgSaved = x.bgSaved := by
  unfold Cell.want
  simp only []
  split
  · rfl
  · split <;> rfl
@[simp] theorem Cell.want_bg (x : Cell) (t : Nat) : (x.want t).bg = x.bg := by
  unfold Cell.want
  simp only []
  split
  · rfl
  · split <;> rfl
@[simp] theorem Cell.want_bgWrote (x : Cell) (t : Nat) : (x.want t).bgWrote = x.bgWrote := by
  unfold Cell.want
  simp only []
  split
  · rfl
  · split <;> rfl
@[simp] theorem Cell.want_pend (x : Cell) (t : Nat) : (x.want t).pend = x.pend := by
  unfold Cell.want
  simp only []
  split
  · rfl
  · split <;> rfl
@[simp] theorem Cell.want_branch (x : Cell) (t : Nat) : (x.want t).branch = x.branch := by
  unfold Cell.want
  simp only []
  split
  · rfl
  · split <;> rfl
@[simp] theorem Cell.want_slots (x : Cell) (t : Nat) : (x.want t).slots = x.slots := by
  unfold Cell.want
  simp only []
  split
  · rfl
  · split <;> rfl
@[simp] theorem Cell.want_moves (x : Cell) (t : Nat) : (x.want t).moves = x.moves := by
  unfold Cell.want
  simp only []
  split
  · rfl
  · split <;> rfl
@[simp] theorem Cell.want_streamer (x : Cell) (t : Nat) : (x.want t).streamer = x.streamer := by
  unfold Cell.want
  simp only []
  split
  · rfl
  · split <;> rfl
@[simp] theorem Cell.want_fetched (x : Cell) (t : Nat) : (x.want t).fetched = x.fetched := by
  unfold Cell.want
  simp only []
  split
  · rfl
  · split <;> rfl
@[simp] theorem Cell.want_pubs (x : Cell) (t : Nat) : (x.want t).pubs = x.pubs := by
  unfold Cell.want
  simp only []
  split
  · rfl
  · split <;> rfl
@[simp] theorem Cell.want_subs (x : Cell) (t : Nat) : (x.want t).subs = x.subs := by
  unfold Cell.want
  simp only []
  split
  · rfl
  · split <;> rfl
@[simp] theorem Cell.want_gains (x : Cell) (t : Nat) : (x.want t).gains = x.gains := by
  unfold Cell.want
  simp only []
  split
  · rfl
  · split <;> rfl
@[simp] theorem Cell.want_sticky (x : Cell) (t : Nat) : (x.want t).sticky = x.sticky := by
  unfold Cell.want
  simp only []
  split
  · rfl
  · split <;> rfl
@[simp] theorem Cell.want_fetchFailed (x : Cell) (t : Nat) : (x.want t).fetchFailed = x.fetchFailed := by
  unfold Cell.want
  simp only []
  split
  · rfl
  · split <;> rfl
@[simp] theorem Cell.enter_power (x : Cell)  : (x.enter).power = x.power := by
  unfold Cell.enter; simp only []; split <;> simp
@[simp] theorem Cell.enter_fresh (x : Cell)  : (x.enter).fresh = x.fresh := by
  unfold Cell.enter; simp only []; split <;> simp
@[simp] theorem Cell.enter_dead (x : Cell)  : (x.enter).dead = x.dead := by
  unfold Cell.enter; simp only []; split <;> simp
@[simp] theorem Cell.enter_writes (x : Cell)  : (x.enter).writes = x.writes := by
  unfold Cell.enter; simp only []; split <;> simp
@[simp] theorem Cell.enter_d (x : Cell)  : (x.enter).d = x.d := by
  unfold Cell.enter; simp only []; split <;> simp
@[simp] theorem Cell.enter_acc (x : Cell)  : (x.enter).acc = x.acc := by
  unfold Cell.enter; simp only []; split <;> simp
@[simp] theorem Cell.enter_ptr (x : Cell)  : (x.enter).ptr = x.ptr := by
  unfold Cell.enter; simp only []; split <;> simp
@[simp] theorem Cell.enter_base (x : Cell)  : (x.enter).base = x.base := by
  unfold Cell.enter; simp only []; split <;> simp
@[simp] theorem Cell.enter_len (x : Cell)  : (x.enter).len = x.len := by
  unfold Cell.enter; simp only []; split <;> simp
@[simp] theorem Cell.enter_step (x : Cell)  : (x.enter).step = x.step := by
  unfold Cell.enter; simp only []; split <;> simp
@[simp] theorem Cell.enter_lc (x : Cell)  : (x.enter).lc = x.lc := by
  unfold Cell.enter; simp only []; split <;> simp
@[simp] theorem Cell.enter_ls (x : Cell)  : (x.enter).ls = x.ls := by
  unfold Cell.enter; simp only []; split <;> simp
@[simp] theorem Cell.enter_le (x : Cell)  : (x.enter).le = x.le := by
  unfold Cell.enter; simp only []; split <;> simp
@[simp] theorem Cell.enter_sr (x : Cell)  : (x.enter).sr = x.sr := by
  unfold Cell.enter; simp only []; split <;> simp
@[simp] theorem Cell.enter_mr (x : Cell)  : (x.enter).mr = x.mr := by
  unfold Cell.enter; simp only []; split <;> simp
@[simp] theorem Cell.enter_pc (x : Cell)  : (x.enter).pc = x.pc := by
  unfold Cell.enter; simp only []; split <;> simp
@[simp] theorem Cell.enter_leg (x : Cell)  : (x.enter).leg = x.leg := by
  unfold Cell.enter; simp only []; split <;> simp
@[simp] theorem Cell.enter_ctx (x : Cell)  : (x.enter).ctx = x.ctx := by
  unfold Cell.enter; simp only []; split <;> simp
@[simp] theorem Cell.enter_second (x : Cell)  : (x.enter).second = x.second := by
  unfold Cell.enter; simp only []; split <;> simp
@[simp] theorem Cell.enter_legDone (x : Cell)  : (x.enter).legDone = x.legDone := by
  unfold Cell.enter; simp only []; split <;> simp
@[simp] theorem Cell.enter_bpc (x : Cell)  : (x.enter).bpc = x.bpc := by
  unfold Cell.enter; simp only []; split <;> simp
@[simp] theorem Cell.enter_bsr (x : Cell)  : (x.enter).bsr = x.bsr := by
  unfold Cell.enter; simp only []; split <;> simp
@[simp] theorem Cell.enter_bbranch (x : Cell)  : (x.enter).bbranch = x.bbranch := by
  unfold Cell.enter; simp only []; split <;> simp
@[simp] theorem Cell.enter_bgSaved (x : Cell)  : (x.enter).bgSaved = x.bgSaved := by
  unfold Cell.enter; simp only []; split <;> simp
@[simp] theorem Cell.enter_bg (x : Cell)  : (x.enter).bg = x.bg := by
  unfold Cell.enter; simp only []; split <;> simp
@[simp] theorem Cell.enter_bgWrote (x : Cell)  : (x.enter).bgWrote = x.bgWrote := by
  unfold Cell.enter; simp only []; split <;> simp
@[simp] theorem Cell.enter_pend (x : Cell)  : (x.enter).pend = x.pend := by
  unfold Cell.enter; simp only []; split <;> simp
@[simp] theorem Cell.enter_branch (x : Cell)  : (x.enter).branch = x.branch := by
  unfold Cell.enter; simp only []; split <;> simp
@[simp] theorem Cell.enter_slots (x : Cell)  : (x.enter).slots = x.slots := by
  unfold Cell.enter; simp only []; split <;> simp
@[simp] theorem Cell.enter_moves (x : Cell)  : (x.enter).moves = x.moves := by
  unfold Cell.enter; simp only []; split <;> simp
@[simp] theorem Cell.enter_streamer (x : Cell)  : (x.enter).streamer = x.streamer := by
  unfold Cell.enter; simp only []; split <;> simp
@[simp] theorem Cell.enter_pubs (x : Cell)  : (x.enter).pubs = x.pubs := by
  unfold Cell.enter; simp only []; split <;> simp
@[simp] theorem Cell.enter_subs (x : Cell)  : (x.enter).subs = x.subs := by
  unfold Cell.enter; simp only []; split <;> simp
@[simp] theorem Cell.enter_gains (x : Cell)  : (x.enter).gains = x.gains := by
  unfold Cell.enter; simp only []; split <;> simp
@[simp] theorem Cell.enter_sticky (x : Cell)  : (x.enter).sticky = x.sticky := by
  unfold Cell.enter; simp only []; split <;> simp
@[simp] theorem Cell.enter_fetchFailed (x : Cell)  : (x.enter).fetchFailed = x.fetchFailed := by
  unfold Cell.enter; simp only []; split <;> simp
@[simp] theorem Cell.move_power (x : Cell) (i : BitVec 12) : (x.move i).power = x.power := by
  unfold Cell.move; split <;> simp
@[simp] theorem Cell.move_fresh (x : Cell) (i : BitVec 12) : (x.move i).fresh = x.fresh := by
  unfold Cell.move; split <;> simp
@[simp] theorem Cell.move_dead (x : Cell) (i : BitVec 12) : (x.move i).dead = x.dead := by
  unfold Cell.move; split <;> simp
@[simp] theorem Cell.move_writes (x : Cell) (i : BitVec 12) : (x.move i).writes = x.writes := by
  unfold Cell.move; split <;> simp
@[simp] theorem Cell.move_d (x : Cell) (i : BitVec 12) : (x.move i).d = x.d := by
  unfold Cell.move; split <;> simp
@[simp] theorem Cell.move_acc (x : Cell) (i : BitVec 12) : (x.move i).acc = x.acc := by
  unfold Cell.move; split <;> simp
@[simp] theorem Cell.move_ptr (x : Cell) (i : BitVec 12) : (x.move i).ptr = x.ptr := by
  unfold Cell.move; split <;> simp
@[simp] theorem Cell.move_base (x : Cell) (i : BitVec 12) : (x.move i).base = x.base := by
  unfold Cell.move; split <;> simp
@[simp] theorem Cell.move_len (x : Cell) (i : BitVec 12) : (x.move i).len = x.len := by
  unfold Cell.move; split <;> simp
@[simp] theorem Cell.move_step (x : Cell) (i : BitVec 12) : (x.move i).step = x.step := by
  unfold Cell.move; split <;> simp
@[simp] theorem Cell.move_lc (x : Cell) (i : BitVec 12) : (x.move i).lc = x.lc := by
  unfold Cell.move; split <;> simp
@[simp] theorem Cell.move_ls (x : Cell) (i : BitVec 12) : (x.move i).ls = x.ls := by
  unfold Cell.move; split <;> simp
@[simp] theorem Cell.move_le (x : Cell) (i : BitVec 12) : (x.move i).le = x.le := by
  unfold Cell.move; split <;> simp
@[simp] theorem Cell.move_sr (x : Cell) (i : BitVec 12) : (x.move i).sr = x.sr := by
  unfold Cell.move; split <;> simp
@[simp] theorem Cell.move_mr (x : Cell) (i : BitVec 12) : (x.move i).mr = x.mr := by
  unfold Cell.move; split <;> simp
@[simp] theorem Cell.move_pc (x : Cell) (i : BitVec 12) : (x.move i).pc = x.pc := by
  unfold Cell.move; split <;> simp
@[simp] theorem Cell.move_leg (x : Cell) (i : BitVec 12) : (x.move i).leg = x.leg := by
  unfold Cell.move; split <;> simp
@[simp] theorem Cell.move_ctx (x : Cell) (i : BitVec 12) : (x.move i).ctx = x.ctx := by
  unfold Cell.move; split <;> simp
@[simp] theorem Cell.move_second (x : Cell) (i : BitVec 12) : (x.move i).second = x.second := by
  unfold Cell.move; split <;> simp
@[simp] theorem Cell.move_legDone (x : Cell) (i : BitVec 12) : (x.move i).legDone = x.legDone := by
  unfold Cell.move; split <;> simp
@[simp] theorem Cell.move_bpc (x : Cell) (i : BitVec 12) : (x.move i).bpc = x.bpc := by
  unfold Cell.move; split <;> simp
@[simp] theorem Cell.move_bsr (x : Cell) (i : BitVec 12) : (x.move i).bsr = x.bsr := by
  unfold Cell.move; split <;> simp
@[simp] theorem Cell.move_bbranch (x : Cell) (i : BitVec 12) : (x.move i).bbranch = x.bbranch := by
  unfold Cell.move; split <;> simp
@[simp] theorem Cell.move_bgSaved (x : Cell) (i : BitVec 12) : (x.move i).bgSaved = x.bgSaved := by
  unfold Cell.move; split <;> simp
@[simp] theorem Cell.move_bg (x : Cell) (i : BitVec 12) : (x.move i).bg = x.bg := by
  unfold Cell.move; split <;> simp
@[simp] theorem Cell.move_bgWrote (x : Cell) (i : BitVec 12) : (x.move i).bgWrote = x.bgWrote := by
  unfold Cell.move; split <;> simp
@[simp] theorem Cell.move_pend (x : Cell) (i : BitVec 12) : (x.move i).pend = x.pend := by
  unfold Cell.move; split <;> simp
@[simp] theorem Cell.move_branch (x : Cell) (i : BitVec 12) : (x.move i).branch = x.branch := by
  unfold Cell.move; split <;> simp
@[simp] theorem Cell.move_slots (x : Cell) (i : BitVec 12) : (x.move i).slots = x.slots := by
  unfold Cell.move; split <;> simp
@[simp] theorem Cell.move_moves (x : Cell) (i : BitVec 12) : (x.move i).moves = x.moves := by
  unfold Cell.move; split <;> simp
@[simp] theorem Cell.move_streamer (x : Cell) (i : BitVec 12) : (x.move i).streamer = x.streamer := by
  unfold Cell.move; split <;> simp
@[simp] theorem Cell.move_pubs (x : Cell) (i : BitVec 12) : (x.move i).pubs = x.pubs := by
  unfold Cell.move; split <;> simp
@[simp] theorem Cell.move_subs (x : Cell) (i : BitVec 12) : (x.move i).subs = x.subs := by
  unfold Cell.move; split <;> simp
@[simp] theorem Cell.move_gains (x : Cell) (i : BitVec 12) : (x.move i).gains = x.gains := by
  unfold Cell.move; split <;> simp
@[simp] theorem Cell.move_sticky (x : Cell) (i : BitVec 12) : (x.move i).sticky = x.sticky := by
  unfold Cell.move; split <;> simp
@[simp] theorem Cell.move_fetchFailed (x : Cell) (i : BitVec 12) : (x.move i).fetchFailed = x.fetchFailed := by
  unfold Cell.move; split <;> simp

/-! ## Pointers, words and loops -/

@[simp] theorem Cell.writePtrs_power (x : Cell) (l : List (Nat × PtrReg)) : (x.writePtrs l).power = x.power := by
  induction l generalizing x with
  | nil => rfl
  | cons r l ih => obtain ⟨i, v⟩ := r; simp [Cell.writePtrs, ih]
@[simp] theorem Cell.writePtrs_fresh (x : Cell) (l : List (Nat × PtrReg)) : (x.writePtrs l).fresh = x.fresh := by
  induction l generalizing x with
  | nil => rfl
  | cons r l ih => obtain ⟨i, v⟩ := r; simp [Cell.writePtrs, ih]
@[simp] theorem Cell.writePtrs_dead (x : Cell) (l : List (Nat × PtrReg)) : (x.writePtrs l).dead = x.dead := by
  induction l generalizing x with
  | nil => rfl
  | cons r l ih => obtain ⟨i, v⟩ := r; simp [Cell.writePtrs, ih]
@[simp] theorem Cell.writePtrs_writes (x : Cell) (l : List (Nat × PtrReg)) : (x.writePtrs l).writes = x.writes := by
  induction l generalizing x with
  | nil => rfl
  | cons r l ih => obtain ⟨i, v⟩ := r; simp [Cell.writePtrs, ih]
@[simp] theorem Cell.writePtrs_d (x : Cell) (l : List (Nat × PtrReg)) : (x.writePtrs l).d = x.d := by
  induction l generalizing x with
  | nil => rfl
  | cons r l ih => obtain ⟨i, v⟩ := r; simp [Cell.writePtrs, ih]
@[simp] theorem Cell.writePtrs_acc (x : Cell) (l : List (Nat × PtrReg)) : (x.writePtrs l).acc = x.acc := by
  induction l generalizing x with
  | nil => rfl
  | cons r l ih => obtain ⟨i, v⟩ := r; simp [Cell.writePtrs, ih]
@[simp] theorem Cell.writePtrs_base (x : Cell) (l : List (Nat × PtrReg)) : (x.writePtrs l).base = x.base := by
  induction l generalizing x with
  | nil => rfl
  | cons r l ih => obtain ⟨i, v⟩ := r; simp [Cell.writePtrs, ih]
@[simp] theorem Cell.writePtrs_len (x : Cell) (l : List (Nat × PtrReg)) : (x.writePtrs l).len = x.len := by
  induction l generalizing x with
  | nil => rfl
  | cons r l ih => obtain ⟨i, v⟩ := r; simp [Cell.writePtrs, ih]
@[simp] theorem Cell.writePtrs_step (x : Cell) (l : List (Nat × PtrReg)) : (x.writePtrs l).step = x.step := by
  induction l generalizing x with
  | nil => rfl
  | cons r l ih => obtain ⟨i, v⟩ := r; simp [Cell.writePtrs, ih]
@[simp] theorem Cell.writePtrs_lc (x : Cell) (l : List (Nat × PtrReg)) : (x.writePtrs l).lc = x.lc := by
  induction l generalizing x with
  | nil => rfl
  | cons r l ih => obtain ⟨i, v⟩ := r; simp [Cell.writePtrs, ih]
@[simp] theorem Cell.writePtrs_ls (x : Cell) (l : List (Nat × PtrReg)) : (x.writePtrs l).ls = x.ls := by
  induction l generalizing x with
  | nil => rfl
  | cons r l ih => obtain ⟨i, v⟩ := r; simp [Cell.writePtrs, ih]
@[simp] theorem Cell.writePtrs_le (x : Cell) (l : List (Nat × PtrReg)) : (x.writePtrs l).le = x.le := by
  induction l generalizing x with
  | nil => rfl
  | cons r l ih => obtain ⟨i, v⟩ := r; simp [Cell.writePtrs, ih]
@[simp] theorem Cell.writePtrs_sr (x : Cell) (l : List (Nat × PtrReg)) : (x.writePtrs l).sr = x.sr := by
  induction l generalizing x with
  | nil => rfl
  | cons r l ih => obtain ⟨i, v⟩ := r; simp [Cell.writePtrs, ih]
@[simp] theorem Cell.writePtrs_mr (x : Cell) (l : List (Nat × PtrReg)) : (x.writePtrs l).mr = x.mr := by
  induction l generalizing x with
  | nil => rfl
  | cons r l ih => obtain ⟨i, v⟩ := r; simp [Cell.writePtrs, ih]
@[simp] theorem Cell.writePtrs_pc (x : Cell) (l : List (Nat × PtrReg)) : (x.writePtrs l).pc = x.pc := by
  induction l generalizing x with
  | nil => rfl
  | cons r l ih => obtain ⟨i, v⟩ := r; simp [Cell.writePtrs, ih]
@[simp] theorem Cell.writePtrs_leg (x : Cell) (l : List (Nat × PtrReg)) : (x.writePtrs l).leg = x.leg := by
  induction l generalizing x with
  | nil => rfl
  | cons r l ih => obtain ⟨i, v⟩ := r; simp [Cell.writePtrs, ih]
@[simp] theorem Cell.writePtrs_ctx (x : Cell) (l : List (Nat × PtrReg)) : (x.writePtrs l).ctx = x.ctx := by
  induction l generalizing x with
  | nil => rfl
  | cons r l ih => obtain ⟨i, v⟩ := r; simp [Cell.writePtrs, ih]
@[simp] theorem Cell.writePtrs_second (x : Cell) (l : List (Nat × PtrReg)) : (x.writePtrs l).second = x.second := by
  induction l generalizing x with
  | nil => rfl
  | cons r l ih => obtain ⟨i, v⟩ := r; simp [Cell.writePtrs, ih]
@[simp] theorem Cell.writePtrs_legDone (x : Cell) (l : List (Nat × PtrReg)) : (x.writePtrs l).legDone = x.legDone := by
  induction l generalizing x with
  | nil => rfl
  | cons r l ih => obtain ⟨i, v⟩ := r; simp [Cell.writePtrs, ih]
@[simp] theorem Cell.writePtrs_bpc (x : Cell) (l : List (Nat × PtrReg)) : (x.writePtrs l).bpc = x.bpc := by
  induction l generalizing x with
  | nil => rfl
  | cons r l ih => obtain ⟨i, v⟩ := r; simp [Cell.writePtrs, ih]
@[simp] theorem Cell.writePtrs_bsr (x : Cell) (l : List (Nat × PtrReg)) : (x.writePtrs l).bsr = x.bsr := by
  induction l generalizing x with
  | nil => rfl
  | cons r l ih => obtain ⟨i, v⟩ := r; simp [Cell.writePtrs, ih]
@[simp] theorem Cell.writePtrs_bbranch (x : Cell) (l : List (Nat × PtrReg)) : (x.writePtrs l).bbranch = x.bbranch := by
  induction l generalizing x with
  | nil => rfl
  | cons r l ih => obtain ⟨i, v⟩ := r; simp [Cell.writePtrs, ih]
@[simp] theorem Cell.writePtrs_bgSaved (x : Cell) (l : List (Nat × PtrReg)) : (x.writePtrs l).bgSaved = x.bgSaved := by
  induction l generalizing x with
  | nil => rfl
  | cons r l ih => obtain ⟨i, v⟩ := r; simp [Cell.writePtrs, ih]
@[simp] theorem Cell.writePtrs_bg (x : Cell) (l : List (Nat × PtrReg)) : (x.writePtrs l).bg = x.bg := by
  induction l generalizing x with
  | nil => rfl
  | cons r l ih => obtain ⟨i, v⟩ := r; simp [Cell.writePtrs, ih]
@[simp] theorem Cell.writePtrs_bgWrote (x : Cell) (l : List (Nat × PtrReg)) : (x.writePtrs l).bgWrote = x.bgWrote := by
  induction l generalizing x with
  | nil => rfl
  | cons r l ih => obtain ⟨i, v⟩ := r; simp [Cell.writePtrs, ih]
@[simp] theorem Cell.writePtrs_pend (x : Cell) (l : List (Nat × PtrReg)) : (x.writePtrs l).pend = x.pend := by
  induction l generalizing x with
  | nil => rfl
  | cons r l ih => obtain ⟨i, v⟩ := r; simp [Cell.writePtrs, ih]
@[simp] theorem Cell.writePtrs_branch (x : Cell) (l : List (Nat × PtrReg)) : (x.writePtrs l).branch = x.branch := by
  induction l generalizing x with
  | nil => rfl
  | cons r l ih => obtain ⟨i, v⟩ := r; simp [Cell.writePtrs, ih]
@[simp] theorem Cell.writePtrs_slots (x : Cell) (l : List (Nat × PtrReg)) : (x.writePtrs l).slots = x.slots := by
  induction l generalizing x with
  | nil => rfl
  | cons r l ih => obtain ⟨i, v⟩ := r; simp [Cell.writePtrs, ih]
@[simp] theorem Cell.writePtrs_moves (x : Cell) (l : List (Nat × PtrReg)) : (x.writePtrs l).moves = x.moves := by
  induction l generalizing x with
  | nil => rfl
  | cons r l ih => obtain ⟨i, v⟩ := r; simp [Cell.writePtrs, ih]
@[simp] theorem Cell.writePtrs_streamer (x : Cell) (l : List (Nat × PtrReg)) : (x.writePtrs l).streamer = x.streamer := by
  induction l generalizing x with
  | nil => rfl
  | cons r l ih => obtain ⟨i, v⟩ := r; simp [Cell.writePtrs, ih]
@[simp] theorem Cell.writePtrs_fetched (x : Cell) (l : List (Nat × PtrReg)) : (x.writePtrs l).fetched = x.fetched := by
  induction l generalizing x with
  | nil => rfl
  | cons r l ih => obtain ⟨i, v⟩ := r; simp [Cell.writePtrs, ih]
@[simp] theorem Cell.writePtrs_fetches (x : Cell) (l : List (Nat × PtrReg)) : (x.writePtrs l).fetches = x.fetches := by
  induction l generalizing x with
  | nil => rfl
  | cons r l ih => obtain ⟨i, v⟩ := r; simp [Cell.writePtrs, ih]
@[simp] theorem Cell.writePtrs_pubs (x : Cell) (l : List (Nat × PtrReg)) : (x.writePtrs l).pubs = x.pubs := by
  induction l generalizing x with
  | nil => rfl
  | cons r l ih => obtain ⟨i, v⟩ := r; simp [Cell.writePtrs, ih]
@[simp] theorem Cell.writePtrs_subs (x : Cell) (l : List (Nat × PtrReg)) : (x.writePtrs l).subs = x.subs := by
  induction l generalizing x with
  | nil => rfl
  | cons r l ih => obtain ⟨i, v⟩ := r; simp [Cell.writePtrs, ih]
@[simp] theorem Cell.writePtrs_gains (x : Cell) (l : List (Nat × PtrReg)) : (x.writePtrs l).gains = x.gains := by
  induction l generalizing x with
  | nil => rfl
  | cons r l ih => obtain ⟨i, v⟩ := r; simp [Cell.writePtrs, ih]
@[simp] theorem Cell.writePtrs_sticky (x : Cell) (l : List (Nat × PtrReg)) : (x.writePtrs l).sticky = x.sticky := by
  induction l generalizing x with
  | nil => rfl
  | cons r l ih => obtain ⟨i, v⟩ := r; simp [Cell.writePtrs, ih]
@[simp] theorem Cell.writePtrs_fetchFailed (x : Cell) (l : List (Nat × PtrReg)) : (x.writePtrs l).fetchFailed = x.fetchFailed := by
  induction l generalizing x with
  | nil => rfl
  | cons r l ih => obtain ⟨i, v⟩ := r; simp [Cell.writePtrs, ih]
@[simp] theorem Cell.writeWords_power (x : Cell) (l : List (Nat × Sample)) : (x.writeWords l).power = x.power := by
  induction l generalizing x with
  | nil => rfl
  | cons r l ih =>
    obtain ⟨i, v⟩ := r
    simp only [Cell.writeWords, ih]
    split <;> simp
@[simp] theorem Cell.writeWords_fresh (x : Cell) (l : List (Nat × Sample)) : (x.writeWords l).fresh = x.fresh := by
  induction l generalizing x with
  | nil => rfl
  | cons r l ih =>
    obtain ⟨i, v⟩ := r
    simp only [Cell.writeWords, ih]
    split <;> simp
@[simp] theorem Cell.writeWords_dead (x : Cell) (l : List (Nat × Sample)) : (x.writeWords l).dead = x.dead := by
  induction l generalizing x with
  | nil => rfl
  | cons r l ih =>
    obtain ⟨i, v⟩ := r
    simp only [Cell.writeWords, ih]
    split <;> simp
@[simp] theorem Cell.writeWords_writes (x : Cell) (l : List (Nat × Sample)) : (x.writeWords l).writes = x.writes := by
  induction l generalizing x with
  | nil => rfl
  | cons r l ih =>
    obtain ⟨i, v⟩ := r
    simp only [Cell.writeWords, ih]
    split <;> simp
@[simp] theorem Cell.writeWords_d (x : Cell) (l : List (Nat × Sample)) : (x.writeWords l).d = x.d := by
  induction l generalizing x with
  | nil => rfl
  | cons r l ih =>
    obtain ⟨i, v⟩ := r
    simp only [Cell.writeWords, ih]
    split <;> simp
@[simp] theorem Cell.writeWords_acc (x : Cell) (l : List (Nat × Sample)) : (x.writeWords l).acc = x.acc := by
  induction l generalizing x with
  | nil => rfl
  | cons r l ih =>
    obtain ⟨i, v⟩ := r
    simp only [Cell.writeWords, ih]
    split <;> simp
@[simp] theorem Cell.writeWords_ptr (x : Cell) (l : List (Nat × Sample)) : (x.writeWords l).ptr = x.ptr := by
  induction l generalizing x with
  | nil => rfl
  | cons r l ih =>
    obtain ⟨i, v⟩ := r
    simp only [Cell.writeWords, ih]
    split <;> simp
@[simp] theorem Cell.writeWords_base (x : Cell) (l : List (Nat × Sample)) : (x.writeWords l).base = x.base := by
  induction l generalizing x with
  | nil => rfl
  | cons r l ih =>
    obtain ⟨i, v⟩ := r
    simp only [Cell.writeWords, ih]
    split <;> simp
@[simp] theorem Cell.writeWords_len (x : Cell) (l : List (Nat × Sample)) : (x.writeWords l).len = x.len := by
  induction l generalizing x with
  | nil => rfl
  | cons r l ih =>
    obtain ⟨i, v⟩ := r
    simp only [Cell.writeWords, ih]
    split <;> simp
@[simp] theorem Cell.writeWords_step (x : Cell) (l : List (Nat × Sample)) : (x.writeWords l).step = x.step := by
  induction l generalizing x with
  | nil => rfl
  | cons r l ih =>
    obtain ⟨i, v⟩ := r
    simp only [Cell.writeWords, ih]
    split <;> simp
@[simp] theorem Cell.writeWords_lc (x : Cell) (l : List (Nat × Sample)) : (x.writeWords l).lc = x.lc := by
  induction l generalizing x with
  | nil => rfl
  | cons r l ih =>
    obtain ⟨i, v⟩ := r
    simp only [Cell.writeWords, ih]
    split <;> simp
@[simp] theorem Cell.writeWords_ls (x : Cell) (l : List (Nat × Sample)) : (x.writeWords l).ls = x.ls := by
  induction l generalizing x with
  | nil => rfl
  | cons r l ih =>
    obtain ⟨i, v⟩ := r
    simp only [Cell.writeWords, ih]
    split <;> simp
@[simp] theorem Cell.writeWords_le (x : Cell) (l : List (Nat × Sample)) : (x.writeWords l).le = x.le := by
  induction l generalizing x with
  | nil => rfl
  | cons r l ih =>
    obtain ⟨i, v⟩ := r
    simp only [Cell.writeWords, ih]
    split <;> simp
@[simp] theorem Cell.writeWords_sr (x : Cell) (l : List (Nat × Sample)) : (x.writeWords l).sr = x.sr := by
  induction l generalizing x with
  | nil => rfl
  | cons r l ih =>
    obtain ⟨i, v⟩ := r
    simp only [Cell.writeWords, ih]
    split <;> simp
@[simp] theorem Cell.writeWords_mr (x : Cell) (l : List (Nat × Sample)) : (x.writeWords l).mr = x.mr := by
  induction l generalizing x with
  | nil => rfl
  | cons r l ih =>
    obtain ⟨i, v⟩ := r
    simp only [Cell.writeWords, ih]
    split <;> simp
@[simp] theorem Cell.writeWords_pc (x : Cell) (l : List (Nat × Sample)) : (x.writeWords l).pc = x.pc := by
  induction l generalizing x with
  | nil => rfl
  | cons r l ih =>
    obtain ⟨i, v⟩ := r
    simp only [Cell.writeWords, ih]
    split <;> simp
@[simp] theorem Cell.writeWords_leg (x : Cell) (l : List (Nat × Sample)) : (x.writeWords l).leg = x.leg := by
  induction l generalizing x with
  | nil => rfl
  | cons r l ih =>
    obtain ⟨i, v⟩ := r
    simp only [Cell.writeWords, ih]
    split <;> simp
@[simp] theorem Cell.writeWords_ctx (x : Cell) (l : List (Nat × Sample)) : (x.writeWords l).ctx = x.ctx := by
  induction l generalizing x with
  | nil => rfl
  | cons r l ih =>
    obtain ⟨i, v⟩ := r
    simp only [Cell.writeWords, ih]
    split <;> simp
@[simp] theorem Cell.writeWords_second (x : Cell) (l : List (Nat × Sample)) : (x.writeWords l).second = x.second := by
  induction l generalizing x with
  | nil => rfl
  | cons r l ih =>
    obtain ⟨i, v⟩ := r
    simp only [Cell.writeWords, ih]
    split <;> simp
@[simp] theorem Cell.writeWords_legDone (x : Cell) (l : List (Nat × Sample)) : (x.writeWords l).legDone = x.legDone := by
  induction l generalizing x with
  | nil => rfl
  | cons r l ih =>
    obtain ⟨i, v⟩ := r
    simp only [Cell.writeWords, ih]
    split <;> simp
@[simp] theorem Cell.writeWords_bpc (x : Cell) (l : List (Nat × Sample)) : (x.writeWords l).bpc = x.bpc := by
  induction l generalizing x with
  | nil => rfl
  | cons r l ih =>
    obtain ⟨i, v⟩ := r
    simp only [Cell.writeWords, ih]
    split <;> simp
@[simp] theorem Cell.writeWords_bsr (x : Cell) (l : List (Nat × Sample)) : (x.writeWords l).bsr = x.bsr := by
  induction l generalizing x with
  | nil => rfl
  | cons r l ih =>
    obtain ⟨i, v⟩ := r
    simp only [Cell.writeWords, ih]
    split <;> simp
@[simp] theorem Cell.writeWords_bbranch (x : Cell) (l : List (Nat × Sample)) : (x.writeWords l).bbranch = x.bbranch := by
  induction l generalizing x with
  | nil => rfl
  | cons r l ih =>
    obtain ⟨i, v⟩ := r
    simp only [Cell.writeWords, ih]
    split <;> simp
@[simp] theorem Cell.writeWords_bgSaved (x : Cell) (l : List (Nat × Sample)) : (x.writeWords l).bgSaved = x.bgSaved := by
  induction l generalizing x with
  | nil => rfl
  | cons r l ih =>
    obtain ⟨i, v⟩ := r
    simp only [Cell.writeWords, ih]
    split <;> simp
@[simp] theorem Cell.writeWords_bg (x : Cell) (l : List (Nat × Sample)) : (x.writeWords l).bg = x.bg := by
  induction l generalizing x with
  | nil => rfl
  | cons r l ih =>
    obtain ⟨i, v⟩ := r
    simp only [Cell.writeWords, ih]
    split <;> simp
@[simp] theorem Cell.writeWords_pend (x : Cell) (l : List (Nat × Sample)) : (x.writeWords l).pend = x.pend := by
  induction l generalizing x with
  | nil => rfl
  | cons r l ih =>
    obtain ⟨i, v⟩ := r
    simp only [Cell.writeWords, ih]
    split <;> simp
@[simp] theorem Cell.writeWords_branch (x : Cell) (l : List (Nat × Sample)) : (x.writeWords l).branch = x.branch := by
  induction l generalizing x with
  | nil => rfl
  | cons r l ih =>
    obtain ⟨i, v⟩ := r
    simp only [Cell.writeWords, ih]
    split <;> simp
@[simp] theorem Cell.writeWords_moves (x : Cell) (l : List (Nat × Sample)) : (x.writeWords l).moves = x.moves := by
  induction l generalizing x with
  | nil => rfl
  | cons r l ih =>
    obtain ⟨i, v⟩ := r
    simp only [Cell.writeWords, ih]
    split <;> simp
@[simp] theorem Cell.writeWords_streamer (x : Cell) (l : List (Nat × Sample)) : (x.writeWords l).streamer = x.streamer := by
  induction l generalizing x with
  | nil => rfl
  | cons r l ih =>
    obtain ⟨i, v⟩ := r
    simp only [Cell.writeWords, ih]
    split <;> simp
@[simp] theorem Cell.writeWords_fetched (x : Cell) (l : List (Nat × Sample)) : (x.writeWords l).fetched = x.fetched := by
  induction l generalizing x with
  | nil => rfl
  | cons r l ih =>
    obtain ⟨i, v⟩ := r
    simp only [Cell.writeWords, ih]
    split <;> simp
@[simp] theorem Cell.writeWords_fetches (x : Cell) (l : List (Nat × Sample)) : (x.writeWords l).fetches = x.fetches := by
  induction l generalizing x with
  | nil => rfl
  | cons r l ih =>
    obtain ⟨i, v⟩ := r
    simp only [Cell.writeWords, ih]
    split <;> simp
@[simp] theorem Cell.writeWords_pubs (x : Cell) (l : List (Nat × Sample)) : (x.writeWords l).pubs = x.pubs := by
  induction l generalizing x with
  | nil => rfl
  | cons r l ih =>
    obtain ⟨i, v⟩ := r
    simp only [Cell.writeWords, ih]
    split <;> simp
@[simp] theorem Cell.writeWords_subs (x : Cell) (l : List (Nat × Sample)) : (x.writeWords l).subs = x.subs := by
  induction l generalizing x with
  | nil => rfl
  | cons r l ih =>
    obtain ⟨i, v⟩ := r
    simp only [Cell.writeWords, ih]
    split <;> simp
@[simp] theorem Cell.writeWords_gains (x : Cell) (l : List (Nat × Sample)) : (x.writeWords l).gains = x.gains := by
  induction l generalizing x with
  | nil => rfl
  | cons r l ih =>
    obtain ⟨i, v⟩ := r
    simp only [Cell.writeWords, ih]
    split <;> simp
@[simp] theorem Cell.writeWords_sticky (x : Cell) (l : List (Nat × Sample)) : (x.writeWords l).sticky = x.sticky := by
  induction l generalizing x with
  | nil => rfl
  | cons r l ih =>
    obtain ⟨i, v⟩ := r
    simp only [Cell.writeWords, ih]
    split <;> simp
@[simp] theorem Cell.writeWords_fetchFailed (x : Cell) (l : List (Nat × Sample)) : (x.writeWords l).fetchFailed = x.fetchFailed := by
  induction l generalizing x with
  | nil => rfl
  | cons r l ih =>
    obtain ⟨i, v⟩ := r
    simp only [Cell.writeWords, ih]
    split <;> simp
@[simp] theorem Cell.startLoop_power (x : Cell) (l : Option (Nat × BitVec 12 × BitVec 12 × BitVec 16)) : (x.startLoop l).power = x.power := by
  cases l with
  | none => rfl
  | some l => simp [Cell.startLoop]
@[simp] theorem Cell.startLoop_fresh (x : Cell) (l : Option (Nat × BitVec 12 × BitVec 12 × BitVec 16)) : (x.startLoop l).fresh = x.fresh := by
  cases l with
  | none => rfl
  | some l => simp [Cell.startLoop]
@[simp] theorem Cell.startLoop_dead (x : Cell) (l : Option (Nat × BitVec 12 × BitVec 12 × BitVec 16)) : (x.startLoop l).dead = x.dead := by
  cases l with
  | none => rfl
  | some l => simp [Cell.startLoop]
@[simp] theorem Cell.startLoop_writes (x : Cell) (l : Option (Nat × BitVec 12 × BitVec 12 × BitVec 16)) : (x.startLoop l).writes = x.writes := by
  cases l with
  | none => rfl
  | some l => simp [Cell.startLoop]
@[simp] theorem Cell.startLoop_d (x : Cell) (l : Option (Nat × BitVec 12 × BitVec 12 × BitVec 16)) : (x.startLoop l).d = x.d := by
  cases l with
  | none => rfl
  | some l => simp [Cell.startLoop]
@[simp] theorem Cell.startLoop_acc (x : Cell) (l : Option (Nat × BitVec 12 × BitVec 12 × BitVec 16)) : (x.startLoop l).acc = x.acc := by
  cases l with
  | none => rfl
  | some l => simp [Cell.startLoop]
@[simp] theorem Cell.startLoop_ptr (x : Cell) (l : Option (Nat × BitVec 12 × BitVec 12 × BitVec 16)) : (x.startLoop l).ptr = x.ptr := by
  cases l with
  | none => rfl
  | some l => simp [Cell.startLoop]
@[simp] theorem Cell.startLoop_base (x : Cell) (l : Option (Nat × BitVec 12 × BitVec 12 × BitVec 16)) : (x.startLoop l).base = x.base := by
  cases l with
  | none => rfl
  | some l => simp [Cell.startLoop]
@[simp] theorem Cell.startLoop_len (x : Cell) (l : Option (Nat × BitVec 12 × BitVec 12 × BitVec 16)) : (x.startLoop l).len = x.len := by
  cases l with
  | none => rfl
  | some l => simp [Cell.startLoop]
@[simp] theorem Cell.startLoop_step (x : Cell) (l : Option (Nat × BitVec 12 × BitVec 12 × BitVec 16)) : (x.startLoop l).step = x.step := by
  cases l with
  | none => rfl
  | some l => simp [Cell.startLoop]
@[simp] theorem Cell.startLoop_sr (x : Cell) (l : Option (Nat × BitVec 12 × BitVec 12 × BitVec 16)) : (x.startLoop l).sr = x.sr := by
  cases l with
  | none => rfl
  | some l => simp [Cell.startLoop]
@[simp] theorem Cell.startLoop_mr (x : Cell) (l : Option (Nat × BitVec 12 × BitVec 12 × BitVec 16)) : (x.startLoop l).mr = x.mr := by
  cases l with
  | none => rfl
  | some l => simp [Cell.startLoop]
@[simp] theorem Cell.startLoop_pc (x : Cell) (l : Option (Nat × BitVec 12 × BitVec 12 × BitVec 16)) : (x.startLoop l).pc = x.pc := by
  cases l with
  | none => rfl
  | some l => simp [Cell.startLoop]
@[simp] theorem Cell.startLoop_leg (x : Cell) (l : Option (Nat × BitVec 12 × BitVec 12 × BitVec 16)) : (x.startLoop l).leg = x.leg := by
  cases l with
  | none => rfl
  | some l => simp [Cell.startLoop]
@[simp] theorem Cell.startLoop_ctx (x : Cell) (l : Option (Nat × BitVec 12 × BitVec 12 × BitVec 16)) : (x.startLoop l).ctx = x.ctx := by
  cases l with
  | none => rfl
  | some l => simp [Cell.startLoop]
@[simp] theorem Cell.startLoop_second (x : Cell) (l : Option (Nat × BitVec 12 × BitVec 12 × BitVec 16)) : (x.startLoop l).second = x.second := by
  cases l with
  | none => rfl
  | some l => simp [Cell.startLoop]
@[simp] theorem Cell.startLoop_legDone (x : Cell) (l : Option (Nat × BitVec 12 × BitVec 12 × BitVec 16)) : (x.startLoop l).legDone = x.legDone := by
  cases l with
  | none => rfl
  | some l => simp [Cell.startLoop]
@[simp] theorem Cell.startLoop_bpc (x : Cell) (l : Option (Nat × BitVec 12 × BitVec 12 × BitVec 16)) : (x.startLoop l).bpc = x.bpc := by
  cases l with
  | none => rfl
  | some l => simp [Cell.startLoop]
@[simp] theorem Cell.startLoop_bsr (x : Cell) (l : Option (Nat × BitVec 12 × BitVec 12 × BitVec 16)) : (x.startLoop l).bsr = x.bsr := by
  cases l with
  | none => rfl
  | some l => simp [Cell.startLoop]
@[simp] theorem Cell.startLoop_bbranch (x : Cell) (l : Option (Nat × BitVec 12 × BitVec 12 × BitVec 16)) : (x.startLoop l).bbranch = x.bbranch := by
  cases l with
  | none => rfl
  | some l => simp [Cell.startLoop]
@[simp] theorem Cell.startLoop_bgSaved (x : Cell) (l : Option (Nat × BitVec 12 × BitVec 12 × BitVec 16)) : (x.startLoop l).bgSaved = x.bgSaved := by
  cases l with
  | none => rfl
  | some l => simp [Cell.startLoop]
@[simp] theorem Cell.startLoop_bg (x : Cell) (l : Option (Nat × BitVec 12 × BitVec 12 × BitVec 16)) : (x.startLoop l).bg = x.bg := by
  cases l with
  | none => rfl
  | some l => simp [Cell.startLoop]
@[simp] theorem Cell.startLoop_bgWrote (x : Cell) (l : Option (Nat × BitVec 12 × BitVec 12 × BitVec 16)) : (x.startLoop l).bgWrote = x.bgWrote := by
  cases l with
  | none => rfl
  | some l => simp [Cell.startLoop]
@[simp] theorem Cell.startLoop_pend (x : Cell) (l : Option (Nat × BitVec 12 × BitVec 12 × BitVec 16)) : (x.startLoop l).pend = x.pend := by
  cases l with
  | none => rfl
  | some l => simp [Cell.startLoop]
@[simp] theorem Cell.startLoop_branch (x : Cell) (l : Option (Nat × BitVec 12 × BitVec 12 × BitVec 16)) : (x.startLoop l).branch = x.branch := by
  cases l with
  | none => rfl
  | some l => simp [Cell.startLoop]
@[simp] theorem Cell.startLoop_slots (x : Cell) (l : Option (Nat × BitVec 12 × BitVec 12 × BitVec 16)) : (x.startLoop l).slots = x.slots := by
  cases l with
  | none => rfl
  | some l => simp [Cell.startLoop]
@[simp] theorem Cell.startLoop_moves (x : Cell) (l : Option (Nat × BitVec 12 × BitVec 12 × BitVec 16)) : (x.startLoop l).moves = x.moves := by
  cases l with
  | none => rfl
  | some l => simp [Cell.startLoop]
@[simp] theorem Cell.startLoop_streamer (x : Cell) (l : Option (Nat × BitVec 12 × BitVec 12 × BitVec 16)) : (x.startLoop l).streamer = x.streamer := by
  cases l with
  | none => rfl
  | some l => simp [Cell.startLoop]
@[simp] theorem Cell.startLoop_fetched (x : Cell) (l : Option (Nat × BitVec 12 × BitVec 12 × BitVec 16)) : (x.startLoop l).fetched = x.fetched := by
  cases l with
  | none => rfl
  | some l => simp [Cell.startLoop]
@[simp] theorem Cell.startLoop_fetches (x : Cell) (l : Option (Nat × BitVec 12 × BitVec 12 × BitVec 16)) : (x.startLoop l).fetches = x.fetches := by
  cases l with
  | none => rfl
  | some l => simp [Cell.startLoop]
@[simp] theorem Cell.startLoop_pubs (x : Cell) (l : Option (Nat × BitVec 12 × BitVec 12 × BitVec 16)) : (x.startLoop l).pubs = x.pubs := by
  cases l with
  | none => rfl
  | some l => simp [Cell.startLoop]
@[simp] theorem Cell.startLoop_subs (x : Cell) (l : Option (Nat × BitVec 12 × BitVec 12 × BitVec 16)) : (x.startLoop l).subs = x.subs := by
  cases l with
  | none => rfl
  | some l => simp [Cell.startLoop]
@[simp] theorem Cell.startLoop_gains (x : Cell) (l : Option (Nat × BitVec 12 × BitVec 12 × BitVec 16)) : (x.startLoop l).gains = x.gains := by
  cases l with
  | none => rfl
  | some l => simp [Cell.startLoop]
@[simp] theorem Cell.startLoop_sticky (x : Cell) (l : Option (Nat × BitVec 12 × BitVec 12 × BitVec 16)) : (x.startLoop l).sticky = x.sticky := by
  cases l with
  | none => rfl
  | some l => simp [Cell.startLoop]
@[simp] theorem Cell.startLoop_fetchFailed (x : Cell) (l : Option (Nat × BitVec 12 × BitVec 12 × BitVec 16)) : (x.startLoop l).fetchFailed = x.fetchFailed := by
  cases l with
  | none => rfl
  | some l => simp [Cell.startLoop]

/-! ## The end of an issued instruction -/

/-- What an instruction that keeps the cell in its context leaves of a field that only results write. -/
theorem Cell.retire_fst (x : Cell) (e : Eff) : ∃ (pc : BitVec 12) (br : Option Branch) (go : Bool),
    let lb := x.loopBack
    let x1 := (x.age).landAll (e.res.filter (fun r : Pend => decide (r.left = 0)))
    let x2 := (if lb.1.lcN 1 = x.lcN 1 then x1 else x1.setLc 1 (lb.1.lcN 1))
    let x3 := (if lb.1.lcN 0 = x.lcN 0 then x2 else x2.setLc 0 (lb.1.lcN 0))
    let x4 := ((x3.startLoop e.loop).writePtrs e.ptrs).writeWords e.words
    let x5 := { x4 with sr := x4.sr ||| BitVec.ofNat 32 e.flags, pend := x4.pend ++ e.res.filter (fun r : Pend => decide (0 < r.left)) }
    (x.retire e).1 = if go then ({ x5 with pc := pc, branch := br }).move x.pc else { x5 with pc := pc, branch := br } := by
  unfold Cell.retire
  simp only []
  split
  · exact ⟨_, _, true, rfl⟩
  · split
    · split
      · exact ⟨_, _, true, rfl⟩
      · split
        · exact ⟨_, _, true, rfl⟩
        · exact ⟨_, _, true, rfl⟩
        · exact ⟨_, _, false, rfl⟩
    · exact ⟨_, _, true, rfl⟩

theorem Cell.retire_power (x : Cell) (e : Eff) : (x.retire e).1.power = ((x.age).landAll (e.res.filter (fun r : Pend => decide (r.left = 0)))).power := by
  obtain ⟨pc, br, go, h⟩ := Cell.retire_fst x e
  rw [h]; cases go <;> simp <;> (repeat' split) <;> simp
theorem Cell.retire_fresh (x : Cell) (e : Eff) : (x.retire e).1.fresh = ((x.age).landAll (e.res.filter (fun r : Pend => decide (r.left = 0)))).fresh := by
  obtain ⟨pc, br, go, h⟩ := Cell.retire_fst x e
  rw [h]; cases go <;> simp <;> (repeat' split) <;> simp
theorem Cell.retire_dead (x : Cell) (e : Eff) : (x.retire e).1.dead = ((x.age).landAll (e.res.filter (fun r : Pend => decide (r.left = 0)))).dead := by
  obtain ⟨pc, br, go, h⟩ := Cell.retire_fst x e
  rw [h]; cases go <;> simp <;> (repeat' split) <;> simp
theorem Cell.retire_writes (x : Cell) (e : Eff) : (x.retire e).1.writes = ((x.age).landAll (e.res.filter (fun r : Pend => decide (r.left = 0)))).writes := by
  obtain ⟨pc, br, go, h⟩ := Cell.retire_fst x e
  rw [h]; cases go <;> simp <;> (repeat' split) <;> simp
theorem Cell.retire_d (x : Cell) (e : Eff) : (x.retire e).1.d = ((x.age).landAll (e.res.filter (fun r : Pend => decide (r.left = 0)))).d := by
  obtain ⟨pc, br, go, h⟩ := Cell.retire_fst x e
  rw [h]; cases go <;> simp <;> (repeat' split) <;> simp
theorem Cell.retire_acc (x : Cell) (e : Eff) : (x.retire e).1.acc = ((x.age).landAll (e.res.filter (fun r : Pend => decide (r.left = 0)))).acc := by
  obtain ⟨pc, br, go, h⟩ := Cell.retire_fst x e
  rw [h]; cases go <;> simp <;> (repeat' split) <;> simp
theorem Cell.retire_base (x : Cell) (e : Eff) : (x.retire e).1.base = ((x.age).landAll (e.res.filter (fun r : Pend => decide (r.left = 0)))).base := by
  obtain ⟨pc, br, go, h⟩ := Cell.retire_fst x e
  rw [h]; cases go <;> simp <;> (repeat' split) <;> simp
theorem Cell.retire_len (x : Cell) (e : Eff) : (x.retire e).1.len = ((x.age).landAll (e.res.filter (fun r : Pend => decide (r.left = 0)))).len := by
  obtain ⟨pc, br, go, h⟩ := Cell.retire_fst x e
  rw [h]; cases go <;> simp <;> (repeat' split) <;> simp
theorem Cell.retire_step (x : Cell) (e : Eff) : (x.retire e).1.step = ((x.age).landAll (e.res.filter (fun r : Pend => decide (r.left = 0)))).step := by
  obtain ⟨pc, br, go, h⟩ := Cell.retire_fst x e
  rw [h]; cases go <;> simp <;> (repeat' split) <;> simp
theorem Cell.retire_mr (x : Cell) (e : Eff) : (x.retire e).1.mr = ((x.age).landAll (e.res.filter (fun r : Pend => decide (r.left = 0)))).mr := by
  obtain ⟨pc, br, go, h⟩ := Cell.retire_fst x e
  rw [h]; cases go <;> simp <;> (repeat' split) <;> simp
theorem Cell.retire_leg (x : Cell) (e : Eff) : (x.retire e).1.leg = ((x.age).landAll (e.res.filter (fun r : Pend => decide (r.left = 0)))).leg := by
  obtain ⟨pc, br, go, h⟩ := Cell.retire_fst x e
  rw [h]; cases go <;> simp <;> (repeat' split) <;> simp
theorem Cell.retire_ctx (x : Cell) (e : Eff) : (x.retire e).1.ctx = ((x.age).landAll (e.res.filter (fun r : Pend => decide (r.left = 0)))).ctx := by
  obtain ⟨pc, br, go, h⟩ := Cell.retire_fst x e
  rw [h]; cases go <;> simp <;> (repeat' split) <;> simp
theorem Cell.retire_second (x : Cell) (e : Eff) : (x.retire e).1.second = ((x.age).landAll (e.res.filter (fun r : Pend => decide (r.left = 0)))).second := by
  obtain ⟨pc, br, go, h⟩ := Cell.retire_fst x e
  rw [h]; cases go <;> simp <;> (repeat' split) <;> simp
theorem Cell.retire_legDone (x : Cell) (e : Eff) : (x.retire e).1.legDone = ((x.age).landAll (e.res.filter (fun r : Pend => decide (r.left = 0)))).legDone := by
  obtain ⟨pc, br, go, h⟩ := Cell.retire_fst x e
  rw [h]; cases go <;> simp <;> (repeat' split) <;> simp
theorem Cell.retire_bpc (x : Cell) (e : Eff) : (x.retire e).1.bpc = ((x.age).landAll (e.res.filter (fun r : Pend => decide (r.left = 0)))).bpc := by
  obtain ⟨pc, br, go, h⟩ := Cell.retire_fst x e
  rw [h]; cases go <;> simp <;> (repeat' split) <;> simp
theorem Cell.retire_bsr (x : Cell) (e : Eff) : (x.retire e).1.bsr = ((x.age).landAll (e.res.filter (fun r : Pend => decide (r.left = 0)))).bsr := by
  obtain ⟨pc, br, go, h⟩ := Cell.retire_fst x e
  rw [h]; cases go <;> simp <;> (repeat' split) <;> simp
theorem Cell.retire_bbranch (x : Cell) (e : Eff) : (x.retire e).1.bbranch = ((x.age).landAll (e.res.filter (fun r : Pend => decide (r.left = 0)))).bbranch := by
  obtain ⟨pc, br, go, h⟩ := Cell.retire_fst x e
  rw [h]; cases go <;> simp <;> (repeat' split) <;> simp
theorem Cell.retire_bgSaved (x : Cell) (e : Eff) : (x.retire e).1.bgSaved = ((x.age).landAll (e.res.filter (fun r : Pend => decide (r.left = 0)))).bgSaved := by
  obtain ⟨pc, br, go, h⟩ := Cell.retire_fst x e
  rw [h]; cases go <;> simp <;> (repeat' split) <;> simp
theorem Cell.retire_bg (x : Cell) (e : Eff) : (x.retire e).1.bg = ((x.age).landAll (e.res.filter (fun r : Pend => decide (r.left = 0)))).bg := by
  obtain ⟨pc, br, go, h⟩ := Cell.retire_fst x e
  rw [h]; cases go <;> simp <;> (repeat' split) <;> simp
theorem Cell.retire_moves (x : Cell) (e : Eff) : (x.retire e).1.moves = ((x.age).landAll (e.res.filter (fun r : Pend => decide (r.left = 0)))).moves := by
  obtain ⟨pc, br, go, h⟩ := Cell.retire_fst x e
  rw [h]; cases go <;> simp <;> (repeat' split) <;> simp
theorem Cell.retire_streamer (x : Cell) (e : Eff) : (x.retire e).1.streamer = ((x.age).landAll (e.res.filter (fun r : Pend => decide (r.left = 0)))).streamer := by
  obtain ⟨pc, br, go, h⟩ := Cell.retire_fst x e
  rw [h]; cases go <;> simp <;> (repeat' split) <;> simp
theorem Cell.retire_pubs (x : Cell) (e : Eff) : (x.retire e).1.pubs = ((x.age).landAll (e.res.filter (fun r : Pend => decide (r.left = 0)))).pubs := by
  obtain ⟨pc, br, go, h⟩ := Cell.retire_fst x e
  rw [h]; cases go <;> simp <;> (repeat' split) <;> simp
theorem Cell.retire_subs (x : Cell) (e : Eff) : (x.retire e).1.subs = ((x.age).landAll (e.res.filter (fun r : Pend => decide (r.left = 0)))).subs := by
  obtain ⟨pc, br, go, h⟩ := Cell.retire_fst x e
  rw [h]; cases go <;> simp <;> (repeat' split) <;> simp
theorem Cell.retire_gains (x : Cell) (e : Eff) : (x.retire e).1.gains = ((x.age).landAll (e.res.filter (fun r : Pend => decide (r.left = 0)))).gains := by
  obtain ⟨pc, br, go, h⟩ := Cell.retire_fst x e
  rw [h]; cases go <;> simp <;> (repeat' split) <;> simp
theorem Cell.retire_sticky (x : Cell) (e : Eff) : (x.retire e).1.sticky = ((x.age).landAll (e.res.filter (fun r : Pend => decide (r.left = 0)))).sticky := by
  obtain ⟨pc, br, go, h⟩ := Cell.retire_fst x e
  rw [h]; cases go <;> simp <;> (repeat' split) <;> simp
theorem Cell.retire_fetchFailed (x : Cell) (e : Eff) : (x.retire e).1.fetchFailed = ((x.age).landAll (e.res.filter (fun r : Pend => decide (r.left = 0)))).fetchFailed := by
  obtain ⟨pc, br, go, h⟩ := Cell.retire_fst x e
  rw [h]; cases go <;> simp <;> (repeat' split) <;> simp

end Sys2Proof.Machine
end

