-- ==== Sys2Proof/Laws/State.lean ====
section
/-! SUPPORT. One lemma for a field of the chip and an update: what an operation does not name it leaves as it was. -/
namespace Sys2Proof.Machine
open Sys2Proof

/-! ## The form of a meaning -/

@[simp] theorem State.act_eq (s : State) (f : Chip → Chip) : s.act f = .next { s with chip := f s.chip } := rfl

/-! ## Registers and counters -/

@[simp] theorem Chip.setReg_eng (c : Chip) (a : Nat) (v : Word) : (c.setReg a v).eng = c.eng := rfl
@[simp] theorem Chip.setReg_cells (c : Chip) (a : Nat) (v : Word) : (c.setReg a v).cells = c.cells := rfl
@[simp] theorem Chip.setReg_graph (c : Chip) (a : Nat) (v : Word) : (c.setReg a v).graph = c.graph := rfl
@[simp] theorem Chip.setReg_chain (c : Chip) (a : Nat) (v : Word) : (c.setReg a v).chain = c.chain := rfl
@[simp] theorem Chip.setReg_mem (c : Chip) (a : Nat) (v : Word) : (c.setReg a v).mem = c.mem := rfl
@[simp] theorem Chip.setReg_flt (c : Chip) (a : Nat) (v : Word) : (c.setReg a v).flt = c.flt := rfl
@[simp] theorem Chip.setReg_pwr (c : Chip) (a : Nat) (v : Word) : (c.setReg a v).pwr = c.pwr := rfl
@[simp] theorem Chip.setReg_sys (c : Chip) (a : Nat) (v : Word) : (c.setReg a v).sys = c.sys := rfl
@[simp] theorem Chip.setReg_cmd (c : Chip) (a : Nat) (v : Word) : (c.setReg a v).cmd = c.cmd := rfl
@[simp] theorem Chip.setReg_host (c : Chip) (a : Nat) (v : Word) : (c.setReg a v).host = c.host := rfl
@[simp] theorem Chip.setReg_dtm (c : Chip) (a : Nat) (v : Word) : (c.setReg a v).dtm = c.dtm := rfl
@[simp] theorem Chip.setReg_clk (c : Chip) (a : Nat) (v : Word) : (c.setReg a v).clk = c.clk := rfl
@[simp] theorem Chip.setReg_sap (c : Chip) (a : Nat) (v : Word) : (c.setReg a v).sap = c.sap := rfl
@[simp] theorem Chip.setReg_cues (c : Chip) (a : Nat) (v : Word) : (c.setReg a v).cues = c.cues := rfl
@[simp] theorem Chip.setReg_net (c : Chip) (a : Nat) (v : Word) : (c.setReg a v).net = c.net := rfl
@[simp] theorem Chip.setReg_drv (c : Chip) (a : Nat) (v : Word) : (c.setReg a v).drv = c.drv := rfl
@[simp] theorem Chip.setReg_pair (c : Chip) (a : Nat) (v : Word) : (c.setReg a v).pair = c.pair := rfl
@[simp] theorem Chip.setReg_dma (c : Chip) (a : Nat) (v : Word) : (c.setReg a v).dma = c.dma := rfl
@[simp] theorem Chip.setReg_ddr (c : Chip) (a : Nat) (v : Word) : (c.setReg a v).ddr = c.ddr := rfl
@[simp] theorem Chip.setReg_ports (c : Chip) (a : Nat) (v : Word) : (c.setReg a v).ports = c.ports := rfl
@[simp] theorem Chip.setReg_msix (c : Chip) (a : Nat) (v : Word) : (c.setReg a v).msix = c.msix := rfl
@[simp] theorem Chip.setReg_raised (c : Chip) (a : Nat) (v : Word) : (c.setReg a v).raised = c.raised := rfl
@[simp] theorem Chip.setReg_nfree (c : Chip) (a : Nat) (v : Word) : (c.setReg a v).nfree = c.nfree := rfl
@[simp] theorem Chip.modReg_eng (c : Chip) (a : Nat) (f : Word → Word) : (c.modReg a f).eng = c.eng := rfl
@[simp] theorem Chip.modReg_cells (c : Chip) (a : Nat) (f : Word → Word) : (c.modReg a f).cells = c.cells := rfl
@[simp] theorem Chip.modReg_graph (c : Chip) (a : Nat) (f : Word → Word) : (c.modReg a f).graph = c.graph := rfl
@[simp] theorem Chip.modReg_chain (c : Chip) (a : Nat) (f : Word → Word) : (c.modReg a f).chain = c.chain := rfl
@[simp] theorem Chip.modReg_mem (c : Chip) (a : Nat) (f : Word → Word) : (c.modReg a f).mem = c.mem := rfl
@[simp] theorem Chip.modReg_flt (c : Chip) (a : Nat) (f : Word → Word) : (c.modReg a f).flt = c.flt := rfl
@[simp] theorem Chip.modReg_pwr (c : Chip) (a : Nat) (f : Word → Word) : (c.modReg a f).pwr = c.pwr := rfl
@[simp] theorem Chip.modReg_sys (c : Chip) (a : Nat) (f : Word → Word) : (c.modReg a f).sys = c.sys := rfl
@[simp] theorem Chip.modReg_cmd (c : Chip) (a : Nat) (f : Word → Word) : (c.modReg a f).cmd = c.cmd := rfl
@[simp] theorem Chip.modReg_host (c : Chip) (a : Nat) (f : Word → Word) : (c.modReg a f).host = c.host := rfl
@[simp] theorem Chip.modReg_dtm (c : Chip) (a : Nat) (f : Word → Word) : (c.modReg a f).dtm = c.dtm := rfl
@[simp] theorem Chip.modReg_clk (c : Chip) (a : Nat) (f : Word → Word) : (c.modReg a f).clk = c.clk := rfl
@[simp] theorem Chip.modReg_sap (c : Chip) (a : Nat) (f : Word → Word) : (c.modReg a f).sap = c.sap := rfl
@[simp] theorem Chip.modReg_cues (c : Chip) (a : Nat) (f : Word → Word) : (c.modReg a f).cues = c.cues := rfl
@[simp] theorem Chip.modReg_net (c : Chip) (a : Nat) (f : Word → Word) : (c.modReg a f).net = c.net := rfl
@[simp] theorem Chip.modReg_drv (c : Chip) (a : Nat) (f : Word → Word) : (c.modReg a f).drv = c.drv := rfl
@[simp] theorem Chip.modReg_pair (c : Chip) (a : Nat) (f : Word → Word) : (c.modReg a f).pair = c.pair := rfl
@[simp] theorem Chip.modReg_dma (c : Chip) (a : Nat) (f : Word → Word) : (c.modReg a f).dma = c.dma := rfl
@[simp] theorem Chip.modReg_ddr (c : Chip) (a : Nat) (f : Word → Word) : (c.modReg a f).ddr = c.ddr := rfl
@[simp] theorem Chip.modReg_ports (c : Chip) (a : Nat) (f : Word → Word) : (c.modReg a f).ports = c.ports := rfl
@[simp] theorem Chip.modReg_msix (c : Chip) (a : Nat) (f : Word → Word) : (c.modReg a f).msix = c.msix := rfl
@[simp] theorem Chip.modReg_raised (c : Chip) (a : Nat) (f : Word → Word) : (c.modReg a f).raised = c.raised := rfl
@[simp] theorem Chip.modReg_nfree (c : Chip) (a : Nat) (f : Word → Word) : (c.modReg a f).nfree = c.nfree := rfl
@[simp] theorem Chip.setFld_eng (c : Chip) (a hi lo v : Nat) : (c.setFld a hi lo v).eng = c.eng := rfl
@[simp] theorem Chip.setFld_cells (c : Chip) (a hi lo v : Nat) : (c.setFld a hi lo v).cells = c.cells := rfl
@[simp] theorem Chip.setFld_graph (c : Chip) (a hi lo v : Nat) : (c.setFld a hi lo v).graph = c.graph := rfl
@[simp] theorem Chip.setFld_chain (c : Chip) (a hi lo v : Nat) : (c.setFld a hi lo v).chain = c.chain := rfl
@[simp] theorem Chip.setFld_mem (c : Chip) (a hi lo v : Nat) : (c.setFld a hi lo v).mem = c.mem := rfl
@[simp] theorem Chip.setFld_flt (c : Chip) (a hi lo v : Nat) : (c.setFld a hi lo v).flt = c.flt := rfl
@[simp] theorem Chip.setFld_pwr (c : Chip) (a hi lo v : Nat) : (c.setFld a hi lo v).pwr = c.pwr := rfl
@[simp] theorem Chip.setFld_sys (c : Chip) (a hi lo v : Nat) : (c.setFld a hi lo v).sys = c.sys := rfl
@[simp] theorem Chip.setFld_cmd (c : Chip) (a hi lo v : Nat) : (c.setFld a hi lo v).cmd = c.cmd := rfl
@[simp] theorem Chip.setFld_host (c : Chip) (a hi lo v : Nat) : (c.setFld a hi lo v).host = c.host := rfl
@[simp] theorem Chip.setFld_dtm (c : Chip) (a hi lo v : Nat) : (c.setFld a hi lo v).dtm = c.dtm := rfl
@[simp] theorem Chip.setFld_clk (c : Chip) (a hi lo v : Nat) : (c.setFld a hi lo v).clk = c.clk := rfl
@[simp] theorem Chip.setFld_sap (c : Chip) (a hi lo v : Nat) : (c.setFld a hi lo v).sap = c.sap := rfl
@[simp] theorem Chip.setFld_cues (c : Chip) (a hi lo v : Nat) : (c.setFld a hi lo v).cues = c.cues := rfl
@[simp] theorem Chip.setFld_net (c : Chip) (a hi lo v : Nat) : (c.setFld a hi lo v).net = c.net := rfl
@[simp] theorem Chip.setFld_drv (c : Chip) (a hi lo v : Nat) : (c.setFld a hi lo v).drv = c.drv := rfl
@[simp] theorem Chip.setFld_pair (c : Chip) (a hi lo v : Nat) : (c.setFld a hi lo v).pair = c.pair := rfl
@[simp] theorem Chip.setFld_dma (c : Chip) (a hi lo v : Nat) : (c.setFld a hi lo v).dma = c.dma := rfl
@[simp] theorem Chip.setFld_ddr (c : Chip) (a hi lo v : Nat) : (c.setFld a hi lo v).ddr = c.ddr := rfl
@[simp] theorem Chip.setFld_ports (c : Chip) (a hi lo v : Nat) : (c.setFld a hi lo v).ports = c.ports := rfl
@[simp] theorem Chip.setFld_msix (c : Chip) (a hi lo v : Nat) : (c.setFld a hi lo v).msix = c.msix := rfl
@[simp] theorem Chip.setFld_raised (c : Chip) (a hi lo v : Nat) : (c.setFld a hi lo v).raised = c.raised := rfl
@[simp] theorem Chip.setFld_nfree (c : Chip) (a hi lo v : Nat) : (c.setFld a hi lo v).nfree = c.nfree := rfl
@[simp] theorem Chip.setBit_eng (c : Chip) (a i : Nat) (b : Bool) : (c.setBit a i b).eng = c.eng := rfl
@[simp] theorem Chip.setBit_cells (c : Chip) (a i : Nat) (b : Bool) : (c.setBit a i b).cells = c.cells := rfl
@[simp] theorem Chip.setBit_graph (c : Chip) (a i : Nat) (b : Bool) : (c.setBit a i b).graph = c.graph := rfl
@[simp] theorem Chip.setBit_chain (c : Chip) (a i : Nat) (b : Bool) : (c.setBit a i b).chain = c.chain := rfl
@[simp] theorem Chip.setBit_mem (c : Chip) (a i : Nat) (b : Bool) : (c.setBit a i b).mem = c.mem := rfl
@[simp] theorem Chip.setBit_flt (c : Chip) (a i : Nat) (b : Bool) : (c.setBit a i b).flt = c.flt := rfl
@[simp] theorem Chip.setBit_pwr (c : Chip) (a i : Nat) (b : Bool) : (c.setBit a i b).pwr = c.pwr := rfl
@[simp] theorem Chip.setBit_sys (c : Chip) (a i : Nat) (b : Bool) : (c.setBit a i b).sys = c.sys := rfl
@[simp] theorem Chip.setBit_cmd (c : Chip) (a i : Nat) (b : Bool) : (c.setBit a i b).cmd = c.cmd := rfl
@[simp] theorem Chip.setBit_host (c : Chip) (a i : Nat) (b : Bool) : (c.setBit a i b).host = c.host := rfl
@[simp] theorem Chip.setBit_dtm (c : Chip) (a i : Nat) (b : Bool) : (c.setBit a i b).dtm = c.dtm := rfl
@[simp] theorem Chip.setBit_clk (c : Chip) (a i : Nat) (b : Bool) : (c.setBit a i b).clk = c.clk := rfl
@[simp] theorem Chip.setBit_sap (c : Chip) (a i : Nat) (b : Bool) : (c.setBit a i b).sap = c.sap := rfl
@[simp] theorem Chip.setBit_cues (c : Chip) (a i : Nat) (b : Bool) : (c.setBit a i b).cues = c.cues := rfl
@[simp] theorem Chip.setBit_net (c : Chip) (a i : Nat) (b : Bool) : (c.setBit a i b).net = c.net := rfl
@[simp] theorem Chip.setBit_drv (c : Chip) (a i : Nat) (b : Bool) : (c.setBit a i b).drv = c.drv := rfl
@[simp] theorem Chip.setBit_pair (c : Chip) (a i : Nat) (b : Bool) : (c.setBit a i b).pair = c.pair := rfl
@[simp] theorem Chip.setBit_dma (c : Chip) (a i : Nat) (b : Bool) : (c.setBit a i b).dma = c.dma := rfl
@[simp] theorem Chip.setBit_ddr (c : Chip) (a i : Nat) (b : Bool) : (c.setBit a i b).ddr = c.ddr := rfl
@[simp] theorem Chip.setBit_ports (c : Chip) (a i : Nat) (b : Bool) : (c.setBit a i b).ports = c.ports := rfl
@[simp] theorem Chip.setBit_msix (c : Chip) (a i : Nat) (b : Bool) : (c.setBit a i b).msix = c.msix := rfl
@[simp] theorem Chip.setBit_raised (c : Chip) (a i : Nat) (b : Bool) : (c.setBit a i b).raised = c.raised := rfl
@[simp] theorem Chip.setBit_nfree (c : Chip) (a i : Nat) (b : Bool) : (c.setBit a i b).nfree = c.nfree := rfl
@[simp] theorem Chip.bump_eng (c : Chip) (a : Nat) : (c.bump a).eng = c.eng := rfl
@[simp] theorem Chip.bump_cells (c : Chip) (a : Nat) : (c.bump a).cells = c.cells := rfl
@[simp] theorem Chip.bump_graph (c : Chip) (a : Nat) : (c.bump a).graph = c.graph := rfl
@[simp] theorem Chip.bump_chain (c : Chip) (a : Nat) : (c.bump a).chain = c.chain := rfl
@[simp] theorem Chip.bump_mem (c : Chip) (a : Nat) : (c.bump a).mem = c.mem := rfl
@[simp] theorem Chip.bump_flt (c : Chip) (a : Nat) : (c.bump a).flt = c.flt := rfl
@[simp] theorem Chip.bump_pwr (c : Chip) (a : Nat) : (c.bump a).pwr = c.pwr := rfl
@[simp] theorem Chip.bump_sys (c : Chip) (a : Nat) : (c.bump a).sys = c.sys := rfl
@[simp] theorem Chip.bump_cmd (c : Chip) (a : Nat) : (c.bump a).cmd = c.cmd := rfl
@[simp] theorem Chip.bump_host (c : Chip) (a : Nat) : (c.bump a).host = c.host := rfl
@[simp] theorem Chip.bump_dtm (c : Chip) (a : Nat) : (c.bump a).dtm = c.dtm := rfl
@[simp] theorem Chip.bump_clk (c : Chip) (a : Nat) : (c.bump a).clk = c.clk := rfl
@[simp] theorem Chip.bump_sap (c : Chip) (a : Nat) : (c.bump a).sap = c.sap := rfl
@[simp] theorem Chip.bump_cues (c : Chip) (a : Nat) : (c.bump a).cues = c.cues := rfl
@[simp] theorem Chip.bump_net (c : Chip) (a : Nat) : (c.bump a).net = c.net := rfl
@[simp] theorem Chip.bump_drv (c : Chip) (a : Nat) : (c.bump a).drv = c.drv := rfl
@[simp] theorem Chip.bump_pair (c : Chip) (a : Nat) : (c.bump a).pair = c.pair := rfl
@[simp] theorem Chip.bump_dma (c : Chip) (a : Nat) : (c.bump a).dma = c.dma := rfl
@[simp] theorem Chip.bump_ddr (c : Chip) (a : Nat) : (c.bump a).ddr = c.ddr := rfl
@[simp] theorem Chip.bump_ports (c : Chip) (a : Nat) : (c.bump a).ports = c.ports := rfl
@[simp] theorem Chip.bump_msix (c : Chip) (a : Nat) : (c.bump a).msix = c.msix := rfl
@[simp] theorem Chip.bump_raised (c : Chip) (a : Nat) : (c.bump a).raised = c.raised := rfl
@[simp] theorem Chip.bump_nfree (c : Chip) (a : Nat) : (c.bump a).nfree = c.nfree := rfl
@[simp] theorem Chip.bumpBy_eng (c : Chip) (a n : Nat) : (c.bumpBy a n).eng = c.eng := rfl
@[simp] theorem Chip.bumpBy_cells (c : Chip) (a n : Nat) : (c.bumpBy a n).cells = c.cells := rfl
@[simp] theorem Chip.bumpBy_graph (c : Chip) (a n : Nat) : (c.bumpBy a n).graph = c.graph := rfl
@[simp] theorem Chip.bumpBy_chain (c : Chip) (a n : Nat) : (c.bumpBy a n).chain = c.chain := rfl
@[simp] theorem Chip.bumpBy_mem (c : Chip) (a n : Nat) : (c.bumpBy a n).mem = c.mem := rfl
@[simp] theorem Chip.bumpBy_flt (c : Chip) (a n : Nat) : (c.bumpBy a n).flt = c.flt := rfl
@[simp] theorem Chip.bumpBy_pwr (c : Chip) (a n : Nat) : (c.bumpBy a n).pwr = c.pwr := rfl
@[simp] theorem Chip.bumpBy_sys (c : Chip) (a n : Nat) : (c.bumpBy a n).sys = c.sys := rfl
@[simp] theorem Chip.bumpBy_cmd (c : Chip) (a n : Nat) : (c.bumpBy a n).cmd = c.cmd := rfl
@[simp] theorem Chip.bumpBy_host (c : Chip) (a n : Nat) : (c.bumpBy a n).host = c.host := rfl
@[simp] theorem Chip.bumpBy_dtm (c : Chip) (a n : Nat) : (c.bumpBy a n).dtm = c.dtm := rfl
@[simp] theorem Chip.bumpBy_clk (c : Chip) (a n : Nat) : (c.bumpBy a n).clk = c.clk := rfl
@[simp] theorem Chip.bumpBy_sap (c : Chip) (a n : Nat) : (c.bumpBy a n).sap = c.sap := rfl
@[simp] theorem Chip.bumpBy_cues (c : Chip) (a n : Nat) : (c.bumpBy a n).cues = c.cues := rfl
@[simp] theorem Chip.bumpBy_net (c : Chip) (a n : Nat) : (c.bumpBy a n).net = c.net := rfl
@[simp] theorem Chip.bumpBy_drv (c : Chip) (a n : Nat) : (c.bumpBy a n).drv = c.drv := rfl
@[simp] theorem Chip.bumpBy_pair (c : Chip) (a n : Nat) : (c.bumpBy a n).pair = c.pair := rfl
@[simp] theorem Chip.bumpBy_dma (c : Chip) (a n : Nat) : (c.bumpBy a n).dma = c.dma := rfl
@[simp] theorem Chip.bumpBy_ddr (c : Chip) (a n : Nat) : (c.bumpBy a n).ddr = c.ddr := rfl
@[simp] theorem Chip.bumpBy_ports (c : Chip) (a n : Nat) : (c.bumpBy a n).ports = c.ports := rfl
@[simp] theorem Chip.bumpBy_msix (c : Chip) (a n : Nat) : (c.bumpBy a n).msix = c.msix := rfl
@[simp] theorem Chip.bumpBy_raised (c : Chip) (a n : Nat) : (c.bumpBy a n).raised = c.raised := rfl
@[simp] theorem Chip.bumpBy_nfree (c : Chip) (a n : Nat) : (c.bumpBy a n).nfree = c.nfree := rfl
@[simp] theorem Chip.setEff_eng (c : Chip) (k e : Nat) : (c.setEff k e).eng = c.eng := rfl
@[simp] theorem Chip.setEff_cells (c : Chip) (k e : Nat) : (c.setEff k e).cells = c.cells := rfl
@[simp] theorem Chip.setEff_graph (c : Chip) (k e : Nat) : (c.setEff k e).graph = c.graph := rfl
@[simp] theorem Chip.setEff_chain (c : Chip) (k e : Nat) : (c.setEff k e).chain = c.chain := rfl
@[simp] theorem Chip.setEff_mem (c : Chip) (k e : Nat) : (c.setEff k e).mem = c.mem := rfl
@[simp] theorem Chip.setEff_flt (c : Chip) (k e : Nat) : (c.setEff k e).flt = c.flt := rfl
@[simp] theorem Chip.setEff_pwr (c : Chip) (k e : Nat) : (c.setEff k e).pwr = c.pwr := rfl
@[simp] theorem Chip.setEff_sys (c : Chip) (k e : Nat) : (c.setEff k e).sys = c.sys := rfl
@[simp] theorem Chip.setEff_cmd (c : Chip) (k e : Nat) : (c.setEff k e).cmd = c.cmd := rfl
@[simp] theorem Chip.setEff_host (c : Chip) (k e : Nat) : (c.setEff k e).host = c.host := rfl
@[simp] theorem Chip.setEff_dtm (c : Chip) (k e : Nat) : (c.setEff k e).dtm = c.dtm := rfl
@[simp] theorem Chip.setEff_clk (c : Chip) (k e : Nat) : (c.setEff k e).clk = c.clk := rfl
@[simp] theorem Chip.setEff_sap (c : Chip) (k e : Nat) : (c.setEff k e).sap = c.sap := rfl
@[simp] theorem Chip.setEff_cues (c : Chip) (k e : Nat) : (c.setEff k e).cues = c.cues := rfl
@[simp] theorem Chip.setEff_net (c : Chip) (k e : Nat) : (c.setEff k e).net = c.net := rfl
@[simp] theorem Chip.setEff_drv (c : Chip) (k e : Nat) : (c.setEff k e).drv = c.drv := rfl
@[simp] theorem Chip.setEff_pair (c : Chip) (k e : Nat) : (c.setEff k e).pair = c.pair := rfl
@[simp] theorem Chip.setEff_dma (c : Chip) (k e : Nat) : (c.setEff k e).dma = c.dma := rfl
@[simp] theorem Chip.setEff_ddr (c : Chip) (k e : Nat) : (c.setEff k e).ddr = c.ddr := rfl
@[simp] theorem Chip.setEff_ports (c : Chip) (k e : Nat) : (c.setEff k e).ports = c.ports := rfl
@[simp] theorem Chip.setEff_msix (c : Chip) (k e : Nat) : (c.setEff k e).msix = c.msix := rfl
@[simp] theorem Chip.setEff_raised (c : Chip) (k e : Nat) : (c.setEff k e).raised = c.raised := rfl
@[simp] theorem Chip.setEff_nfree (c : Chip) (k e : Nat) : (c.setEff k e).nfree = c.nfree := rfl
@[simp] theorem Chip.signal_eng (c : Chip) (v : Nat) : (c.signal v).eng = c.eng := rfl
@[simp] theorem Chip.signal_cells (c : Chip) (v : Nat) : (c.signal v).cells = c.cells := rfl
@[simp] theorem Chip.signal_graph (c : Chip) (v : Nat) : (c.signal v).graph = c.graph := rfl
@[simp] theorem Chip.signal_chain (c : Chip) (v : Nat) : (c.signal v).chain = c.chain := rfl
@[simp] theorem Chip.signal_mem (c : Chip) (v : Nat) : (c.signal v).mem = c.mem := rfl
@[simp] theorem Chip.signal_regs (c : Chip) (v : Nat) : (c.signal v).regs = c.regs := rfl
@[simp] theorem Chip.signal_flt (c : Chip) (v : Nat) : (c.signal v).flt = c.flt := rfl
@[simp] theorem Chip.signal_pwr (c : Chip) (v : Nat) : (c.signal v).pwr = c.pwr := rfl
@[simp] theorem Chip.signal_sys (c : Chip) (v : Nat) : (c.signal v).sys = c.sys := rfl
@[simp] theorem Chip.signal_cmd (c : Chip) (v : Nat) : (c.signal v).cmd = c.cmd := rfl
@[simp] theorem Chip.signal_host (c : Chip) (v : Nat) : (c.signal v).host = c.host := rfl
@[simp] theorem Chip.signal_dtm (c : Chip) (v : Nat) : (c.signal v).dtm = c.dtm := rfl
@[simp] theorem Chip.signal_clk (c : Chip) (v : Nat) : (c.signal v).clk = c.clk := rfl
@[simp] theorem Chip.signal_sap (c : Chip) (v : Nat) : (c.signal v).sap = c.sap := rfl
@[simp] theorem Chip.signal_cues (c : Chip) (v : Nat) : (c.signal v).cues = c.cues := rfl
@[simp] theorem Chip.signal_net (c : Chip) (v : Nat) : (c.signal v).net = c.net := rfl
@[simp] theorem Chip.signal_drv (c : Chip) (v : Nat) : (c.signal v).drv = c.drv := rfl
@[simp] theorem Chip.signal_pair (c : Chip) (v : Nat) : (c.signal v).pair = c.pair := rfl
@[simp] theorem Chip.signal_dma (c : Chip) (v : Nat) : (c.signal v).dma = c.dma := rfl
@[simp] theorem Chip.signal_ddr (c : Chip) (v : Nat) : (c.signal v).ddr = c.ddr := rfl
@[simp] theorem Chip.signal_ports (c : Chip) (v : Nat) : (c.signal v).ports = c.ports := rfl
@[simp] theorem Chip.signal_raised (c : Chip) (v : Nat) : (c.signal v).raised = c.raised := rfl
@[simp] theorem Chip.signal_nfree (c : Chip) (v : Nat) : (c.signal v).nfree = c.nfree := rfl
@[simp] theorem Chip.free_eng (c : Chip) : c.free.2.eng = c.eng := rfl
@[simp] theorem Chip.free_cells (c : Chip) : c.free.2.cells = c.cells := rfl
@[simp] theorem Chip.free_graph (c : Chip) : c.free.2.graph = c.graph := rfl
@[simp] theorem Chip.free_chain (c : Chip) : c.free.2.chain = c.chain := rfl
@[simp] theorem Chip.free_mem (c : Chip) : c.free.2.mem = c.mem := rfl
@[simp] theorem Chip.free_regs (c : Chip) : c.free.2.regs = c.regs := rfl
@[simp] theorem Chip.free_flt (c : Chip) : c.free.2.flt = c.flt := rfl
@[simp] theorem Chip.free_pwr (c : Chip) : c.free.2.pwr = c.pwr := rfl
@[simp] theorem Chip.free_sys (c : Chip) : c.free.2.sys = c.sys := rfl
@[simp] theorem Chip.free_cmd (c : Chip) : c.free.2.cmd = c.cmd := rfl
@[simp] theorem Chip.free_host (c : Chip) : c.free.2.host = c.host := rfl
@[simp] theorem Chip.free_dtm (c : Chip) : c.free.2.dtm = c.dtm := rfl
@[simp] theorem Chip.free_clk (c : Chip) : c.free.2.clk = c.clk := rfl
@[simp] theorem Chip.free_sap (c : Chip) : c.free.2.sap = c.sap := rfl
@[simp] theorem Chip.free_cues (c : Chip) : c.free.2.cues = c.cues := rfl
@[simp] theorem Chip.free_net (c : Chip) : c.free.2.net = c.net := rfl
@[simp] theorem Chip.free_drv (c : Chip) : c.free.2.drv = c.drv := rfl
@[simp] theorem Chip.free_pair (c : Chip) : c.free.2.pair = c.pair := rfl
@[simp] theorem Chip.free_dma (c : Chip) : c.free.2.dma = c.dma := rfl
@[simp] theorem Chip.free_ddr (c : Chip) : c.free.2.ddr = c.ddr := rfl
@[simp] theorem Chip.free_ports (c : Chip) : c.free.2.ports = c.ports := rfl
@[simp] theorem Chip.free_msix (c : Chip) : c.free.2.msix = c.msix := rfl
@[simp] theorem Chip.free_raised (c : Chip) : c.free.2.raised = c.raised := rfl

/-! ## Cells and the chain -/

@[simp] theorem Chip.setCell_eng (c : Chip) (i : Nat) (x : Cell) : (c.setCell i x).eng = c.eng := rfl
@[simp] theorem Chip.setCell_graph (c : Chip) (i : Nat) (x : Cell) : (c.setCell i x).graph = c.graph := rfl
@[simp] theorem Chip.setCell_chain (c : Chip) (i : Nat) (x : Cell) : (c.setCell i x).chain = c.chain := rfl
@[simp] theorem Chip.setCell_mem (c : Chip) (i : Nat) (x : Cell) : (c.setCell i x).mem = c.mem := rfl
@[simp] theorem Chip.setCell_regs (c : Chip) (i : Nat) (x : Cell) : (c.setCell i x).regs = c.regs := rfl
@[simp] theorem Chip.setCell_flt (c : Chip) (i : Nat) (x : Cell) : (c.setCell i x).flt = c.flt := rfl
@[simp] theorem Chip.setCell_pwr (c : Chip) (i : Nat) (x : Cell) : (c.setCell i x).pwr = c.pwr := rfl
@[simp] theorem Chip.setCell_sys (c : Chip) (i : Nat) (x : Cell) : (c.setCell i x).sys = c.sys := rfl
@[simp] theorem Chip.setCell_cmd (c : Chip) (i : Nat) (x : Cell) : (c.setCell i x).cmd = c.cmd := rfl
@[simp] theorem Chip.setCell_host (c : Chip) (i : Nat) (x : Cell) : (c.setCell i x).host = c.host := rfl
@[simp] theorem Chip.setCell_dtm (c : Chip) (i : Nat) (x : Cell) : (c.setCell i x).dtm = c.dtm := rfl
@[simp] theorem Chip.setCell_clk (c : Chip) (i : Nat) (x : Cell) : (c.setCell i x).clk = c.clk := rfl
@[simp] theorem Chip.setCell_sap (c : Chip) (i : Nat) (x : Cell) : (c.setCell i x).sap = c.sap := rfl
@[simp] theorem Chip.setCell_cues (c : Chip) (i : Nat) (x : Cell) : (c.setCell i x).cues = c.cues := rfl
@[simp] theorem Chip.setCell_net (c : Chip) (i : Nat) (x : Cell) : (c.setCell i x).net = c.net := rfl
@[simp] theorem Chip.setCell_drv (c : Chip) (i : Nat) (x : Cell) : (c.setCell i x).drv = c.drv := rfl
@[simp] theorem Chip.setCell_pair (c : Chip) (i : Nat) (x : Cell) : (c.setCell i x).pair = c.pair := rfl
@[simp] theorem Chip.setCell_dma (c : Chip) (i : Nat) (x : Cell) : (c.setCell i x).dma = c.dma := rfl
@[simp] theorem Chip.setCell_ddr (c : Chip) (i : Nat) (x : Cell) : (c.setCell i x).ddr = c.ddr := rfl
@[simp] theorem Chip.setCell_ports (c : Chip) (i : Nat) (x : Cell) : (c.setCell i x).ports = c.ports := rfl
@[simp] theorem Chip.setCell_msix (c : Chip) (i : Nat) (x : Cell) : (c.setCell i x).msix = c.msix := rfl
@[simp] theorem Chip.setCell_raised (c : Chip) (i : Nat) (x : Cell) : (c.setCell i x).raised = c.raised := rfl
@[simp] theorem Chip.setCell_nfree (c : Chip) (i : Nat) (x : Cell) : (c.setCell i x).nfree = c.nfree := rfl
@[simp] theorem Chip.modCell_eng (c : Chip) (i : Nat) (f : Cell → Cell) : (c.modCell i f).eng = c.eng := rfl
@[simp] theorem Chip.modCell_graph (c : Chip) (i : Nat) (f : Cell → Cell) : (c.modCell i f).graph = c.graph := rfl
@[simp] theorem Chip.modCell_chain (c : Chip) (i : Nat) (f : Cell → Cell) : (c.modCell i f).chain = c.chain := rfl
@[simp] theorem Chip.modCell_mem (c : Chip) (i : Nat) (f : Cell → Cell) : (c.modCell i f).mem = c.mem := rfl
@[simp] theorem Chip.modCell_regs (c : Chip) (i : Nat) (f : Cell → Cell) : (c.modCell i f).regs = c.regs := rfl
@[simp] theorem Chip.modCell_flt (c : Chip) (i : Nat) (f : Cell → Cell) : (c.modCell i f).flt = c.flt := rfl
@[simp] theorem Chip.modCell_pwr (c : Chip) (i : Nat) (f : Cell → Cell) : (c.modCell i f).pwr = c.pwr := rfl
@[simp] theorem Chip.modCell_sys (c : Chip) (i : Nat) (f : Cell → Cell) : (c.modCell i f).sys = c.sys := rfl
@[simp] theorem Chip.modCell_cmd (c : Chip) (i : Nat) (f : Cell → Cell) : (c.modCell i f).cmd = c.cmd := rfl
@[simp] theorem Chip.modCell_host (c : Chip) (i : Nat) (f : Cell → Cell) : (c.modCell i f).host = c.host := rfl
@[simp] theorem Chip.modCell_dtm (c : Chip) (i : Nat) (f : Cell → Cell) : (c.modCell i f).dtm = c.dtm := rfl
@[simp] theorem Chip.modCell_clk (c : Chip) (i : Nat) (f : Cell → Cell) : (c.modCell i f).clk = c.clk := rfl
@[simp] theorem Chip.modCell_sap (c : Chip) (i : Nat) (f : Cell → Cell) : (c.modCell i f).sap = c.sap := rfl
@[simp] theorem Chip.modCell_cues (c : Chip) (i : Nat) (f : Cell → Cell) : (c.modCell i f).cues = c.cues := rfl
@[simp] theorem Chip.modCell_net (c : Chip) (i : Nat) (f : Cell → Cell) : (c.modCell i f).net = c.net := rfl
@[simp] theorem Chip.modCell_drv (c : Chip) (i : Nat) (f : Cell → Cell) : (c.modCell i f).drv = c.drv := rfl
@[simp] theorem Chip.modCell_pair (c : Chip) (i : Nat) (f : Cell → Cell) : (c.modCell i f).pair = c.pair := rfl
@[simp] theorem Chip.modCell_dma (c : Chip) (i : Nat) (f : Cell → Cell) : (c.modCell i f).dma = c.dma := rfl
@[simp] theorem Chip.modCell_ddr (c : Chip) (i : Nat) (f : Cell → Cell) : (c.modCell i f).ddr = c.ddr := rfl
@[simp] theorem Chip.modCell_ports (c : Chip) (i : Nat) (f : Cell → Cell) : (c.modCell i f).ports = c.ports := rfl
@[simp] theorem Chip.modCell_msix (c : Chip) (i : Nat) (f : Cell → Cell) : (c.modCell i f).msix = c.msix := rfl
@[simp] theorem Chip.modCell_raised (c : Chip) (i : Nat) (f : Cell → Cell) : (c.modCell i f).raised = c.raised := rfl
@[simp] theorem Chip.modCell_nfree (c : Chip) (i : Nat) (f : Cell → Cell) : (c.modCell i f).nfree = c.nfree := rfl
@[simp] theorem Chip.setIn_eng (c : Chip) (k : Nat) (v : InCh) : (c.setIn k v).eng = c.eng := rfl
@[simp] theorem Chip.setIn_cells (c : Chip) (k : Nat) (v : InCh) : (c.setIn k v).cells = c.cells := rfl
@[simp] theorem Chip.setIn_graph (c : Chip) (k : Nat) (v : InCh) : (c.setIn k v).graph = c.graph := rfl
@[simp] theorem Chip.setIn_mem (c : Chip) (k : Nat) (v : InCh) : (c.setIn k v).mem = c.mem := rfl
@[simp] theorem Chip.setIn_regs (c : Chip) (k : Nat) (v : InCh) : (c.setIn k v).regs = c.regs := rfl
@[simp] theorem Chip.setIn_flt (c : Chip) (k : Nat) (v : InCh) : (c.setIn k v).flt = c.flt := rfl
@[simp] theorem Chip.setIn_pwr (c : Chip) (k : Nat) (v : InCh) : (c.setIn k v).pwr = c.pwr := rfl
@[simp] theorem Chip.setIn_sys (c : Chip) (k : Nat) (v : InCh) : (c.setIn k v).sys = c.sys := rfl
@[simp] theorem Chip.setIn_cmd (c : Chip) (k : Nat) (v : InCh) : (c.setIn k v).cmd = c.cmd := rfl
@[simp] theorem Chip.setIn_host (c : Chip) (k : Nat) (v : InCh) : (c.setIn k v).host = c.host := rfl
@[simp] theorem Chip.setIn_dtm (c : Chip) (k : Nat) (v : InCh) : (c.setIn k v).dtm = c.dtm := rfl
@[simp] theorem Chip.setIn_clk (c : Chip) (k : Nat) (v : InCh) : (c.setIn k v).clk = c.clk := rfl
@[simp] theorem Chip.setIn_sap (c : Chip) (k : Nat) (v : InCh) : (c.setIn k v).sap = c.sap := rfl
@[simp] theorem Chip.setIn_cues (c : Chip) (k : Nat) (v : InCh) : (c.setIn k v).cues = c.cues := rfl
@[simp] theorem Chip.setIn_net (c : Chip) (k : Nat) (v : InCh) : (c.setIn k v).net = c.net := rfl
@[simp] theorem Chip.setIn_drv (c : Chip) (k : Nat) (v : InCh) : (c.setIn k v).drv = c.drv := rfl
@[simp] theorem Chip.setIn_pair (c : Chip) (k : Nat) (v : InCh) : (c.setIn k v).pair = c.pair := rfl
@[simp] theorem Chip.setIn_dma (c : Chip) (k : Nat) (v : InCh) : (c.setIn k v).dma = c.dma := rfl
@[simp] theorem Chip.setIn_ddr (c : Chip) (k : Nat) (v : InCh) : (c.setIn k v).ddr = c.ddr := rfl
@[simp] theorem Chip.setIn_ports (c : Chip) (k : Nat) (v : InCh) : (c.setIn k v).ports = c.ports := rfl
@[simp] theorem Chip.setIn_msix (c : Chip) (k : Nat) (v : InCh) : (c.setIn k v).msix = c.msix := rfl
@[simp] theorem Chip.setIn_raised (c : Chip) (k : Nat) (v : InCh) : (c.setIn k v).raised = c.raised := rfl
@[simp] theorem Chip.setIn_nfree (c : Chip) (k : Nat) (v : InCh) : (c.setIn k v).nfree = c.nfree := rfl
@[simp] theorem Chip.setOut_eng (c : Chip) (k : Nat) (v : OutCh) : (c.setOut k v).eng = c.eng := rfl
@[simp] theorem Chip.setOut_cells (c : Chip) (k : Nat) (v : OutCh) : (c.setOut k v).cells = c.cells := rfl
@[simp] theorem Chip.setOut_graph (c : Chip) (k : Nat) (v : OutCh) : (c.setOut k v).graph = c.graph := rfl
@[simp] theorem Chip.setOut_mem (c : Chip) (k : Nat) (v : OutCh) : (c.setOut k v).mem = c.mem := rfl
@[simp] theorem Chip.setOut_regs (c : Chip) (k : Nat) (v : OutCh) : (c.setOut k v).regs = c.regs := rfl
@[simp] theorem Chip.setOut_flt (c : Chip) (k : Nat) (v : OutCh) : (c.setOut k v).flt = c.flt := rfl
@[simp] theorem Chip.setOut_pwr (c : Chip) (k : Nat) (v : OutCh) : (c.setOut k v).pwr = c.pwr := rfl
@[simp] theorem Chip.setOut_sys (c : Chip) (k : Nat) (v : OutCh) : (c.setOut k v).sys = c.sys := rfl
@[simp] theorem Chip.setOut_cmd (c : Chip) (k : Nat) (v : OutCh) : (c.setOut k v).cmd = c.cmd := rfl
@[simp] theorem Chip.setOut_host (c : Chip) (k : Nat) (v : OutCh) : (c.setOut k v).host = c.host := rfl
@[simp] theorem Chip.setOut_dtm (c : Chip) (k : Nat) (v : OutCh) : (c.setOut k v).dtm = c.dtm := rfl
@[simp] theorem Chip.setOut_clk (c : Chip) (k : Nat) (v : OutCh) : (c.setOut k v).clk = c.clk := rfl
@[simp] theorem Chip.setOut_sap (c : Chip) (k : Nat) (v : OutCh) : (c.setOut k v).sap = c.sap := rfl
@[simp] theorem Chip.setOut_cues (c : Chip) (k : Nat) (v : OutCh) : (c.setOut k v).cues = c.cues := rfl
@[simp] theorem Chip.setOut_net (c : Chip) (k : Nat) (v : OutCh) : (c.setOut k v).net = c.net := rfl
@[simp] theorem Chip.setOut_drv (c : Chip) (k : Nat) (v : OutCh) : (c.setOut k v).drv = c.drv := rfl
@[simp] theorem Chip.setOut_pair (c : Chip) (k : Nat) (v : OutCh) : (c.setOut k v).pair = c.pair := rfl
@[simp] theorem Chip.setOut_dma (c : Chip) (k : Nat) (v : OutCh) : (c.setOut k v).dma = c.dma := rfl
@[simp] theorem Chip.setOut_ddr (c : Chip) (k : Nat) (v : OutCh) : (c.setOut k v).ddr = c.ddr := rfl
@[simp] theorem Chip.setOut_ports (c : Chip) (k : Nat) (v : OutCh) : (c.setOut k v).ports = c.ports := rfl
@[simp] theorem Chip.setOut_msix (c : Chip) (k : Nat) (v : OutCh) : (c.setOut k v).msix = c.msix := rfl
@[simp] theorem Chip.setOut_raised (c : Chip) (k : Nat) (v : OutCh) : (c.setOut k v).raised = c.raised := rfl
@[simp] theorem Chip.setOut_nfree (c : Chip) (k : Nat) (v : OutCh) : (c.setOut k v).nfree = c.nfree := rfl
@[simp] theorem Chip.modOut_eng (c : Chip) (k : Nat) (f : OutCh → OutCh) : (c.modOut k f).eng = c.eng := rfl
@[simp] theorem Chip.modOut_cells (c : Chip) (k : Nat) (f : OutCh → OutCh) : (c.modOut k f).cells = c.cells := rfl
@[simp] theorem Chip.modOut_graph (c : Chip) (k : Nat) (f : OutCh → OutCh) : (c.modOut k f).graph = c.graph := rfl
@[simp] theorem Chip.modOut_mem (c : Chip) (k : Nat) (f : OutCh → OutCh) : (c.modOut k f).mem = c.mem := rfl
@[simp] theorem Chip.modOut_regs (c : Chip) (k : Nat) (f : OutCh → OutCh) : (c.modOut k f).regs = c.regs := rfl
@[simp] theorem Chip.modOut_flt (c : Chip) (k : Nat) (f : OutCh → OutCh) : (c.modOut k f).flt = c.flt := rfl
@[simp] theorem Chip.modOut_pwr (c : Chip) (k : Nat) (f : OutCh → OutCh) : (c.modOut k f).pwr = c.pwr := rfl
@[simp] theorem Chip.modOut_sys (c : Chip) (k : Nat) (f : OutCh → OutCh) : (c.modOut k f).sys = c.sys := rfl
@[simp] theorem Chip.modOut_cmd (c : Chip) (k : Nat) (f : OutCh → OutCh) : (c.modOut k f).cmd = c.cmd := rfl
@[simp] theorem Chip.modOut_host (c : Chip) (k : Nat) (f : OutCh → OutCh) : (c.modOut k f).host = c.host := rfl
@[simp] theorem Chip.modOut_dtm (c : Chip) (k : Nat) (f : OutCh → OutCh) : (c.modOut k f).dtm = c.dtm := rfl
@[simp] theorem Chip.modOut_clk (c : Chip) (k : Nat) (f : OutCh → OutCh) : (c.modOut k f).clk = c.clk := rfl
@[simp] theorem Chip.modOut_sap (c : Chip) (k : Nat) (f : OutCh → OutCh) : (c.modOut k f).sap = c.sap := rfl
@[simp] theorem Chip.modOut_cues (c : Chip) (k : Nat) (f : OutCh → OutCh) : (c.modOut k f).cues = c.cues := rfl
@[simp] theorem Chip.modOut_net (c : Chip) (k : Nat) (f : OutCh → OutCh) : (c.modOut k f).net = c.net := rfl
@[simp] theorem Chip.modOut_drv (c : Chip) (k : Nat) (f : OutCh → OutCh) : (c.modOut k f).drv = c.drv := rfl
@[simp] theorem Chip.modOut_pair (c : Chip) (k : Nat) (f : OutCh → OutCh) : (c.modOut k f).pair = c.pair := rfl
@[simp] theorem Chip.modOut_dma (c : Chip) (k : Nat) (f : OutCh → OutCh) : (c.modOut k f).dma = c.dma := rfl
@[simp] theorem Chip.modOut_ddr (c : Chip) (k : Nat) (f : OutCh → OutCh) : (c.modOut k f).ddr = c.ddr := rfl
@[simp] theorem Chip.modOut_ports (c : Chip) (k : Nat) (f : OutCh → OutCh) : (c.modOut k f).ports = c.ports := rfl
@[simp] theorem Chip.modOut_msix (c : Chip) (k : Nat) (f : OutCh → OutCh) : (c.modOut k f).msix = c.msix := rfl
@[simp] theorem Chip.modOut_raised (c : Chip) (k : Nat) (f : OutCh → OutCh) : (c.modOut k f).raised = c.raised := rfl
@[simp] theorem Chip.modOut_nfree (c : Chip) (k : Nat) (f : OutCh → OutCh) : (c.modOut k f).nfree = c.nfree := rfl
@[simp] theorem Chip.setStaging_eng (c : Chip) (k : Nat) (v : Sample) : (c.setStaging k v).eng = c.eng := rfl
@[simp] theorem Chip.setStaging_cells (c : Chip) (k : Nat) (v : Sample) : (c.setStaging k v).cells = c.cells := rfl
@[simp] theorem Chip.setStaging_graph (c : Chip) (k : Nat) (v : Sample) : (c.setStaging k v).graph = c.graph := rfl
@[simp] theorem Chip.setStaging_mem (c : Chip) (k : Nat) (v : Sample) : (c.setStaging k v).mem = c.mem := rfl
@[simp] theorem Chip.setStaging_regs (c : Chip) (k : Nat) (v : Sample) : (c.setStaging k v).regs = c.regs := rfl
@[simp] theorem Chip.setStaging_flt (c : Chip) (k : Nat) (v : Sample) : (c.setStaging k v).flt = c.flt := rfl
@[simp] theorem Chip.setStaging_pwr (c : Chip) (k : Nat) (v : Sample) : (c.setStaging k v).pwr = c.pwr := rfl
@[simp] theorem Chip.setStaging_sys (c : Chip) (k : Nat) (v : Sample) : (c.setStaging k v).sys = c.sys := rfl
@[simp] theorem Chip.setStaging_cmd (c : Chip) (k : Nat) (v : Sample) : (c.setStaging k v).cmd = c.cmd := rfl
@[simp] theorem Chip.setStaging_host (c : Chip) (k : Nat) (v : Sample) : (c.setStaging k v).host = c.host := rfl
@[simp] theorem Chip.setStaging_dtm (c : Chip) (k : Nat) (v : Sample) : (c.setStaging k v).dtm = c.dtm := rfl
@[simp] theorem Chip.setStaging_clk (c : Chip) (k : Nat) (v : Sample) : (c.setStaging k v).clk = c.clk := rfl
@[simp] theorem Chip.setStaging_sap (c : Chip) (k : Nat) (v : Sample) : (c.setStaging k v).sap = c.sap := rfl
@[simp] theorem Chip.setStaging_cues (c : Chip) (k : Nat) (v : Sample) : (c.setStaging k v).cues = c.cues := rfl
@[simp] theorem Chip.setStaging_net (c : Chip) (k : Nat) (v : Sample) : (c.setStaging k v).net = c.net := rfl
@[simp] theorem Chip.setStaging_drv (c : Chip) (k : Nat) (v : Sample) : (c.setStaging k v).drv = c.drv := rfl
@[simp] theorem Chip.setStaging_pair (c : Chip) (k : Nat) (v : Sample) : (c.setStaging k v).pair = c.pair := rfl
@[simp] theorem Chip.setStaging_dma (c : Chip) (k : Nat) (v : Sample) : (c.setStaging k v).dma = c.dma := rfl
@[simp] theorem Chip.setStaging_ddr (c : Chip) (k : Nat) (v : Sample) : (c.setStaging k v).ddr = c.ddr := rfl
@[simp] theorem Chip.setStaging_ports (c : Chip) (k : Nat) (v : Sample) : (c.setStaging k v).ports = c.ports := rfl
@[simp] theorem Chip.setStaging_msix (c : Chip) (k : Nat) (v : Sample) : (c.setStaging k v).msix = c.msix := rfl
@[simp] theorem Chip.setStaging_raised (c : Chip) (k : Nat) (v : Sample) : (c.setStaging k v).raised = c.raised := rfl
@[simp] theorem Chip.setStaging_nfree (c : Chip) (k : Nat) (v : Sample) : (c.setStaging k v).nfree = c.nfree := rfl
@[simp] theorem Chip.setInbound_eng (c : Chip) (k : Nat) (v : Sample) : (c.setInbound k v).eng = c.eng := rfl
@[simp] theorem Chip.setInbound_cells (c : Chip) (k : Nat) (v : Sample) : (c.setInbound k v).cells = c.cells := rfl
@[simp] theorem Chip.setInbound_graph (c : Chip) (k : Nat) (v : Sample) : (c.setInbound k v).graph = c.graph := rfl
@[simp] theorem Chip.setInbound_mem (c : Chip) (k : Nat) (v : Sample) : (c.setInbound k v).mem = c.mem := rfl
@[simp] theorem Chip.setInbound_regs (c : Chip) (k : Nat) (v : Sample) : (c.setInbound k v).regs = c.regs := rfl
@[simp] theorem Chip.setInbound_flt (c : Chip) (k : Nat) (v : Sample) : (c.setInbound k v).flt = c.flt := rfl
@[simp] theorem Chip.setInbound_pwr (c : Chip) (k : Nat) (v : Sample) : (c.setInbound k v).pwr = c.pwr := rfl
@[simp] theorem Chip.setInbound_sys (c : Chip) (k : Nat) (v : Sample) : (c.setInbound k v).sys = c.sys := rfl
@[simp] theorem Chip.setInbound_cmd (c : Chip) (k : Nat) (v : Sample) : (c.setInbound k v).cmd = c.cmd := rfl
@[simp] theorem Chip.setInbound_host (c : Chip) (k : Nat) (v : Sample) : (c.setInbound k v).host = c.host := rfl
@[simp] theorem Chip.setInbound_dtm (c : Chip) (k : Nat) (v : Sample) : (c.setInbound k v).dtm = c.dtm := rfl
@[simp] theorem Chip.setInbound_clk (c : Chip) (k : Nat) (v : Sample) : (c.setInbound k v).clk = c.clk := rfl
@[simp] theorem Chip.setInbound_sap (c : Chip) (k : Nat) (v : Sample) : (c.setInbound k v).sap = c.sap := rfl
@[simp] theorem Chip.setInbound_cues (c : Chip) (k : Nat) (v : Sample) : (c.setInbound k v).cues = c.cues := rfl
@[simp] theorem Chip.setInbound_net (c : Chip) (k : Nat) (v : Sample) : (c.setInbound k v).net = c.net := rfl
@[simp] theorem Chip.setInbound_drv (c : Chip) (k : Nat) (v : Sample) : (c.setInbound k v).drv = c.drv := rfl
@[simp] theorem Chip.setInbound_pair (c : Chip) (k : Nat) (v : Sample) : (c.setInbound k v).pair = c.pair := rfl
@[simp] theorem Chip.setInbound_dma (c : Chip) (k : Nat) (v : Sample) : (c.setInbound k v).dma = c.dma := rfl
@[simp] theorem Chip.setInbound_ddr (c : Chip) (k : Nat) (v : Sample) : (c.setInbound k v).ddr = c.ddr := rfl
@[simp] theorem Chip.setInbound_ports (c : Chip) (k : Nat) (v : Sample) : (c.setInbound k v).ports = c.ports := rfl
@[simp] theorem Chip.setInbound_msix (c : Chip) (k : Nat) (v : Sample) : (c.setInbound k v).msix = c.msix := rfl
@[simp] theorem Chip.setInbound_raised (c : Chip) (k : Nat) (v : Sample) : (c.setInbound k v).raised = c.raised := rfl
@[simp] theorem Chip.setInbound_nfree (c : Chip) (k : Nat) (v : Sample) : (c.setInbound k v).nfree = c.nfree := rfl
@[simp] theorem Chip.setLine_eng (c : Chip) (k : Nat) (v : LineState) : (c.setLine k v).eng = c.eng := rfl
@[simp] theorem Chip.setLine_cells (c : Chip) (k : Nat) (v : LineState) : (c.setLine k v).cells = c.cells := rfl
@[simp] theorem Chip.setLine_graph (c : Chip) (k : Nat) (v : LineState) : (c.setLine k v).graph = c.graph := rfl
@[simp] theorem Chip.setLine_mem (c : Chip) (k : Nat) (v : LineState) : (c.setLine k v).mem = c.mem := rfl
@[simp] theorem Chip.setLine_regs (c : Chip) (k : Nat) (v : LineState) : (c.setLine k v).regs = c.regs := rfl
@[simp] theorem Chip.setLine_flt (c : Chip) (k : Nat) (v : LineState) : (c.setLine k v).flt = c.flt := rfl
@[simp] theorem Chip.setLine_pwr (c : Chip) (k : Nat) (v : LineState) : (c.setLine k v).pwr = c.pwr := rfl
@[simp] theorem Chip.setLine_sys (c : Chip) (k : Nat) (v : LineState) : (c.setLine k v).sys = c.sys := rfl
@[simp] theorem Chip.setLine_cmd (c : Chip) (k : Nat) (v : LineState) : (c.setLine k v).cmd = c.cmd := rfl
@[simp] theorem Chip.setLine_host (c : Chip) (k : Nat) (v : LineState) : (c.setLine k v).host = c.host := rfl
@[simp] theorem Chip.setLine_dtm (c : Chip) (k : Nat) (v : LineState) : (c.setLine k v).dtm = c.dtm := rfl
@[simp] theorem Chip.setLine_clk (c : Chip) (k : Nat) (v : LineState) : (c.setLine k v).clk = c.clk := rfl
@[simp] theorem Chip.setLine_sap (c : Chip) (k : Nat) (v : LineState) : (c.setLine k v).sap = c.sap := rfl
@[simp] theorem Chip.setLine_cues (c : Chip) (k : Nat) (v : LineState) : (c.setLine k v).cues = c.cues := rfl
@[simp] theorem Chip.setLine_net (c : Chip) (k : Nat) (v : LineState) : (c.setLine k v).net = c.net := rfl
@[simp] theorem Chip.setLine_drv (c : Chip) (k : Nat) (v : LineState) : (c.setLine k v).drv = c.drv := rfl
@[simp] theorem Chip.setLine_pair (c : Chip) (k : Nat) (v : LineState) : (c.setLine k v).pair = c.pair := rfl
@[simp] theorem Chip.setLine_dma (c : Chip) (k : Nat) (v : LineState) : (c.setLine k v).dma = c.dma := rfl
@[simp] theorem Chip.setLine_ddr (c : Chip) (k : Nat) (v : LineState) : (c.setLine k v).ddr = c.ddr := rfl
@[simp] theorem Chip.setLine_ports (c : Chip) (k : Nat) (v : LineState) : (c.setLine k v).ports = c.ports := rfl
@[simp] theorem Chip.setLine_msix (c : Chip) (k : Nat) (v : LineState) : (c.setLine k v).msix = c.msix := rfl
@[simp] theorem Chip.setLine_raised (c : Chip) (k : Nat) (v : LineState) : (c.setLine k v).raised = c.raised := rfl
@[simp] theorem Chip.setLine_nfree (c : Chip) (k : Nat) (v : LineState) : (c.setLine k v).nfree = c.nfree := rfl
@[simp] theorem Chip.setTap_eng (c : Chip) (k : Nat) (v : TapState) : (c.setTap k v).eng = c.eng := rfl
@[simp] theorem Chip.setTap_cells (c : Chip) (k : Nat) (v : TapState) : (c.setTap k v).cells = c.cells := rfl
@[simp] theorem Chip.setTap_graph (c : Chip) (k : Nat) (v : TapState) : (c.setTap k v).graph = c.graph := rfl
@[simp] theorem Chip.setTap_mem (c : Chip) (k : Nat) (v : TapState) : (c.setTap k v).mem = c.mem := rfl
@[simp] theorem Chip.setTap_regs (c : Chip) (k : Nat) (v : TapState) : (c.setTap k v).regs = c.regs := rfl
@[simp] theorem Chip.setTap_flt (c : Chip) (k : Nat) (v : TapState) : (c.setTap k v).flt = c.flt := rfl
@[simp] theorem Chip.setTap_pwr (c : Chip) (k : Nat) (v : TapState) : (c.setTap k v).pwr = c.pwr := rfl
@[simp] theorem Chip.setTap_sys (c : Chip) (k : Nat) (v : TapState) : (c.setTap k v).sys = c.sys := rfl
@[simp] theorem Chip.setTap_cmd (c : Chip) (k : Nat) (v : TapState) : (c.setTap k v).cmd = c.cmd := rfl
@[simp] theorem Chip.setTap_host (c : Chip) (k : Nat) (v : TapState) : (c.setTap k v).host = c.host := rfl
@[simp] theorem Chip.setTap_dtm (c : Chip) (k : Nat) (v : TapState) : (c.setTap k v).dtm = c.dtm := rfl
@[simp] theorem Chip.setTap_clk (c : Chip) (k : Nat) (v : TapState) : (c.setTap k v).clk = c.clk := rfl
@[simp] theorem Chip.setTap_sap (c : Chip) (k : Nat) (v : TapState) : (c.setTap k v).sap = c.sap := rfl
@[simp] theorem Chip.setTap_cues (c : Chip) (k : Nat) (v : TapState) : (c.setTap k v).cues = c.cues := rfl
@[simp] theorem Chip.setTap_net (c : Chip) (k : Nat) (v : TapState) : (c.setTap k v).net = c.net := rfl
@[simp] theorem Chip.setTap_drv (c : Chip) (k : Nat) (v : TapState) : (c.setTap k v).drv = c.drv := rfl
@[simp] theorem Chip.setTap_pair (c : Chip) (k : Nat) (v : TapState) : (c.setTap k v).pair = c.pair := rfl
@[simp] theorem Chip.setTap_dma (c : Chip) (k : Nat) (v : TapState) : (c.setTap k v).dma = c.dma := rfl
@[simp] theorem Chip.setTap_ddr (c : Chip) (k : Nat) (v : TapState) : (c.setTap k v).ddr = c.ddr := rfl
@[simp] theorem Chip.setTap_ports (c : Chip) (k : Nat) (v : TapState) : (c.setTap k v).ports = c.ports := rfl
@[simp] theorem Chip.setTap_msix (c : Chip) (k : Nat) (v : TapState) : (c.setTap k v).msix = c.msix := rfl
@[simp] theorem Chip.setTap_raised (c : Chip) (k : Nat) (v : TapState) : (c.setTap k v).raised = c.raised := rfl
@[simp] theorem Chip.setTap_nfree (c : Chip) (k : Nat) (v : TapState) : (c.setTap k v).nfree = c.nfree := rfl
@[simp] theorem Chip.setTail_eng (c : Chip) (k : Nat) (v : Option Tail) : (c.setTail k v).eng = c.eng := rfl
@[simp] theorem Chip.setTail_cells (c : Chip) (k : Nat) (v : Option Tail) : (c.setTail k v).cells = c.cells := rfl
@[simp] theorem Chip.setTail_graph (c : Chip) (k : Nat) (v : Option Tail) : (c.setTail k v).graph = c.graph := rfl
@[simp] theorem Chip.setTail_mem (c : Chip) (k : Nat) (v : Option Tail) : (c.setTail k v).mem = c.mem := rfl
@[simp] theorem Chip.setTail_regs (c : Chip) (k : Nat) (v : Option Tail) : (c.setTail k v).regs = c.regs := rfl
@[simp] theorem Chip.setTail_flt (c : Chip) (k : Nat) (v : Option Tail) : (c.setTail k v).flt = c.flt := rfl
@[simp] theorem Chip.setTail_pwr (c : Chip) (k : Nat) (v : Option Tail) : (c.setTail k v).pwr = c.pwr := rfl
@[simp] theorem Chip.setTail_sys (c : Chip) (k : Nat) (v : Option Tail) : (c.setTail k v).sys = c.sys := rfl
@[simp] theorem Chip.setTail_cmd (c : Chip) (k : Nat) (v : Option Tail) : (c.setTail k v).cmd = c.cmd := rfl
@[simp] theorem Chip.setTail_host (c : Chip) (k : Nat) (v : Option Tail) : (c.setTail k v).host = c.host := rfl
@[simp] theorem Chip.setTail_dtm (c : Chip) (k : Nat) (v : Option Tail) : (c.setTail k v).dtm = c.dtm := rfl
@[simp] theorem Chip.setTail_clk (c : Chip) (k : Nat) (v : Option Tail) : (c.setTail k v).clk = c.clk := rfl
@[simp] theorem Chip.setTail_sap (c : Chip) (k : Nat) (v : Option Tail) : (c.setTail k v).sap = c.sap := rfl
@[simp] theorem Chip.setTail_cues (c : Chip) (k : Nat) (v : Option Tail) : (c.setTail k v).cues = c.cues := rfl
@[simp] theorem Chip.setTail_net (c : Chip) (k : Nat) (v : Option Tail) : (c.setTail k v).net = c.net := rfl
@[simp] theorem Chip.setTail_drv (c : Chip) (k : Nat) (v : Option Tail) : (c.setTail k v).drv = c.drv := rfl
@[simp] theorem Chip.setTail_pair (c : Chip) (k : Nat) (v : Option Tail) : (c.setTail k v).pair = c.pair := rfl
@[simp] theorem Chip.setTail_dma (c : Chip) (k : Nat) (v : Option Tail) : (c.setTail k v).dma = c.dma := rfl
@[simp] theorem Chip.setTail_ddr (c : Chip) (k : Nat) (v : Option Tail) : (c.setTail k v).ddr = c.ddr := rfl
@[simp] theorem Chip.setTail_ports (c : Chip) (k : Nat) (v : Option Tail) : (c.setTail k v).ports = c.ports := rfl
@[simp] theorem Chip.setTail_msix (c : Chip) (k : Nat) (v : Option Tail) : (c.setTail k v).msix = c.msix := rfl
@[simp] theorem Chip.setTail_raised (c : Chip) (k : Nat) (v : Option Tail) : (c.setTail k v).raised = c.raised := rfl
@[simp] theorem Chip.setTail_nfree (c : Chip) (k : Nat) (v : Option Tail) : (c.setTail k v).nfree = c.nfree := rfl
@[simp] theorem Chip.setBank_eng (c : Chip) (b : Bank) : (c.setBank b).eng = c.eng := rfl
@[simp] theorem Chip.setBank_cells (c : Chip) (b : Bank) : (c.setBank b).cells = c.cells := rfl
@[simp] theorem Chip.setBank_chain (c : Chip) (b : Bank) : (c.setBank b).chain = c.chain := rfl
@[simp] theorem Chip.setBank_mem (c : Chip) (b : Bank) : (c.setBank b).mem = c.mem := rfl
@[simp] theorem Chip.setBank_regs (c : Chip) (b : Bank) : (c.setBank b).regs = c.regs := rfl
@[simp] theorem Chip.setBank_flt (c : Chip) (b : Bank) : (c.setBank b).flt = c.flt := rfl
@[simp] theorem Chip.setBank_pwr (c : Chip) (b : Bank) : (c.setBank b).pwr = c.pwr := rfl
@[simp] theorem Chip.setBank_sys (c : Chip) (b : Bank) : (c.setBank b).sys = c.sys := rfl
@[simp] theorem Chip.setBank_cmd (c : Chip) (b : Bank) : (c.setBank b).cmd = c.cmd := rfl
@[simp] theorem Chip.setBank_host (c : Chip) (b : Bank) : (c.setBank b).host = c.host := rfl
@[simp] theorem Chip.setBank_dtm (c : Chip) (b : Bank) : (c.setBank b).dtm = c.dtm := rfl
@[simp] theorem Chip.setBank_clk (c : Chip) (b : Bank) : (c.setBank b).clk = c.clk := rfl
@[simp] theorem Chip.setBank_sap (c : Chip) (b : Bank) : (c.setBank b).sap = c.sap := rfl
@[simp] theorem Chip.setBank_cues (c : Chip) (b : Bank) : (c.setBank b).cues = c.cues := rfl
@[simp] theorem Chip.setBank_net (c : Chip) (b : Bank) : (c.setBank b).net = c.net := rfl
@[simp] theorem Chip.setBank_drv (c : Chip) (b : Bank) : (c.setBank b).drv = c.drv := rfl
@[simp] theorem Chip.setBank_pair (c : Chip) (b : Bank) : (c.setBank b).pair = c.pair := rfl
@[simp] theorem Chip.setBank_dma (c : Chip) (b : Bank) : (c.setBank b).dma = c.dma := rfl
@[simp] theorem Chip.setBank_ddr (c : Chip) (b : Bank) : (c.setBank b).ddr = c.ddr := rfl
@[simp] theorem Chip.setBank_ports (c : Chip) (b : Bank) : (c.setBank b).ports = c.ports := rfl
@[simp] theorem Chip.setBank_msix (c : Chip) (b : Bank) : (c.setBank b).msix = c.msix := rfl
@[simp] theorem Chip.setBank_raised (c : Chip) (b : Bank) : (c.setBank b).raised = c.raised := rfl
@[simp] theorem Chip.setBank_nfree (c : Chip) (b : Bank) : (c.setBank b).nfree = c.nfree := rfl
@[simp] theorem Chip.setStakes_eng (c : Chip) (t : Map Half) : (c.setStakes t).eng = c.eng := rfl
@[simp] theorem Chip.setStakes_cells (c : Chip) (t : Map Half) : (c.setStakes t).cells = c.cells := rfl
@[simp] theorem Chip.setStakes_chain (c : Chip) (t : Map Half) : (c.setStakes t).chain = c.chain := rfl
@[simp] theorem Chip.setStakes_mem (c : Chip) (t : Map Half) : (c.setStakes t).mem = c.mem := rfl
@[simp] theorem Chip.setStakes_regs (c : Chip) (t : Map Half) : (c.setStakes t).regs = c.regs := rfl
@[simp] theorem Chip.setStakes_flt (c : Chip) (t : Map Half) : (c.setStakes t).flt = c.flt := rfl
@[simp] theorem Chip.setStakes_pwr (c : Chip) (t : Map Half) : (c.setStakes t).pwr = c.pwr := rfl
@[simp] theorem Chip.setStakes_sys (c : Chip) (t : Map Half) : (c.setStakes t).sys = c.sys := rfl
@[simp] theorem Chip.setStakes_cmd (c : Chip) (t : Map Half) : (c.setStakes t).cmd = c.cmd := rfl
@[simp] theorem Chip.setStakes_host (c : Chip) (t : Map Half) : (c.setStakes t).host = c.host := rfl
@[simp] theorem Chip.setStakes_dtm (c : Chip) (t : Map Half) : (c.setStakes t).dtm = c.dtm := rfl
@[simp] theorem Chip.setStakes_clk (c : Chip) (t : Map Half) : (c.setStakes t).clk = c.clk := rfl
@[simp] theorem Chip.setStakes_sap (c : Chip) (t : Map Half) : (c.setStakes t).sap = c.sap := rfl
@[simp] theorem Chip.setStakes_cues (c : Chip) (t : Map Half) : (c.setStakes t).cues = c.cues := rfl
@[simp] theorem Chip.setStakes_net (c : Chip) (t : Map Half) : (c.setStakes t).net = c.net := rfl
@[simp] theorem Chip.setStakes_drv (c : Chip) (t : Map Half) : (c.setStakes t).drv = c.drv := rfl
@[simp] theorem Chip.setStakes_pair (c : Chip) (t : Map Half) : (c.setStakes t).pair = c.pair := rfl
@[simp] theorem Chip.setStakes_dma (c : Chip) (t : Map Half) : (c.setStakes t).dma = c.dma := rfl
@[simp] theorem Chip.setStakes_ddr (c : Chip) (t : Map Half) : (c.setStakes t).ddr = c.ddr := rfl
@[simp] theorem Chip.setStakes_ports (c : Chip) (t : Map Half) : (c.setStakes t).ports = c.ports := rfl
@[simp] theorem Chip.setStakes_msix (c : Chip) (t : Map Half) : (c.setStakes t).msix = c.msix := rfl
@[simp] theorem Chip.setStakes_raised (c : Chip) (t : Map Half) : (c.setStakes t).raised = c.raised := rfl
@[simp] theorem Chip.setStakes_nfree (c : Chip) (t : Map Half) : (c.setStakes t).nfree = c.nfree := rfl

/-! ## Channels -/

@[simp] theorem Chip.setChan_eng (c : Chip) (k : Nat) (v : Chan) : (c.setChan k v).eng = c.eng := rfl
@[simp] theorem Chip.setChan_cells (c : Chip) (k : Nat) (v : Chan) : (c.setChan k v).cells = c.cells := rfl
@[simp] theorem Chip.setChan_graph (c : Chip) (k : Nat) (v : Chan) : (c.setChan k v).graph = c.graph := rfl
@[simp] theorem Chip.setChan_chain (c : Chip) (k : Nat) (v : Chan) : (c.setChan k v).chain = c.chain := rfl
@[simp] theorem Chip.setChan_mem (c : Chip) (k : Nat) (v : Chan) : (c.setChan k v).mem = c.mem := rfl
@[simp] theorem Chip.setChan_regs (c : Chip) (k : Nat) (v : Chan) : (c.setChan k v).regs = c.regs := rfl
@[simp] theorem Chip.setChan_flt (c : Chip) (k : Nat) (v : Chan) : (c.setChan k v).flt = c.flt := rfl
@[simp] theorem Chip.setChan_pwr (c : Chip) (k : Nat) (v : Chan) : (c.setChan k v).pwr = c.pwr := rfl
@[simp] theorem Chip.setChan_sys (c : Chip) (k : Nat) (v : Chan) : (c.setChan k v).sys = c.sys := rfl
@[simp] theorem Chip.setChan_host (c : Chip) (k : Nat) (v : Chan) : (c.setChan k v).host = c.host := rfl
@[simp] theorem Chip.setChan_dtm (c : Chip) (k : Nat) (v : Chan) : (c.setChan k v).dtm = c.dtm := rfl
@[simp] theorem Chip.setChan_clk (c : Chip) (k : Nat) (v : Chan) : (c.setChan k v).clk = c.clk := rfl
@[simp] theorem Chip.setChan_sap (c : Chip) (k : Nat) (v : Chan) : (c.setChan k v).sap = c.sap := rfl
@[simp] theorem Chip.setChan_cues (c : Chip) (k : Nat) (v : Chan) : (c.setChan k v).cues = c.cues := rfl
@[simp] theorem Chip.setChan_net (c : Chip) (k : Nat) (v : Chan) : (c.setChan k v).net = c.net := rfl
@[simp] theorem Chip.setChan_drv (c : Chip) (k : Nat) (v : Chan) : (c.setChan k v).drv = c.drv := rfl
@[simp] theorem Chip.setChan_pair (c : Chip) (k : Nat) (v : Chan) : (c.setChan k v).pair = c.pair := rfl
@[simp] theorem Chip.setChan_dma (c : Chip) (k : Nat) (v : Chan) : (c.setChan k v).dma = c.dma := rfl
@[simp] theorem Chip.setChan_ddr (c : Chip) (k : Nat) (v : Chan) : (c.setChan k v).ddr = c.ddr := rfl
@[simp] theorem Chip.setChan_ports (c : Chip) (k : Nat) (v : Chan) : (c.setChan k v).ports = c.ports := rfl
@[simp] theorem Chip.setChan_msix (c : Chip) (k : Nat) (v : Chan) : (c.setChan k v).msix = c.msix := rfl
@[simp] theorem Chip.setChan_raised (c : Chip) (k : Nat) (v : Chan) : (c.setChan k v).raised = c.raised := rfl
@[simp] theorem Chip.setChan_nfree (c : Chip) (k : Nat) (v : Chan) : (c.setChan k v).nfree = c.nfree := rfl
@[simp] theorem Chip.modChan_eng (c : Chip) (k : Nat) (f : Chan → Chan) : (c.modChan k f).eng = c.eng := rfl
@[simp] theorem Chip.modChan_cells (c : Chip) (k : Nat) (f : Chan → Chan) : (c.modChan k f).cells = c.cells := rfl
@[simp] theorem Chip.modChan_graph (c : Chip) (k : Nat) (f : Chan → Chan) : (c.modChan k f).graph = c.graph := rfl
@[simp] theorem Chip.modChan_chain (c : Chip) (k : Nat) (f : Chan → Chan) : (c.modChan k f).chain = c.chain := rfl
@[simp] theorem Chip.modChan_mem (c : Chip) (k : Nat) (f : Chan → Chan) : (c.modChan k f).mem = c.mem := rfl
@[simp] theorem Chip.modChan_regs (c : Chip) (k : Nat) (f : Chan → Chan) : (c.modChan k f).regs = c.regs := rfl
@[simp] theorem Chip.modChan_flt (c : Chip) (k : Nat) (f : Chan → Chan) : (c.modChan k f).flt = c.flt := rfl
@[simp] theorem Chip.modChan_pwr (c : Chip) (k : Nat) (f : Chan → Chan) : (c.modChan k f).pwr = c.pwr := rfl
@[simp] theorem Chip.modChan_sys (c : Chip) (k : Nat) (f : Chan → Chan) : (c.modChan k f).sys = c.sys := rfl
@[simp] theorem Chip.modChan_host (c : Chip) (k : Nat) (f : Chan → Chan) : (c.modChan k f).host = c.host := rfl
@[simp] theorem Chip.modChan_dtm (c : Chip) (k : Nat) (f : Chan → Chan) : (c.modChan k f).dtm = c.dtm := rfl
@[simp] theorem Chip.modChan_clk (c : Chip) (k : Nat) (f : Chan → Chan) : (c.modChan k f).clk = c.clk := rfl
@[simp] theorem Chip.modChan_sap (c : Chip) (k : Nat) (f : Chan → Chan) : (c.modChan k f).sap = c.sap := rfl
@[simp] theorem Chip.modChan_cues (c : Chip) (k : Nat) (f : Chan → Chan) : (c.modChan k f).cues = c.cues := rfl
@[simp] theorem Chip.modChan_net (c : Chip) (k : Nat) (f : Chan → Chan) : (c.modChan k f).net = c.net := rfl
@[simp] theorem Chip.modChan_drv (c : Chip) (k : Nat) (f : Chan → Chan) : (c.modChan k f).drv = c.drv := rfl
@[simp] theorem Chip.modChan_pair (c : Chip) (k : Nat) (f : Chan → Chan) : (c.modChan k f).pair = c.pair := rfl
@[simp] theorem Chip.modChan_dma (c : Chip) (k : Nat) (f : Chan → Chan) : (c.modChan k f).dma = c.dma := rfl
@[simp] theorem Chip.modChan_ddr (c : Chip) (k : Nat) (f : Chan → Chan) : (c.modChan k f).ddr = c.ddr := rfl
@[simp] theorem Chip.modChan_ports (c : Chip) (k : Nat) (f : Chan → Chan) : (c.modChan k f).ports = c.ports := rfl
@[simp] theorem Chip.modChan_msix (c : Chip) (k : Nat) (f : Chan → Chan) : (c.modChan k f).msix = c.msix := rfl
@[simp] theorem Chip.modChan_raised (c : Chip) (k : Nat) (f : Chan → Chan) : (c.modChan k f).raised = c.raised := rfl
@[simp] theorem Chip.modChan_nfree (c : Chip) (k : Nat) (f : Chan → Chan) : (c.modChan k f).nfree = c.nfree := rfl
@[simp] theorem Chip.unqueue_eng (c : Chip) (k : Nat) : (c.unqueue k).eng = c.eng := rfl
@[simp] theorem Chip.unqueue_cells (c : Chip) (k : Nat) : (c.unqueue k).cells = c.cells := rfl
@[simp] theorem Chip.unqueue_graph (c : Chip) (k : Nat) : (c.unqueue k).graph = c.graph := rfl
@[simp] theorem Chip.unqueue_chain (c : Chip) (k : Nat) : (c.unqueue k).chain = c.chain := rfl
@[simp] theorem Chip.unqueue_mem (c : Chip) (k : Nat) : (c.unqueue k).mem = c.mem := rfl
@[simp] theorem Chip.unqueue_regs (c : Chip) (k : Nat) : (c.unqueue k).regs = c.regs := rfl
@[simp] theorem Chip.unqueue_flt (c : Chip) (k : Nat) : (c.unqueue k).flt = c.flt := rfl
@[simp] theorem Chip.unqueue_pwr (c : Chip) (k : Nat) : (c.unqueue k).pwr = c.pwr := rfl
@[simp] theorem Chip.unqueue_sys (c : Chip) (k : Nat) : (c.unqueue k).sys = c.sys := rfl
@[simp] theorem Chip.unqueue_host (c : Chip) (k : Nat) : (c.unqueue k).host = c.host := rfl
@[simp] theorem Chip.unqueue_dtm (c : Chip) (k : Nat) : (c.unqueue k).dtm = c.dtm := rfl
@[simp] theorem Chip.unqueue_clk (c : Chip) (k : Nat) : (c.unqueue k).clk = c.clk := rfl
@[simp] theorem Chip.unqueue_sap (c : Chip) (k : Nat) : (c.unqueue k).sap = c.sap := rfl
@[simp] theorem Chip.unqueue_cues (c : Chip) (k : Nat) : (c.unqueue k).cues = c.cues := rfl
@[simp] theorem Chip.unqueue_net (c : Chip) (k : Nat) : (c.unqueue k).net = c.net := rfl
@[simp] theorem Chip.unqueue_drv (c : Chip) (k : Nat) : (c.unqueue k).drv = c.drv := rfl
@[simp] theorem Chip.unqueue_pair (c : Chip) (k : Nat) : (c.unqueue k).pair = c.pair := rfl
@[simp] theorem Chip.unqueue_dma (c : Chip) (k : Nat) : (c.unqueue k).dma = c.dma := rfl
@[simp] theorem Chip.unqueue_ddr (c : Chip) (k : Nat) : (c.unqueue k).ddr = c.ddr := rfl
@[simp] theorem Chip.unqueue_ports (c : Chip) (k : Nat) : (c.unqueue k).ports = c.ports := rfl
@[simp] theorem Chip.unqueue_msix (c : Chip) (k : Nat) : (c.unqueue k).msix = c.msix := rfl
@[simp] theorem Chip.unqueue_raised (c : Chip) (k : Nat) : (c.unqueue k).raised = c.raised := rfl
@[simp] theorem Chip.unqueue_nfree (c : Chip) (k : Nat) : (c.unqueue k).nfree = c.nfree := rfl
@[simp] theorem Chip.answer_eng (c : Chip) (k r : Nat) (t : DWord) (b : List Byte) : (c.answer k r t b).eng = c.eng := rfl
@[simp] theorem Chip.answer_cells (c : Chip) (k r : Nat) (t : DWord) (b : List Byte) : (c.answer k r t b).cells = c.cells := rfl
@[simp] theorem Chip.answer_graph (c : Chip) (k r : Nat) (t : DWord) (b : List Byte) : (c.answer k r t b).graph = c.graph := rfl
@[simp] theorem Chip.answer_chain (c : Chip) (k r : Nat) (t : DWord) (b : List Byte) : (c.answer k r t b).chain = c.chain := rfl
@[simp] theorem Chip.answer_mem (c : Chip) (k r : Nat) (t : DWord) (b : List Byte) : (c.answer k r t b).mem = c.mem := rfl
@[simp] theorem Chip.answer_regs (c : Chip) (k r : Nat) (t : DWord) (b : List Byte) : (c.answer k r t b).regs = c.regs := rfl
@[simp] theorem Chip.answer_flt (c : Chip) (k r : Nat) (t : DWord) (b : List Byte) : (c.answer k r t b).flt = c.flt := rfl
@[simp] theorem Chip.answer_pwr (c : Chip) (k r : Nat) (t : DWord) (b : List Byte) : (c.answer k r t b).pwr = c.pwr := rfl
@[simp] theorem Chip.answer_sys (c : Chip) (k r : Nat) (t : DWord) (b : List Byte) : (c.answer k r t b).sys = c.sys := rfl
@[simp] theorem Chip.answer_host (c : Chip) (k r : Nat) (t : DWord) (b : List Byte) : (c.answer k r t b).host = c.host := rfl
@[simp] theorem Chip.answer_dtm (c : Chip) (k r : Nat) (t : DWord) (b : List Byte) : (c.answer k r t b).dtm = c.dtm := rfl
@[simp] theorem Chip.answer_clk (c : Chip) (k r : Nat) (t : DWord) (b : List Byte) : (c.answer k r t b).clk = c.clk := rfl
@[simp] theorem Chip.answer_sap (c : Chip) (k r : Nat) (t : DWord) (b : List Byte) : (c.answer k r t b).sap = c.sap := rfl
@[simp] theorem Chip.answer_cues (c : Chip) (k r : Nat) (t : DWord) (b : List Byte) : (c.answer k r t b).cues = c.cues := rfl
@[simp] theorem Chip.answer_net (c : Chip) (k r : Nat) (t : DWord) (b : List Byte) : (c.answer k r t b).net = c.net := rfl
@[simp] theorem Chip.answer_drv (c : Chip) (k r : Nat) (t : DWord) (b : List Byte) : (c.answer k r t b).drv = c.drv := rfl
@[simp] theorem Chip.answer_pair (c : Chip) (k r : Nat) (t : DWord) (b : List Byte) : (c.answer k r t b).pair = c.pair := rfl
@[simp] theorem Chip.answer_dma (c : Chip) (k r : Nat) (t : DWord) (b : List Byte) : (c.answer k r t b).dma = c.dma := rfl
@[simp] theorem Chip.answer_ddr (c : Chip) (k r : Nat) (t : DWord) (b : List Byte) : (c.answer k r t b).ddr = c.ddr := rfl
@[simp] theorem Chip.answer_ports (c : Chip) (k r : Nat) (t : DWord) (b : List Byte) : (c.answer k r t b).ports = c.ports := rfl
@[simp] theorem Chip.answer_msix (c : Chip) (k r : Nat) (t : DWord) (b : List Byte) : (c.answer k r t b).msix = c.msix := rfl
@[simp] theorem Chip.answer_raised (c : Chip) (k r : Nat) (t : DWord) (b : List Byte) : (c.answer k r t b).raised = c.raised := rfl
@[simp] theorem Chip.answer_nfree (c : Chip) (k r : Nat) (t : DWord) (b : List Byte) : (c.answer k r t b).nfree = c.nfree := rfl
@[simp] theorem Chip.refuse_eng (c : Chip) (k r : Nat) : (c.refuse k r).eng = c.eng := rfl
@[simp] theorem Chip.refuse_cells (c : Chip) (k r : Nat) : (c.refuse k r).cells = c.cells := rfl
@[simp] theorem Chip.refuse_graph (c : Chip) (k r : Nat) : (c.refuse k r).graph = c.graph := rfl
@[simp] theorem Chip.refuse_chain (c : Chip) (k r : Nat) : (c.refuse k r).chain = c.chain := rfl
@[simp] theorem Chip.refuse_mem (c : Chip) (k r : Nat) : (c.refuse k r).mem = c.mem := rfl
@[simp] theorem Chip.refuse_regs (c : Chip) (k r : Nat) : (c.refuse k r).regs = c.regs := rfl
@[simp] theorem Chip.refuse_flt (c : Chip) (k r : Nat) : (c.refuse k r).flt = c.flt := rfl
@[simp] theorem Chip.refuse_pwr (c : Chip) (k r : Nat) : (c.refuse k r).pwr = c.pwr := rfl
@[simp] theorem Chip.refuse_sys (c : Chip) (k r : Nat) : (c.refuse k r).sys = c.sys := rfl
@[simp] theorem Chip.refuse_host (c : Chip) (k r : Nat) : (c.refuse k r).host = c.host := rfl
@[simp] theorem Chip.refuse_dtm (c : Chip) (k r : Nat) : (c.refuse k r).dtm = c.dtm := rfl
@[simp] theorem Chip.refuse_clk (c : Chip) (k r : Nat) : (c.refuse k r).clk = c.clk := rfl
@[simp] theorem Chip.refuse_sap (c : Chip) (k r : Nat) : (c.refuse k r).sap = c.sap := rfl
@[simp] theorem Chip.refuse_cues (c : Chip) (k r : Nat) : (c.refuse k r).cues = c.cues := rfl
@[simp] theorem Chip.refuse_net (c : Chip) (k r : Nat) : (c.refuse k r).net = c.net := rfl
@[simp] theorem Chip.refuse_drv (c : Chip) (k r : Nat) : (c.refuse k r).drv = c.drv := rfl
@[simp] theorem Chip.refuse_pair (c : Chip) (k r : Nat) : (c.refuse k r).pair = c.pair := rfl
@[simp] theorem Chip.refuse_dma (c : Chip) (k r : Nat) : (c.refuse k r).dma = c.dma := rfl
@[simp] theorem Chip.refuse_ddr (c : Chip) (k r : Nat) : (c.refuse k r).ddr = c.ddr := rfl
@[simp] theorem Chip.refuse_ports (c : Chip) (k r : Nat) : (c.refuse k r).ports = c.ports := rfl
@[simp] theorem Chip.refuse_msix (c : Chip) (k r : Nat) : (c.refuse k r).msix = c.msix := rfl
@[simp] theorem Chip.refuse_raised (c : Chip) (k r : Nat) : (c.refuse k r).raised = c.raised := rfl
@[simp] theorem Chip.refuse_nfree (c : Chip) (k r : Nat) : (c.refuse k r).nfree = c.nfree := rfl
@[simp] theorem Chip.done_eng (c : Chip) (k : Nat) (b : List Byte) : (c.done k b).eng = c.eng := rfl
@[simp] theorem Chip.done_cells (c : Chip) (k : Nat) (b : List Byte) : (c.done k b).cells = c.cells := rfl
@[simp] theorem Chip.done_graph (c : Chip) (k : Nat) (b : List Byte) : (c.done k b).graph = c.graph := rfl
@[simp] theorem Chip.done_chain (c : Chip) (k : Nat) (b : List Byte) : (c.done k b).chain = c.chain := rfl
@[simp] theorem Chip.done_mem (c : Chip) (k : Nat) (b : List Byte) : (c.done k b).mem = c.mem := rfl
@[simp] theorem Chip.done_regs (c : Chip) (k : Nat) (b : List Byte) : (c.done k b).regs = c.regs := rfl
@[simp] theorem Chip.done_flt (c : Chip) (k : Nat) (b : List Byte) : (c.done k b).flt = c.flt := rfl
@[simp] theorem Chip.done_pwr (c : Chip) (k : Nat) (b : List Byte) : (c.done k b).pwr = c.pwr := rfl
@[simp] theorem Chip.done_sys (c : Chip) (k : Nat) (b : List Byte) : (c.done k b).sys = c.sys := rfl
@[simp] theorem Chip.done_host (c : Chip) (k : Nat) (b : List Byte) : (c.done k b).host = c.host := rfl
@[simp] theorem Chip.done_dtm (c : Chip) (k : Nat) (b : List Byte) : (c.done k b).dtm = c.dtm := rfl
@[simp] theorem Chip.done_clk (c : Chip) (k : Nat) (b : List Byte) : (c.done k b).clk = c.clk := rfl
@[simp] theorem Chip.done_sap (c : Chip) (k : Nat) (b : List Byte) : (c.done k b).sap = c.sap := rfl
@[simp] theorem Chip.done_cues (c : Chip) (k : Nat) (b : List Byte) : (c.done k b).cues = c.cues := rfl
@[simp] theorem Chip.done_net (c : Chip) (k : Nat) (b : List Byte) : (c.done k b).net = c.net := rfl
@[simp] theorem Chip.done_drv (c : Chip) (k : Nat) (b : List Byte) : (c.done k b).drv = c.drv := rfl
@[simp] theorem Chip.done_pair (c : Chip) (k : Nat) (b : List Byte) : (c.done k b).pair = c.pair := rfl
@[simp] theorem Chip.done_dma (c : Chip) (k : Nat) (b : List Byte) : (c.done k b).dma = c.dma := rfl
@[simp] theorem Chip.done_ddr (c : Chip) (k : Nat) (b : List Byte) : (c.done k b).ddr = c.ddr := rfl
@[simp] theorem Chip.done_ports (c : Chip) (k : Nat) (b : List Byte) : (c.done k b).ports = c.ports := rfl
@[simp] theorem Chip.done_msix (c : Chip) (k : Nat) (b : List Byte) : (c.done k b).msix = c.msix := rfl
@[simp] theorem Chip.done_raised (c : Chip) (k : Nat) (b : List Byte) : (c.done k b).raised = c.raised := rfl
@[simp] theorem Chip.done_nfree (c : Chip) (k : Nat) (b : List Byte) : (c.done k b).nfree = c.nfree := rfl
@[simp] theorem Chip.freeChan_eng (c : Chip) (k : Nat) : (c.freeChan k).eng = c.eng := rfl
@[simp] theorem Chip.freeChan_cells (c : Chip) (k : Nat) : (c.freeChan k).cells = c.cells := rfl
@[simp] theorem Chip.freeChan_graph (c : Chip) (k : Nat) : (c.freeChan k).graph = c.graph := rfl
@[simp] theorem Chip.freeChan_chain (c : Chip) (k : Nat) : (c.freeChan k).chain = c.chain := rfl
@[simp] theorem Chip.freeChan_mem (c : Chip) (k : Nat) : (c.freeChan k).mem = c.mem := rfl
@[simp] theorem Chip.freeChan_regs (c : Chip) (k : Nat) : (c.freeChan k).regs = c.regs := rfl
@[simp] theorem Chip.freeChan_flt (c : Chip) (k : Nat) : (c.freeChan k).flt = c.flt := rfl
@[simp] theorem Chip.freeChan_pwr (c : Chip) (k : Nat) : (c.freeChan k).pwr = c.pwr := rfl
@[simp] theorem Chip.freeChan_sys (c : Chip) (k : Nat) : (c.freeChan k).sys = c.sys := rfl
@[simp] theorem Chip.freeChan_host (c : Chip) (k : Nat) : (c.freeChan k).host = c.host := rfl
@[simp] theorem Chip.freeChan_dtm (c : Chip) (k : Nat) : (c.freeChan k).dtm = c.dtm := rfl
@[simp] theorem Chip.freeChan_clk (c : Chip) (k : Nat) : (c.freeChan k).clk = c.clk := rfl
@[simp] theorem Chip.freeChan_sap (c : Chip) (k : Nat) : (c.freeChan k).sap = c.sap := rfl
@[simp] theorem Chip.freeChan_cues (c : Chip) (k : Nat) : (c.freeChan k).cues = c.cues := rfl
@[simp] theorem Chip.freeChan_net (c : Chip) (k : Nat) : (c.freeChan k).net = c.net := rfl
@[simp] theorem Chip.freeChan_drv (c : Chip) (k : Nat) : (c.freeChan k).drv = c.drv := rfl
@[simp] theorem Chip.freeChan_pair (c : Chip) (k : Nat) : (c.freeChan k).pair = c.pair := rfl
@[simp] theorem Chip.freeChan_dma (c : Chip) (k : Nat) : (c.freeChan k).dma = c.dma := rfl
@[simp] theorem Chip.freeChan_ddr (c : Chip) (k : Nat) : (c.freeChan k).ddr = c.ddr := rfl
@[simp] theorem Chip.freeChan_ports (c : Chip) (k : Nat) : (c.freeChan k).ports = c.ports := rfl
@[simp] theorem Chip.freeChan_msix (c : Chip) (k : Nat) : (c.freeChan k).msix = c.msix := rfl
@[simp] theorem Chip.freeChan_raised (c : Chip) (k : Nat) : (c.freeChan k).raised = c.raised := rfl
@[simp] theorem Chip.freeChan_nfree (c : Chip) (k : Nat) : (c.freeChan k).nfree = c.nfree := rfl
@[simp] theorem Chip.unsched_eng (c : Chip) (e : Sched) : (c.unsched e).eng = c.eng := rfl
@[simp] theorem Chip.unsched_cells (c : Chip) (e : Sched) : (c.unsched e).cells = c.cells := rfl
@[simp] theorem Chip.unsched_graph (c : Chip) (e : Sched) : (c.unsched e).graph = c.graph := rfl
@[simp] theorem Chip.unsched_chain (c : Chip) (e : Sched) : (c.unsched e).chain = c.chain := rfl
@[simp] theorem Chip.unsched_mem (c : Chip) (e : Sched) : (c.unsched e).mem = c.mem := rfl
@[simp] theorem Chip.unsched_regs (c : Chip) (e : Sched) : (c.unsched e).regs = c.regs := rfl
@[simp] theorem Chip.unsched_flt (c : Chip) (e : Sched) : (c.unsched e).flt = c.flt := rfl
@[simp] theorem Chip.unsched_pwr (c : Chip) (e : Sched) : (c.unsched e).pwr = c.pwr := rfl
@[simp] theorem Chip.unsched_sys (c : Chip) (e : Sched) : (c.unsched e).sys = c.sys := rfl
@[simp] theorem Chip.unsched_host (c : Chip) (e : Sched) : (c.unsched e).host = c.host := rfl
@[simp] theorem Chip.unsched_dtm (c : Chip) (e : Sched) : (c.unsched e).dtm = c.dtm := rfl
@[simp] theorem Chip.unsched_clk (c : Chip) (e : Sched) : (c.unsched e).clk = c.clk := rfl
@[simp] theorem Chip.unsched_sap (c : Chip) (e : Sched) : (c.unsched e).sap = c.sap := rfl
@[simp] theorem Chip.unsched_cues (c : Chip) (e : Sched) : (c.unsched e).cues = c.cues := rfl
@[simp] theorem Chip.unsched_net (c : Chip) (e : Sched) : (c.unsched e).net = c.net := rfl
@[simp] theorem Chip.unsched_drv (c : Chip) (e : Sched) : (c.unsched e).drv = c.drv := rfl
@[simp] theorem Chip.unsched_pair (c : Chip) (e : Sched) : (c.unsched e).pair = c.pair := rfl
@[simp] theorem Chip.unsched_dma (c : Chip) (e : Sched) : (c.unsched e).dma = c.dma := rfl
@[simp] theorem Chip.unsched_ddr (c : Chip) (e : Sched) : (c.unsched e).ddr = c.ddr := rfl
@[simp] theorem Chip.unsched_ports (c : Chip) (e : Sched) : (c.unsched e).ports = c.ports := rfl
@[simp] theorem Chip.unsched_msix (c : Chip) (e : Sched) : (c.unsched e).msix = c.msix := rfl
@[simp] theorem Chip.unsched_raised (c : Chip) (e : Sched) : (c.unsched e).raised = c.raised := rfl
@[simp] theorem Chip.unsched_nfree (c : Chip) (e : Sched) : (c.unsched e).nfree = c.nfree := rfl
@[simp] theorem Chip.setSession_eng (c : Chip) (x : Session) : (c.setSession x).eng = c.eng := rfl
@[simp] theorem Chip.setSession_cells (c : Chip) (x : Session) : (c.setSession x).cells = c.cells := rfl
@[simp] theorem Chip.setSession_graph (c : Chip) (x : Session) : (c.setSession x).graph = c.graph := rfl
@[simp] theorem Chip.setSession_chain (c : Chip) (x : Session) : (c.setSession x).chain = c.chain := rfl
@[simp] theorem Chip.setSession_mem (c : Chip) (x : Session) : (c.setSession x).mem = c.mem := rfl
@[simp] theorem Chip.setSession_regs (c : Chip) (x : Session) : (c.setSession x).regs = c.regs := rfl
@[simp] theorem Chip.setSession_flt (c : Chip) (x : Session) : (c.setSession x).flt = c.flt := rfl
@[simp] theorem Chip.setSession_pwr (c : Chip) (x : Session) : (c.setSession x).pwr = c.pwr := rfl
@[simp] theorem Chip.setSession_sys (c : Chip) (x : Session) : (c.setSession x).sys = c.sys := rfl
@[simp] theorem Chip.setSession_host (c : Chip) (x : Session) : (c.setSession x).host = c.host := rfl
@[simp] theorem Chip.setSession_dtm (c : Chip) (x : Session) : (c.setSession x).dtm = c.dtm := rfl
@[simp] theorem Chip.setSession_clk (c : Chip) (x : Session) : (c.setSession x).clk = c.clk := rfl
@[simp] theorem Chip.setSession_sap (c : Chip) (x : Session) : (c.setSession x).sap = c.sap := rfl
@[simp] theorem Chip.setSession_cues (c : Chip) (x : Session) : (c.setSession x).cues = c.cues := rfl
@[simp] theorem Chip.setSession_net (c : Chip) (x : Session) : (c.setSession x).net = c.net := rfl
@[simp] theorem Chip.setSession_drv (c : Chip) (x : Session) : (c.setSession x).drv = c.drv := rfl
@[simp] theorem Chip.setSession_pair (c : Chip) (x : Session) : (c.setSession x).pair = c.pair := rfl
@[simp] theorem Chip.setSession_dma (c : Chip) (x : Session) : (c.setSession x).dma = c.dma := rfl
@[simp] theorem Chip.setSession_ddr (c : Chip) (x : Session) : (c.setSession x).ddr = c.ddr := rfl
@[simp] theorem Chip.setSession_ports (c : Chip) (x : Session) : (c.setSession x).ports = c.ports := rfl
@[simp] theorem Chip.setSession_msix (c : Chip) (x : Session) : (c.setSession x).msix = c.msix := rfl
@[simp] theorem Chip.setSession_raised (c : Chip) (x : Session) : (c.setSession x).raised = c.raised := rfl
@[simp] theorem Chip.setSession_nfree (c : Chip) (x : Session) : (c.setSession x).nfree = c.nfree := rfl
@[simp] theorem Chip.setBells_eng (c : Chip) (k : Nat) (v m : Word) : (c.setBells k v m).eng = c.eng := rfl
@[simp] theorem Chip.setBells_cells (c : Chip) (k : Nat) (v m : Word) : (c.setBells k v m).cells = c.cells := rfl
@[simp] theorem Chip.setBells_graph (c : Chip) (k : Nat) (v m : Word) : (c.setBells k v m).graph = c.graph := rfl
@[simp] theorem Chip.setBells_chain (c : Chip) (k : Nat) (v m : Word) : (c.setBells k v m).chain = c.chain := rfl
@[simp] theorem Chip.setBells_mem (c : Chip) (k : Nat) (v m : Word) : (c.setBells k v m).mem = c.mem := rfl
@[simp] theorem Chip.setBells_regs (c : Chip) (k : Nat) (v m : Word) : (c.setBells k v m).regs = c.regs := rfl
@[simp] theorem Chip.setBells_flt (c : Chip) (k : Nat) (v m : Word) : (c.setBells k v m).flt = c.flt := rfl
@[simp] theorem Chip.setBells_pwr (c : Chip) (k : Nat) (v m : Word) : (c.setBells k v m).pwr = c.pwr := rfl
@[simp] theorem Chip.setBells_sys (c : Chip) (k : Nat) (v m : Word) : (c.setBells k v m).sys = c.sys := rfl
@[simp] theorem Chip.setBells_host (c : Chip) (k : Nat) (v m : Word) : (c.setBells k v m).host = c.host := rfl
@[simp] theorem Chip.setBells_dtm (c : Chip) (k : Nat) (v m : Word) : (c.setBells k v m).dtm = c.dtm := rfl
@[simp] theorem Chip.setBells_clk (c : Chip) (k : Nat) (v m : Word) : (c.setBells k v m).clk = c.clk := rfl
@[simp] theorem Chip.setBells_sap (c : Chip) (k : Nat) (v m : Word) : (c.setBells k v m).sap = c.sap := rfl
@[simp] theorem Chip.setBells_cues (c : Chip) (k : Nat) (v m : Word) : (c.setBells k v m).cues = c.cues := rfl
@[simp] theorem Chip.setBells_net (c : Chip) (k : Nat) (v m : Word) : (c.setBells k v m).net = c.net := rfl
@[simp] theorem Chip.setBells_drv (c : Chip) (k : Nat) (v m : Word) : (c.setBells k v m).drv = c.drv := rfl
@[simp] theorem Chip.setBells_pair (c : Chip) (k : Nat) (v m : Word) : (c.setBells k v m).pair = c.pair := rfl
@[simp] theorem Chip.setBells_dma (c : Chip) (k : Nat) (v m : Word) : (c.setBells k v m).dma = c.dma := rfl
@[simp] theorem Chip.setBells_ddr (c : Chip) (k : Nat) (v m : Word) : (c.setBells k v m).ddr = c.ddr := rfl
@[simp] theorem Chip.setBells_ports (c : Chip) (k : Nat) (v m : Word) : (c.setBells k v m).ports = c.ports := rfl
@[simp] theorem Chip.setBells_msix (c : Chip) (k : Nat) (v m : Word) : (c.setBells k v m).msix = c.msix := rfl
@[simp] theorem Chip.setBells_raised (c : Chip) (k : Nat) (v m : Word) : (c.setBells k v m).raised = c.raised := rfl
@[simp] theorem Chip.setBells_nfree (c : Chip) (k : Nat) (v m : Word) : (c.setBells k v m).nfree = c.nfree := rfl

/-! ## Blocks -/

@[simp] theorem Chip.setMon_eng (c : Chip) (r : Nat) (v : RefMon) : (c.setMon r v).eng = c.eng := rfl
@[simp] theorem Chip.setMon_cells (c : Chip) (r : Nat) (v : RefMon) : (c.setMon r v).cells = c.cells := rfl
@[simp] theorem Chip.setMon_graph (c : Chip) (r : Nat) (v : RefMon) : (c.setMon r v).graph = c.graph := rfl
@[simp] theorem Chip.setMon_chain (c : Chip) (r : Nat) (v : RefMon) : (c.setMon r v).chain = c.chain := rfl
@[simp] theorem Chip.setMon_mem (c : Chip) (r : Nat) (v : RefMon) : (c.setMon r v).mem = c.mem := rfl
@[simp] theorem Chip.setMon_regs (c : Chip) (r : Nat) (v : RefMon) : (c.setMon r v).regs = c.regs := rfl
@[simp] theorem Chip.setMon_flt (c : Chip) (r : Nat) (v : RefMon) : (c.setMon r v).flt = c.flt := rfl
@[simp] theorem Chip.setMon_pwr (c : Chip) (r : Nat) (v : RefMon) : (c.setMon r v).pwr = c.pwr := rfl
@[simp] theorem Chip.setMon_sys (c : Chip) (r : Nat) (v : RefMon) : (c.setMon r v).sys = c.sys := rfl
@[simp] theorem Chip.setMon_cmd (c : Chip) (r : Nat) (v : RefMon) : (c.setMon r v).cmd = c.cmd := rfl
@[simp] theorem Chip.setMon_host (c : Chip) (r : Nat) (v : RefMon) : (c.setMon r v).host = c.host := rfl
@[simp] theorem Chip.setMon_clk (c : Chip) (r : Nat) (v : RefMon) : (c.setMon r v).clk = c.clk := rfl
@[simp] theorem Chip.setMon_sap (c : Chip) (r : Nat) (v : RefMon) : (c.setMon r v).sap = c.sap := rfl
@[simp] theorem Chip.setMon_cues (c : Chip) (r : Nat) (v : RefMon) : (c.setMon r v).cues = c.cues := rfl
@[simp] theorem Chip.setMon_net (c : Chip) (r : Nat) (v : RefMon) : (c.setMon r v).net = c.net := rfl
@[simp] theorem Chip.setMon_drv (c : Chip) (r : Nat) (v : RefMon) : (c.setMon r v).drv = c.drv := rfl
@[simp] theorem Chip.setMon_pair (c : Chip) (r : Nat) (v : RefMon) : (c.setMon r v).pair = c.pair := rfl
@[simp] theorem Chip.setMon_dma (c : Chip) (r : Nat) (v : RefMon) : (c.setMon r v).dma = c.dma := rfl
@[simp] theorem Chip.setMon_ddr (c : Chip) (r : Nat) (v : RefMon) : (c.setMon r v).ddr = c.ddr := rfl
@[simp] theorem Chip.setMon_ports (c : Chip) (r : Nat) (v : RefMon) : (c.setMon r v).ports = c.ports := rfl
@[simp] theorem Chip.setMon_msix (c : Chip) (r : Nat) (v : RefMon) : (c.setMon r v).msix = c.msix := rfl
@[simp] theorem Chip.setMon_raised (c : Chip) (r : Nat) (v : RefMon) : (c.setMon r v).raised = c.raised := rfl
@[simp] theorem Chip.setMon_nfree (c : Chip) (r : Nat) (v : RefMon) : (c.setMon r v).nfree = c.nfree := rfl
@[simp] theorem Chip.setClk_eng (c : Chip) (k : Clk) : (c.setClk k).eng = c.eng := rfl
@[simp] theorem Chip.setClk_cells (c : Chip) (k : Clk) : (c.setClk k).cells = c.cells := rfl
@[simp] theorem Chip.setClk_graph (c : Chip) (k : Clk) : (c.setClk k).graph = c.graph := rfl
@[simp] theorem Chip.setClk_chain (c : Chip) (k : Clk) : (c.setClk k).chain = c.chain := rfl
@[simp] theorem Chip.setClk_mem (c : Chip) (k : Clk) : (c.setClk k).mem = c.mem := rfl
@[simp] theorem Chip.setClk_regs (c : Chip) (k : Clk) : (c.setClk k).regs = c.regs := rfl
@[simp] theorem Chip.setClk_flt (c : Chip) (k : Clk) : (c.setClk k).flt = c.flt := rfl
@[simp] theorem Chip.setClk_pwr (c : Chip) (k : Clk) : (c.setClk k).pwr = c.pwr := rfl
@[simp] theorem Chip.setClk_sys (c : Chip) (k : Clk) : (c.setClk k).sys = c.sys := rfl
@[simp] theorem Chip.setClk_cmd (c : Chip) (k : Clk) : (c.setClk k).cmd = c.cmd := rfl
@[simp] theorem Chip.setClk_host (c : Chip) (k : Clk) : (c.setClk k).host = c.host := rfl
@[simp] theorem Chip.setClk_dtm (c : Chip) (k : Clk) : (c.setClk k).dtm = c.dtm := rfl
@[simp] theorem Chip.setClk_sap (c : Chip) (k : Clk) : (c.setClk k).sap = c.sap := rfl
@[simp] theorem Chip.setClk_cues (c : Chip) (k : Clk) : (c.setClk k).cues = c.cues := rfl
@[simp] theorem Chip.setClk_net (c : Chip) (k : Clk) : (c.setClk k).net = c.net := rfl
@[simp] theorem Chip.setClk_drv (c : Chip) (k : Clk) : (c.setClk k).drv = c.drv := rfl
@[simp] theorem Chip.setClk_pair (c : Chip) (k : Clk) : (c.setClk k).pair = c.pair := rfl
@[simp] theorem Chip.setClk_dma (c : Chip) (k : Clk) : (c.setClk k).dma = c.dma := rfl
@[simp] theorem Chip.setClk_ddr (c : Chip) (k : Clk) : (c.setClk k).ddr = c.ddr := rfl
@[simp] theorem Chip.setClk_ports (c : Chip) (k : Clk) : (c.setClk k).ports = c.ports := rfl
@[simp] theorem Chip.setClk_msix (c : Chip) (k : Clk) : (c.setClk k).msix = c.msix := rfl
@[simp] theorem Chip.setClk_raised (c : Chip) (k : Clk) : (c.setClk k).raised = c.raised := rfl
@[simp] theorem Chip.setClk_nfree (c : Chip) (k : Clk) : (c.setClk k).nfree = c.nfree := rfl
@[simp] theorem Chip.setRx_eng (c : Chip) (k : Nat) (v : Rx) : (c.setRx k v).eng = c.eng := rfl
@[simp] theorem Chip.setRx_cells (c : Chip) (k : Nat) (v : Rx) : (c.setRx k v).cells = c.cells := rfl
@[simp] theorem Chip.setRx_graph (c : Chip) (k : Nat) (v : Rx) : (c.setRx k v).graph = c.graph := rfl
@[simp] theorem Chip.setRx_chain (c : Chip) (k : Nat) (v : Rx) : (c.setRx k v).chain = c.chain := rfl
@[simp] theorem Chip.setRx_mem (c : Chip) (k : Nat) (v : Rx) : (c.setRx k v).mem = c.mem := rfl
@[simp] theorem Chip.setRx_regs (c : Chip) (k : Nat) (v : Rx) : (c.setRx k v).regs = c.regs := rfl
@[simp] theorem Chip.setRx_flt (c : Chip) (k : Nat) (v : Rx) : (c.setRx k v).flt = c.flt := rfl
@[simp] theorem Chip.setRx_pwr (c : Chip) (k : Nat) (v : Rx) : (c.setRx k v).pwr = c.pwr := rfl
@[simp] theorem Chip.setRx_sys (c : Chip) (k : Nat) (v : Rx) : (c.setRx k v).sys = c.sys := rfl
@[simp] theorem Chip.setRx_cmd (c : Chip) (k : Nat) (v : Rx) : (c.setRx k v).cmd = c.cmd := rfl
@[simp] theorem Chip.setRx_host (c : Chip) (k : Nat) (v : Rx) : (c.setRx k v).host = c.host := rfl
@[simp] theorem Chip.setRx_dtm (c : Chip) (k : Nat) (v : Rx) : (c.setRx k v).dtm = c.dtm := rfl
@[simp] theorem Chip.setRx_clk (c : Chip) (k : Nat) (v : Rx) : (c.setRx k v).clk = c.clk := rfl
@[simp] theorem Chip.setRx_cues (c : Chip) (k : Nat) (v : Rx) : (c.setRx k v).cues = c.cues := rfl
@[simp] theorem Chip.setRx_net (c : Chip) (k : Nat) (v : Rx) : (c.setRx k v).net = c.net := rfl
@[simp] theorem Chip.setRx_drv (c : Chip) (k : Nat) (v : Rx) : (c.setRx k v).drv = c.drv := rfl
@[simp] theorem Chip.setRx_pair (c : Chip) (k : Nat) (v : Rx) : (c.setRx k v).pair = c.pair := rfl
@[simp] theorem Chip.setRx_dma (c : Chip) (k : Nat) (v : Rx) : (c.setRx k v).dma = c.dma := rfl
@[simp] theorem Chip.setRx_ddr (c : Chip) (k : Nat) (v : Rx) : (c.setRx k v).ddr = c.ddr := rfl
@[simp] theorem Chip.setRx_ports (c : Chip) (k : Nat) (v : Rx) : (c.setRx k v).ports = c.ports := rfl
@[simp] theorem Chip.setRx_msix (c : Chip) (k : Nat) (v : Rx) : (c.setRx k v).msix = c.msix := rfl
@[simp] theorem Chip.setRx_raised (c : Chip) (k : Nat) (v : Rx) : (c.setRx k v).raised = c.raised := rfl
@[simp] theorem Chip.setRx_nfree (c : Chip) (k : Nat) (v : Rx) : (c.setRx k v).nfree = c.nfree := rfl
@[simp] theorem Chip.setTxPort_eng (c : Chip) (k : Nat) (v : TxPort) : (c.setTxPort k v).eng = c.eng := rfl
@[simp] theorem Chip.setTxPort_cells (c : Chip) (k : Nat) (v : TxPort) : (c.setTxPort k v).cells = c.cells := rfl
@[simp] theorem Chip.setTxPort_graph (c : Chip) (k : Nat) (v : TxPort) : (c.setTxPort k v).graph = c.graph := rfl
@[simp] theorem Chip.setTxPort_chain (c : Chip) (k : Nat) (v : TxPort) : (c.setTxPort k v).chain = c.chain := rfl
@[simp] theorem Chip.setTxPort_mem (c : Chip) (k : Nat) (v : TxPort) : (c.setTxPort k v).mem = c.mem := rfl
@[simp] theorem Chip.setTxPort_regs (c : Chip) (k : Nat) (v : TxPort) : (c.setTxPort k v).regs = c.regs := rfl
@[simp] theorem Chip.setTxPort_flt (c : Chip) (k : Nat) (v : TxPort) : (c.setTxPort k v).flt = c.flt := rfl
@[simp] theorem Chip.setTxPort_pwr (c : Chip) (k : Nat) (v : TxPort) : (c.setTxPort k v).pwr = c.pwr := rfl
@[simp] theorem Chip.setTxPort_sys (c : Chip) (k : Nat) (v : TxPort) : (c.setTxPort k v).sys = c.sys := rfl
@[simp] theorem Chip.setTxPort_cmd (c : Chip) (k : Nat) (v : TxPort) : (c.setTxPort k v).cmd = c.cmd := rfl
@[simp] theorem Chip.setTxPort_host (c : Chip) (k : Nat) (v : TxPort) : (c.setTxPort k v).host = c.host := rfl
@[simp] theorem Chip.setTxPort_dtm (c : Chip) (k : Nat) (v : TxPort) : (c.setTxPort k v).dtm = c.dtm := rfl
@[simp] theorem Chip.setTxPort_clk (c : Chip) (k : Nat) (v : TxPort) : (c.setTxPort k v).clk = c.clk := rfl
@[simp] theorem Chip.setTxPort_cues (c : Chip) (k : Nat) (v : TxPort) : (c.setTxPort k v).cues = c.cues := rfl
@[simp] theorem Chip.setTxPort_net (c : Chip) (k : Nat) (v : TxPort) : (c.setTxPort k v).net = c.net := rfl
@[simp] theorem Chip.setTxPort_drv (c : Chip) (k : Nat) (v : TxPort) : (c.setTxPort k v).drv = c.drv := rfl
@[simp] theorem Chip.setTxPort_pair (c : Chip) (k : Nat) (v : TxPort) : (c.setTxPort k v).pair = c.pair := rfl
@[simp] theorem Chip.setTxPort_dma (c : Chip) (k : Nat) (v : TxPort) : (c.setTxPort k v).dma = c.dma := rfl
@[simp] theorem Chip.setTxPort_ddr (c : Chip) (k : Nat) (v : TxPort) : (c.setTxPort k v).ddr = c.ddr := rfl
@[simp] theorem Chip.setTxPort_ports (c : Chip) (k : Nat) (v : TxPort) : (c.setTxPort k v).ports = c.ports := rfl
@[simp] theorem Chip.setTxPort_msix (c : Chip) (k : Nat) (v : TxPort) : (c.setTxPort k v).msix = c.msix := rfl
@[simp] theorem Chip.setTxPort_raised (c : Chip) (k : Nat) (v : TxPort) : (c.setTxPort k v).raised = c.raised := rfl
@[simp] theorem Chip.setTxPort_nfree (c : Chip) (k : Nat) (v : TxPort) : (c.setTxPort k v).nfree = c.nfree := rfl
@[simp] theorem Chip.setTdm_eng (c : Chip) (k : Nat) (v : TdmPort) : (c.setTdm k v).eng = c.eng := rfl
@[simp] theorem Chip.setTdm_cells (c : Chip) (k : Nat) (v : TdmPort) : (c.setTdm k v).cells = c.cells := rfl
@[simp] theorem Chip.setTdm_graph (c : Chip) (k : Nat) (v : TdmPort) : (c.setTdm k v).graph = c.graph := rfl
@[simp] theorem Chip.setTdm_chain (c : Chip) (k : Nat) (v : TdmPort) : (c.setTdm k v).chain = c.chain := rfl
@[simp] theorem Chip.setTdm_mem (c : Chip) (k : Nat) (v : TdmPort) : (c.setTdm k v).mem = c.mem := rfl
@[simp] theorem Chip.setTdm_regs (c : Chip) (k : Nat) (v : TdmPort) : (c.setTdm k v).regs = c.regs := rfl
@[simp] theorem Chip.setTdm_flt (c : Chip) (k : Nat) (v : TdmPort) : (c.setTdm k v).flt = c.flt := rfl
@[simp] theorem Chip.setTdm_pwr (c : Chip) (k : Nat) (v : TdmPort) : (c.setTdm k v).pwr = c.pwr := rfl
@[simp] theorem Chip.setTdm_sys (c : Chip) (k : Nat) (v : TdmPort) : (c.setTdm k v).sys = c.sys := rfl
@[simp] theorem Chip.setTdm_cmd (c : Chip) (k : Nat) (v : TdmPort) : (c.setTdm k v).cmd = c.cmd := rfl
@[simp] theorem Chip.setTdm_host (c : Chip) (k : Nat) (v : TdmPort) : (c.setTdm k v).host = c.host := rfl
@[simp] theorem Chip.setTdm_dtm (c : Chip) (k : Nat) (v : TdmPort) : (c.setTdm k v).dtm = c.dtm := rfl
@[simp] theorem Chip.setTdm_clk (c : Chip) (k : Nat) (v : TdmPort) : (c.setTdm k v).clk = c.clk := rfl
@[simp] theorem Chip.setTdm_cues (c : Chip) (k : Nat) (v : TdmPort) : (c.setTdm k v).cues = c.cues := rfl
@[simp] theorem Chip.setTdm_net (c : Chip) (k : Nat) (v : TdmPort) : (c.setTdm k v).net = c.net := rfl
@[simp] theorem Chip.setTdm_drv (c : Chip) (k : Nat) (v : TdmPort) : (c.setTdm k v).drv = c.drv := rfl
@[simp] theorem Chip.setTdm_pair (c : Chip) (k : Nat) (v : TdmPort) : (c.setTdm k v).pair = c.pair := rfl
@[simp] theorem Chip.setTdm_dma (c : Chip) (k : Nat) (v : TdmPort) : (c.setTdm k v).dma = c.dma := rfl
@[simp] theorem Chip.setTdm_ddr (c : Chip) (k : Nat) (v : TdmPort) : (c.setTdm k v).ddr = c.ddr := rfl
@[simp] theorem Chip.setTdm_ports (c : Chip) (k : Nat) (v : TdmPort) : (c.setTdm k v).ports = c.ports := rfl
@[simp] theorem Chip.setTdm_msix (c : Chip) (k : Nat) (v : TdmPort) : (c.setTdm k v).msix = c.msix := rfl
@[simp] theorem Chip.setTdm_raised (c : Chip) (k : Nat) (v : TdmPort) : (c.setTdm k v).raised = c.raised := rfl
@[simp] theorem Chip.setTdm_nfree (c : Chip) (k : Nat) (v : TdmPort) : (c.setTdm k v).nfree = c.nfree := rfl
@[simp] theorem Chip.setCue_eng (c : Chip) (k : Nat) (v : Cue) : (c.setCue k v).eng = c.eng := rfl
@[simp] theorem Chip.setCue_cells (c : Chip) (k : Nat) (v : Cue) : (c.setCue k v).cells = c.cells := rfl
@[simp] theorem Chip.setCue_graph (c : Chip) (k : Nat) (v : Cue) : (c.setCue k v).graph = c.graph := rfl
@[simp] theorem Chip.setCue_chain (c : Chip) (k : Nat) (v : Cue) : (c.setCue k v).chain = c.chain := rfl
@[simp] theorem Chip.setCue_mem (c : Chip) (k : Nat) (v : Cue) : (c.setCue k v).mem = c.mem := rfl
@[simp] theorem Chip.setCue_regs (c : Chip) (k : Nat) (v : Cue) : (c.setCue k v).regs = c.regs := rfl
@[simp] theorem Chip.setCue_flt (c : Chip) (k : Nat) (v : Cue) : (c.setCue k v).flt = c.flt := rfl
@[simp] theorem Chip.setCue_pwr (c : Chip) (k : Nat) (v : Cue) : (c.setCue k v).pwr = c.pwr := rfl
@[simp] theorem Chip.setCue_sys (c : Chip) (k : Nat) (v : Cue) : (c.setCue k v).sys = c.sys := rfl
@[simp] theorem Chip.setCue_cmd (c : Chip) (k : Nat) (v : Cue) : (c.setCue k v).cmd = c.cmd := rfl
@[simp] theorem Chip.setCue_host (c : Chip) (k : Nat) (v : Cue) : (c.setCue k v).host = c.host := rfl
@[simp] theorem Chip.setCue_dtm (c : Chip) (k : Nat) (v : Cue) : (c.setCue k v).dtm = c.dtm := rfl
@[simp] theorem Chip.setCue_clk (c : Chip) (k : Nat) (v : Cue) : (c.setCue k v).clk = c.clk := rfl
@[simp] theorem Chip.setCue_sap (c : Chip) (k : Nat) (v : Cue) : (c.setCue k v).sap = c.sap := rfl
@[simp] theorem Chip.setCue_net (c : Chip) (k : Nat) (v : Cue) : (c.setCue k v).net = c.net := rfl
@[simp] theorem Chip.setCue_drv (c : Chip) (k : Nat) (v : Cue) : (c.setCue k v).drv = c.drv := rfl
@[simp] theorem Chip.setCue_pair (c : Chip) (k : Nat) (v : Cue) : (c.setCue k v).pair = c.pair := rfl
@[simp] theorem Chip.setCue_dma (c : Chip) (k : Nat) (v : Cue) : (c.setCue k v).dma = c.dma := rfl
@[simp] theorem Chip.setCue_ddr (c : Chip) (k : Nat) (v : Cue) : (c.setCue k v).ddr = c.ddr := rfl
@[simp] theorem Chip.setCue_ports (c : Chip) (k : Nat) (v : Cue) : (c.setCue k v).ports = c.ports := rfl
@[simp] theorem Chip.setCue_msix (c : Chip) (k : Nat) (v : Cue) : (c.setCue k v).msix = c.msix := rfl
@[simp] theorem Chip.setCue_raised (c : Chip) (k : Nat) (v : Cue) : (c.setCue k v).raised = c.raised := rfl
@[simp] theorem Chip.setCue_nfree (c : Chip) (k : Nat) (v : Cue) : (c.setCue k v).nfree = c.nfree := rfl
@[simp] theorem Chip.setStream_eng (c : Chip) (k : Nat) (v : Stream) : (c.setStream k v).eng = c.eng := rfl
@[simp] theorem Chip.setStream_cells (c : Chip) (k : Nat) (v : Stream) : (c.setStream k v).cells = c.cells := rfl
@[simp] theorem Chip.setStream_graph (c : Chip) (k : Nat) (v : Stream) : (c.setStream k v).graph = c.graph := rfl
@[simp] theorem Chip.setStream_chain (c : Chip) (k : Nat) (v : Stream) : (c.setStream k v).chain = c.chain := rfl
@[simp] theorem Chip.setStream_mem (c : Chip) (k : Nat) (v : Stream) : (c.setStream k v).mem = c.mem := rfl
@[simp] theorem Chip.setStream_regs (c : Chip) (k : Nat) (v : Stream) : (c.setStream k v).regs = c.regs := rfl
@[simp] theorem Chip.setStream_flt (c : Chip) (k : Nat) (v : Stream) : (c.setStream k v).flt = c.flt := rfl
@[simp] theorem Chip.setStream_pwr (c : Chip) (k : Nat) (v : Stream) : (c.setStream k v).pwr = c.pwr := rfl
@[simp] theorem Chip.setStream_sys (c : Chip) (k : Nat) (v : Stream) : (c.setStream k v).sys = c.sys := rfl
@[simp] theorem Chip.setStream_cmd (c : Chip) (k : Nat) (v : Stream) : (c.setStream k v).cmd = c.cmd := rfl
@[simp] theorem Chip.setStream_host (c : Chip) (k : Nat) (v : Stream) : (c.setStream k v).host = c.host := rfl
@[simp] theorem Chip.setStream_dtm (c : Chip) (k : Nat) (v : Stream) : (c.setStream k v).dtm = c.dtm := rfl
@[simp] theorem Chip.setStream_clk (c : Chip) (k : Nat) (v : Stream) : (c.setStream k v).clk = c.clk := rfl
@[simp] theorem Chip.setStream_sap (c : Chip) (k : Nat) (v : Stream) : (c.setStream k v).sap = c.sap := rfl
@[simp] theorem Chip.setStream_cues (c : Chip) (k : Nat) (v : Stream) : (c.setStream k v).cues = c.cues := rfl
@[simp] theorem Chip.setStream_drv (c : Chip) (k : Nat) (v : Stream) : (c.setStream k v).drv = c.drv := rfl
@[simp] theorem Chip.setStream_pair (c : Chip) (k : Nat) (v : Stream) : (c.setStream k v).pair = c.pair := rfl
@[simp] theorem Chip.setStream_dma (c : Chip) (k : Nat) (v : Stream) : (c.setStream k v).dma = c.dma := rfl
@[simp] theorem Chip.setStream_ddr (c : Chip) (k : Nat) (v : Stream) : (c.setStream k v).ddr = c.ddr := rfl
@[simp] theorem Chip.setStream_ports (c : Chip) (k : Nat) (v : Stream) : (c.setStream k v).ports = c.ports := rfl
@[simp] theorem Chip.setStream_msix (c : Chip) (k : Nat) (v : Stream) : (c.setStream k v).msix = c.msix := rfl
@[simp] theorem Chip.setStream_raised (c : Chip) (k : Nat) (v : Stream) : (c.setStream k v).raised = c.raised := rfl
@[simp] theorem Chip.setStream_nfree (c : Chip) (k : Nat) (v : Stream) : (c.setStream k v).nfree = c.nfree := rfl
@[simp] theorem Chip.setMac_eng (c : Chip) (k : Nat) (v : MacCfg) : (c.setMac k v).eng = c.eng := rfl
@[simp] theorem Chip.setMac_cells (c : Chip) (k : Nat) (v : MacCfg) : (c.setMac k v).cells = c.cells := rfl
@[simp] theorem Chip.setMac_graph (c : Chip) (k : Nat) (v : MacCfg) : (c.setMac k v).graph = c.graph := rfl
@[simp] theorem Chip.setMac_chain (c : Chip) (k : Nat) (v : MacCfg) : (c.setMac k v).chain = c.chain := rfl
@[simp] theorem Chip.setMac_mem (c : Chip) (k : Nat) (v : MacCfg) : (c.setMac k v).mem = c.mem := rfl
@[simp] theorem Chip.setMac_regs (c : Chip) (k : Nat) (v : MacCfg) : (c.setMac k v).regs = c.regs := rfl
@[simp] theorem Chip.setMac_flt (c : Chip) (k : Nat) (v : MacCfg) : (c.setMac k v).flt = c.flt := rfl
@[simp] theorem Chip.setMac_pwr (c : Chip) (k : Nat) (v : MacCfg) : (c.setMac k v).pwr = c.pwr := rfl
@[simp] theorem Chip.setMac_sys (c : Chip) (k : Nat) (v : MacCfg) : (c.setMac k v).sys = c.sys := rfl
@[simp] theorem Chip.setMac_cmd (c : Chip) (k : Nat) (v : MacCfg) : (c.setMac k v).cmd = c.cmd := rfl
@[simp] theorem Chip.setMac_host (c : Chip) (k : Nat) (v : MacCfg) : (c.setMac k v).host = c.host := rfl
@[simp] theorem Chip.setMac_dtm (c : Chip) (k : Nat) (v : MacCfg) : (c.setMac k v).dtm = c.dtm := rfl
@[simp] theorem Chip.setMac_clk (c : Chip) (k : Nat) (v : MacCfg) : (c.setMac k v).clk = c.clk := rfl
@[simp] theorem Chip.setMac_sap (c : Chip) (k : Nat) (v : MacCfg) : (c.setMac k v).sap = c.sap := rfl
@[simp] theorem Chip.setMac_cues (c : Chip) (k : Nat) (v : MacCfg) : (c.setMac k v).cues = c.cues := rfl
@[simp] theorem Chip.setMac_drv (c : Chip) (k : Nat) (v : MacCfg) : (c.setMac k v).drv = c.drv := rfl
@[simp] theorem Chip.setMac_pair (c : Chip) (k : Nat) (v : MacCfg) : (c.setMac k v).pair = c.pair := rfl
@[simp] theorem Chip.setMac_dma (c : Chip) (k : Nat) (v : MacCfg) : (c.setMac k v).dma = c.dma := rfl
@[simp] theorem Chip.setMac_ddr (c : Chip) (k : Nat) (v : MacCfg) : (c.setMac k v).ddr = c.ddr := rfl
@[simp] theorem Chip.setMac_ports (c : Chip) (k : Nat) (v : MacCfg) : (c.setMac k v).ports = c.ports := rfl
@[simp] theorem Chip.setMac_msix (c : Chip) (k : Nat) (v : MacCfg) : (c.setMac k v).msix = c.msix := rfl
@[simp] theorem Chip.setMac_raised (c : Chip) (k : Nat) (v : MacCfg) : (c.setMac k v).raised = c.raised := rfl
@[simp] theorem Chip.setMac_nfree (c : Chip) (k : Nat) (v : MacCfg) : (c.setMac k v).nfree = c.nfree := rfl
@[simp] theorem Chip.setDrvCh_eng (c : Chip) (k : Nat) (v : DrvCh) : (c.setDrvCh k v).eng = c.eng := rfl
@[simp] theorem Chip.setDrvCh_cells (c : Chip) (k : Nat) (v : DrvCh) : (c.setDrvCh k v).cells = c.cells := rfl
@[simp] theorem Chip.setDrvCh_graph (c : Chip) (k : Nat) (v : DrvCh) : (c.setDrvCh k v).graph = c.graph := rfl
@[simp] theorem Chip.setDrvCh_chain (c : Chip) (k : Nat) (v : DrvCh) : (c.setDrvCh k v).chain = c.chain := rfl
@[simp] theorem Chip.setDrvCh_mem (c : Chip) (k : Nat) (v : DrvCh) : (c.setDrvCh k v).mem = c.mem := rfl
@[simp] theorem Chip.setDrvCh_regs (c : Chip) (k : Nat) (v : DrvCh) : (c.setDrvCh k v).regs = c.regs := rfl
@[simp] theorem Chip.setDrvCh_flt (c : Chip) (k : Nat) (v : DrvCh) : (c.setDrvCh k v).flt = c.flt := rfl
@[simp] theorem Chip.setDrvCh_pwr (c : Chip) (k : Nat) (v : DrvCh) : (c.setDrvCh k v).pwr = c.pwr := rfl
@[simp] theorem Chip.setDrvCh_sys (c : Chip) (k : Nat) (v : DrvCh) : (c.setDrvCh k v).sys = c.sys := rfl
@[simp] theorem Chip.setDrvCh_cmd (c : Chip) (k : Nat) (v : DrvCh) : (c.setDrvCh k v).cmd = c.cmd := rfl
@[simp] theorem Chip.setDrvCh_host (c : Chip) (k : Nat) (v : DrvCh) : (c.setDrvCh k v).host = c.host := rfl
@[simp] theorem Chip.setDrvCh_dtm (c : Chip) (k : Nat) (v : DrvCh) : (c.setDrvCh k v).dtm = c.dtm := rfl
@[simp] theorem Chip.setDrvCh_clk (c : Chip) (k : Nat) (v : DrvCh) : (c.setDrvCh k v).clk = c.clk := rfl
@[simp] theorem Chip.setDrvCh_sap (c : Chip) (k : Nat) (v : DrvCh) : (c.setDrvCh k v).sap = c.sap := rfl
@[simp] theorem Chip.setDrvCh_cues (c : Chip) (k : Nat) (v : DrvCh) : (c.setDrvCh k v).cues = c.cues := rfl
@[simp] theorem Chip.setDrvCh_net (c : Chip) (k : Nat) (v : DrvCh) : (c.setDrvCh k v).net = c.net := rfl
@[simp] theorem Chip.setDrvCh_pair (c : Chip) (k : Nat) (v : DrvCh) : (c.setDrvCh k v).pair = c.pair := rfl
@[simp] theorem Chip.setDrvCh_dma (c : Chip) (k : Nat) (v : DrvCh) : (c.setDrvCh k v).dma = c.dma := rfl
@[simp] theorem Chip.setDrvCh_ddr (c : Chip) (k : Nat) (v : DrvCh) : (c.setDrvCh k v).ddr = c.ddr := rfl
@[simp] theorem Chip.setDrvCh_ports (c : Chip) (k : Nat) (v : DrvCh) : (c.setDrvCh k v).ports = c.ports := rfl
@[simp] theorem Chip.setDrvCh_msix (c : Chip) (k : Nat) (v : DrvCh) : (c.setDrvCh k v).msix = c.msix := rfl
@[simp] theorem Chip.setDrvCh_raised (c : Chip) (k : Nat) (v : DrvCh) : (c.setDrvCh k v).raised = c.raised := rfl
@[simp] theorem Chip.setDrvCh_nfree (c : Chip) (k : Nat) (v : DrvCh) : (c.setDrvCh k v).nfree = c.nfree := rfl
@[simp] theorem Chip.modDrvCh_eng (c : Chip) (k : Nat) (f : DrvCh → DrvCh) : (c.modDrvCh k f).eng = c.eng := rfl
@[simp] theorem Chip.modDrvCh_cells (c : Chip) (k : Nat) (f : DrvCh → DrvCh) : (c.modDrvCh k f).cells = c.cells := rfl
@[simp] theorem Chip.modDrvCh_graph (c : Chip) (k : Nat) (f : DrvCh → DrvCh) : (c.modDrvCh k f).graph = c.graph := rfl
@[simp] theorem Chip.modDrvCh_chain (c : Chip) (k : Nat) (f : DrvCh → DrvCh) : (c.modDrvCh k f).chain = c.chain := rfl
@[simp] theorem Chip.modDrvCh_mem (c : Chip) (k : Nat) (f : DrvCh → DrvCh) : (c.modDrvCh k f).mem = c.mem := rfl
@[simp] theorem Chip.modDrvCh_regs (c : Chip) (k : Nat) (f : DrvCh → DrvCh) : (c.modDrvCh k f).regs = c.regs := rfl
@[simp] theorem Chip.modDrvCh_flt (c : Chip) (k : Nat) (f : DrvCh → DrvCh) : (c.modDrvCh k f).flt = c.flt := rfl
@[simp] theorem Chip.modDrvCh_pwr (c : Chip) (k : Nat) (f : DrvCh → DrvCh) : (c.modDrvCh k f).pwr = c.pwr := rfl
@[simp] theorem Chip.modDrvCh_sys (c : Chip) (k : Nat) (f : DrvCh → DrvCh) : (c.modDrvCh k f).sys = c.sys := rfl
@[simp] theorem Chip.modDrvCh_cmd (c : Chip) (k : Nat) (f : DrvCh → DrvCh) : (c.modDrvCh k f).cmd = c.cmd := rfl
@[simp] theorem Chip.modDrvCh_host (c : Chip) (k : Nat) (f : DrvCh → DrvCh) : (c.modDrvCh k f).host = c.host := rfl
@[simp] theorem Chip.modDrvCh_dtm (c : Chip) (k : Nat) (f : DrvCh → DrvCh) : (c.modDrvCh k f).dtm = c.dtm := rfl
@[simp] theorem Chip.modDrvCh_clk (c : Chip) (k : Nat) (f : DrvCh → DrvCh) : (c.modDrvCh k f).clk = c.clk := rfl
@[simp] theorem Chip.modDrvCh_sap (c : Chip) (k : Nat) (f : DrvCh → DrvCh) : (c.modDrvCh k f).sap = c.sap := rfl
@[simp] theorem Chip.modDrvCh_cues (c : Chip) (k : Nat) (f : DrvCh → DrvCh) : (c.modDrvCh k f).cues = c.cues := rfl
@[simp] theorem Chip.modDrvCh_net (c : Chip) (k : Nat) (f : DrvCh → DrvCh) : (c.modDrvCh k f).net = c.net := rfl
@[simp] theorem Chip.modDrvCh_pair (c : Chip) (k : Nat) (f : DrvCh → DrvCh) : (c.modDrvCh k f).pair = c.pair := rfl
@[simp] theorem Chip.modDrvCh_dma (c : Chip) (k : Nat) (f : DrvCh → DrvCh) : (c.modDrvCh k f).dma = c.dma := rfl
@[simp] theorem Chip.modDrvCh_ddr (c : Chip) (k : Nat) (f : DrvCh → DrvCh) : (c.modDrvCh k f).ddr = c.ddr := rfl
@[simp] theorem Chip.modDrvCh_ports (c : Chip) (k : Nat) (f : DrvCh → DrvCh) : (c.modDrvCh k f).ports = c.ports := rfl
@[simp] theorem Chip.modDrvCh_msix (c : Chip) (k : Nat) (f : DrvCh → DrvCh) : (c.modDrvCh k f).msix = c.msix := rfl
@[simp] theorem Chip.modDrvCh_raised (c : Chip) (k : Nat) (f : DrvCh → DrvCh) : (c.modDrvCh k f).raised = c.raised := rfl
@[simp] theorem Chip.modDrvCh_nfree (c : Chip) (k : Nat) (f : DrvCh → DrvCh) : (c.modDrvCh k f).nfree = c.nfree := rfl
@[simp] theorem Chip.setDrvMod_eng (c : Chip) (k : Nat) (v : DrvMod) : (c.setDrvMod k v).eng = c.eng := rfl
@[simp] theorem Chip.setDrvMod_cells (c : Chip) (k : Nat) (v : DrvMod) : (c.setDrvMod k v).cells = c.cells := rfl
@[simp] theorem Chip.setDrvMod_graph (c : Chip) (k : Nat) (v : DrvMod) : (c.setDrvMod k v).graph = c.graph := rfl
@[simp] theorem Chip.setDrvMod_chain (c : Chip) (k : Nat) (v : DrvMod) : (c.setDrvMod k v).chain = c.chain := rfl
@[simp] theorem Chip.setDrvMod_mem (c : Chip) (k : Nat) (v : DrvMod) : (c.setDrvMod k v).mem = c.mem := rfl
@[simp] theorem Chip.setDrvMod_regs (c : Chip) (k : Nat) (v : DrvMod) : (c.setDrvMod k v).regs = c.regs := rfl
@[simp] theorem Chip.setDrvMod_flt (c : Chip) (k : Nat) (v : DrvMod) : (c.setDrvMod k v).flt = c.flt := rfl
@[simp] theorem Chip.setDrvMod_pwr (c : Chip) (k : Nat) (v : DrvMod) : (c.setDrvMod k v).pwr = c.pwr := rfl
@[simp] theorem Chip.setDrvMod_sys (c : Chip) (k : Nat) (v : DrvMod) : (c.setDrvMod k v).sys = c.sys := rfl
@[simp] theorem Chip.setDrvMod_cmd (c : Chip) (k : Nat) (v : DrvMod) : (c.setDrvMod k v).cmd = c.cmd := rfl
@[simp] theorem Chip.setDrvMod_host (c : Chip) (k : Nat) (v : DrvMod) : (c.setDrvMod k v).host = c.host := rfl
@[simp] theorem Chip.setDrvMod_dtm (c : Chip) (k : Nat) (v : DrvMod) : (c.setDrvMod k v).dtm = c.dtm := rfl
@[simp] theorem Chip.setDrvMod_clk (c : Chip) (k : Nat) (v : DrvMod) : (c.setDrvMod k v).clk = c.clk := rfl
@[simp] theorem Chip.setDrvMod_sap (c : Chip) (k : Nat) (v : DrvMod) : (c.setDrvMod k v).sap = c.sap := rfl
@[simp] theorem Chip.setDrvMod_cues (c : Chip) (k : Nat) (v : DrvMod) : (c.setDrvMod k v).cues = c.cues := rfl
@[simp] theorem Chip.setDrvMod_net (c : Chip) (k : Nat) (v : DrvMod) : (c.setDrvMod k v).net = c.net := rfl
@[simp] theorem Chip.setDrvMod_pair (c : Chip) (k : Nat) (v : DrvMod) : (c.setDrvMod k v).pair = c.pair := rfl
@[simp] theorem Chip.setDrvMod_dma (c : Chip) (k : Nat) (v : DrvMod) : (c.setDrvMod k v).dma = c.dma := rfl
@[simp] theorem Chip.setDrvMod_ddr (c : Chip) (k : Nat) (v : DrvMod) : (c.setDrvMod k v).ddr = c.ddr := rfl
@[simp] theorem Chip.setDrvMod_ports (c : Chip) (k : Nat) (v : DrvMod) : (c.setDrvMod k v).ports = c.ports := rfl
@[simp] theorem Chip.setDrvMod_msix (c : Chip) (k : Nat) (v : DrvMod) : (c.setDrvMod k v).msix = c.msix := rfl
@[simp] theorem Chip.setDrvMod_raised (c : Chip) (k : Nat) (v : DrvMod) : (c.setDrvMod k v).raised = c.raised := rfl
@[simp] theorem Chip.setDrvMod_nfree (c : Chip) (k : Nat) (v : DrvMod) : (c.setDrvMod k v).nfree = c.nfree := rfl
@[simp] theorem Chip.modDrvMod_eng (c : Chip) (k : Nat) (f : DrvMod → DrvMod) : (c.modDrvMod k f).eng = c.eng := rfl
@[simp] theorem Chip.modDrvMod_cells (c : Chip) (k : Nat) (f : DrvMod → DrvMod) : (c.modDrvMod k f).cells = c.cells := rfl
@[simp] theorem Chip.modDrvMod_graph (c : Chip) (k : Nat) (f : DrvMod → DrvMod) : (c.modDrvMod k f).graph = c.graph := rfl
@[simp] theorem Chip.modDrvMod_chain (c : Chip) (k : Nat) (f : DrvMod → DrvMod) : (c.modDrvMod k f).chain = c.chain := rfl
@[simp] theorem Chip.modDrvMod_mem (c : Chip) (k : Nat) (f : DrvMod → DrvMod) : (c.modDrvMod k f).mem = c.mem := rfl
@[simp] theorem Chip.modDrvMod_regs (c : Chip) (k : Nat) (f : DrvMod → DrvMod) : (c.modDrvMod k f).regs = c.regs := rfl
@[simp] theorem Chip.modDrvMod_flt (c : Chip) (k : Nat) (f : DrvMod → DrvMod) : (c.modDrvMod k f).flt = c.flt := rfl
@[simp] theorem Chip.modDrvMod_pwr (c : Chip) (k : Nat) (f : DrvMod → DrvMod) : (c.modDrvMod k f).pwr = c.pwr := rfl
@[simp] theorem Chip.modDrvMod_sys (c : Chip) (k : Nat) (f : DrvMod → DrvMod) : (c.modDrvMod k f).sys = c.sys := rfl
@[simp] theorem Chip.modDrvMod_cmd (c : Chip) (k : Nat) (f : DrvMod → DrvMod) : (c.modDrvMod k f).cmd = c.cmd := rfl
@[simp] theorem Chip.modDrvMod_host (c : Chip) (k : Nat) (f : DrvMod → DrvMod) : (c.modDrvMod k f).host = c.host := rfl
@[simp] theorem Chip.modDrvMod_dtm (c : Chip) (k : Nat) (f : DrvMod → DrvMod) : (c.modDrvMod k f).dtm = c.dtm := rfl
@[simp] theorem Chip.modDrvMod_clk (c : Chip) (k : Nat) (f : DrvMod → DrvMod) : (c.modDrvMod k f).clk = c.clk := rfl
@[simp] theorem Chip.modDrvMod_sap (c : Chip) (k : Nat) (f : DrvMod → DrvMod) : (c.modDrvMod k f).sap = c.sap := rfl
@[simp] theorem Chip.modDrvMod_cues (c : Chip) (k : Nat) (f : DrvMod → DrvMod) : (c.modDrvMod k f).cues = c.cues := rfl
@[simp] theorem Chip.modDrvMod_net (c : Chip) (k : Nat) (f : DrvMod → DrvMod) : (c.modDrvMod k f).net = c.net := rfl
@[simp] theorem Chip.modDrvMod_pair (c : Chip) (k : Nat) (f : DrvMod → DrvMod) : (c.modDrvMod k f).pair = c.pair := rfl
@[simp] theorem Chip.modDrvMod_dma (c : Chip) (k : Nat) (f : DrvMod → DrvMod) : (c.modDrvMod k f).dma = c.dma := rfl
@[simp] theorem Chip.modDrvMod_ddr (c : Chip) (k : Nat) (f : DrvMod → DrvMod) : (c.modDrvMod k f).ddr = c.ddr := rfl
@[simp] theorem Chip.modDrvMod_ports (c : Chip) (k : Nat) (f : DrvMod → DrvMod) : (c.modDrvMod k f).ports = c.ports := rfl
@[simp] theorem Chip.modDrvMod_msix (c : Chip) (k : Nat) (f : DrvMod → DrvMod) : (c.modDrvMod k f).msix = c.msix := rfl
@[simp] theorem Chip.modDrvMod_raised (c : Chip) (k : Nat) (f : DrvMod → DrvMod) : (c.modDrvMod k f).raised = c.raised := rfl
@[simp] theorem Chip.modDrvMod_nfree (c : Chip) (k : Nat) (f : DrvMod → DrvMod) : (c.modDrvMod k f).nfree = c.nfree := rfl
@[simp] theorem Chip.setAct_eng (c : Chip) (n : Nat) (v : Option DmaAct) : (c.setAct n v).eng = c.eng := rfl
@[simp] theorem Chip.setAct_cells (c : Chip) (n : Nat) (v : Option DmaAct) : (c.setAct n v).cells = c.cells := rfl
@[simp] theorem Chip.setAct_graph (c : Chip) (n : Nat) (v : Option DmaAct) : (c.setAct n v).graph = c.graph := rfl
@[simp] theorem Chip.setAct_chain (c : Chip) (n : Nat) (v : Option DmaAct) : (c.setAct n v).chain = c.chain := rfl
@[simp] theorem Chip.setAct_mem (c : Chip) (n : Nat) (v : Option DmaAct) : (c.setAct n v).mem = c.mem := rfl
@[simp] theorem Chip.setAct_regs (c : Chip) (n : Nat) (v : Option DmaAct) : (c.setAct n v).regs = c.regs := rfl
@[simp] theorem Chip.setAct_flt (c : Chip) (n : Nat) (v : Option DmaAct) : (c.setAct n v).flt = c.flt := rfl
@[simp] theorem Chip.setAct_pwr (c : Chip) (n : Nat) (v : Option DmaAct) : (c.setAct n v).pwr = c.pwr := rfl
@[simp] theorem Chip.setAct_sys (c : Chip) (n : Nat) (v : Option DmaAct) : (c.setAct n v).sys = c.sys := rfl
@[simp] theorem Chip.setAct_cmd (c : Chip) (n : Nat) (v : Option DmaAct) : (c.setAct n v).cmd = c.cmd := rfl
@[simp] theorem Chip.setAct_host (c : Chip) (n : Nat) (v : Option DmaAct) : (c.setAct n v).host = c.host := rfl
@[simp] theorem Chip.setAct_dtm (c : Chip) (n : Nat) (v : Option DmaAct) : (c.setAct n v).dtm = c.dtm := rfl
@[simp] theorem Chip.setAct_clk (c : Chip) (n : Nat) (v : Option DmaAct) : (c.setAct n v).clk = c.clk := rfl
@[simp] theorem Chip.setAct_sap (c : Chip) (n : Nat) (v : Option DmaAct) : (c.setAct n v).sap = c.sap := rfl
@[simp] theorem Chip.setAct_cues (c : Chip) (n : Nat) (v : Option DmaAct) : (c.setAct n v).cues = c.cues := rfl
@[simp] theorem Chip.setAct_net (c : Chip) (n : Nat) (v : Option DmaAct) : (c.setAct n v).net = c.net := rfl
@[simp] theorem Chip.setAct_drv (c : Chip) (n : Nat) (v : Option DmaAct) : (c.setAct n v).drv = c.drv := rfl
@[simp] theorem Chip.setAct_pair (c : Chip) (n : Nat) (v : Option DmaAct) : (c.setAct n v).pair = c.pair := rfl
@[simp] theorem Chip.setAct_ddr (c : Chip) (n : Nat) (v : Option DmaAct) : (c.setAct n v).ddr = c.ddr := rfl
@[simp] theorem Chip.setAct_ports (c : Chip) (n : Nat) (v : Option DmaAct) : (c.setAct n v).ports = c.ports := rfl
@[simp] theorem Chip.setAct_msix (c : Chip) (n : Nat) (v : Option DmaAct) : (c.setAct n v).msix = c.msix := rfl
@[simp] theorem Chip.setAct_raised (c : Chip) (n : Nat) (v : Option DmaAct) : (c.setAct n v).raised = c.raised := rfl
@[simp] theorem Chip.setAct_nfree (c : Chip) (n : Nat) (v : Option DmaAct) : (c.setAct n v).nfree = c.nfree := rfl

/-! ## Events -/

@[simp] theorem Chip.event_eng (c : Chip) (a i v : Nat) (ok : Bool) : (c.event a i v ok).eng = c.eng := by
  unfold Chip.event; dsimp only; split
  · rfl
  · split <;> rfl
@[simp] theorem Chip.event_cells (c : Chip) (a i v : Nat) (ok : Bool) : (c.event a i v ok).cells = c.cells := by
  unfold Chip.event; dsimp only; split
  · rfl
  · split <;> rfl
@[simp] theorem Chip.event_graph (c : Chip) (a i v : Nat) (ok : Bool) : (c.event a i v ok).graph = c.graph := by
  unfold Chip.event; dsimp only; split
  · rfl
  · split <;> rfl
@[simp] theorem Chip.event_chain (c : Chip) (a i v : Nat) (ok : Bool) : (c.event a i v ok).chain = c.chain := by
  unfold Chip.event; dsimp only; split
  · rfl
  · split <;> rfl
@[simp] theorem Chip.event_mem (c : Chip) (a i v : Nat) (ok : Bool) : (c.event a i v ok).mem = c.mem := by
  unfold Chip.event; dsimp only; split
  · rfl
  · split <;> rfl
@[simp] theorem Chip.event_flt (c : Chip) (a i v : Nat) (ok : Bool) : (c.event a i v ok).flt = c.flt := by
  unfold Chip.event; dsimp only; split
  · rfl
  · split <;> rfl
@[simp] theorem Chip.event_pwr (c : Chip) (a i v : Nat) (ok : Bool) : (c.event a i v ok).pwr = c.pwr := by
  unfold Chip.event; dsimp only; split
  · rfl
  · split <;> rfl
@[simp] theorem Chip.event_sys (c : Chip) (a i v : Nat) (ok : Bool) : (c.event a i v ok).sys = c.sys := by
  unfold Chip.event; dsimp only; split
  · rfl
  · split <;> rfl
@[simp] theorem Chip.event_cmd (c : Chip) (a i v : Nat) (ok : Bool) : (c.event a i v ok).cmd = c.cmd := by
  unfold Chip.event; dsimp only; split
  · rfl
  · split <;> rfl
@[simp] theorem Chip.event_host (c : Chip) (a i v : Nat) (ok : Bool) : (c.event a i v ok).host = c.host := by
  unfold Chip.event; dsimp only; split
  · rfl
  · split <;> rfl
@[simp] theorem Chip.event_dtm (c : Chip) (a i v : Nat) (ok : Bool) : (c.event a i v ok).dtm = c.dtm := by
  unfold Chip.event; dsimp only; split
  · rfl
  · split <;> rfl
@[simp] theorem Chip.event_clk (c : Chip) (a i v : Nat) (ok : Bool) : (c.event a i v ok).clk = c.clk := by
  unfold Chip.event; dsimp only; split
  · rfl
  · split <;> rfl
@[simp] theorem Chip.event_sap (c : Chip) (a i v : Nat) (ok : Bool) : (c.event a i v ok).sap = c.sap := by
  unfold Chip.event; dsimp only; split
  · rfl
  · split <;> rfl
@[simp] theorem Chip.event_cues (c : Chip) (a i v : Nat) (ok : Bool) : (c.event a i v ok).cues = c.cues := by
  unfold Chip.event; dsimp only; split
  · rfl
  · split <;> rfl
@[simp] theorem Chip.event_net (c : Chip) (a i v : Nat) (ok : Bool) : (c.event a i v ok).net = c.net := by
  unfold Chip.event; dsimp only; split
  · rfl
  · split <;> rfl
@[simp] theorem Chip.event_drv (c : Chip) (a i v : Nat) (ok : Bool) : (c.event a i v ok).drv = c.drv := by
  unfold Chip.event; dsimp only; split
  · rfl
  · split <;> rfl
@[simp] theorem Chip.event_pair (c : Chip) (a i v : Nat) (ok : Bool) : (c.event a i v ok).pair = c.pair := by
  unfold Chip.event; dsimp only; split
  · rfl
  · split <;> rfl
@[simp] theorem Chip.event_dma (c : Chip) (a i v : Nat) (ok : Bool) : (c.event a i v ok).dma = c.dma := by
  unfold Chip.event; dsimp only; split
  · rfl
  · split <;> rfl
@[simp] theorem Chip.event_ddr (c : Chip) (a i v : Nat) (ok : Bool) : (c.event a i v ok).ddr = c.ddr := by
  unfold Chip.event; dsimp only; split
  · rfl
  · split <;> rfl
@[simp] theorem Chip.event_ports (c : Chip) (a i v : Nat) (ok : Bool) : (c.event a i v ok).ports = c.ports := by
  unfold Chip.event; dsimp only; split
  · rfl
  · split <;> rfl
@[simp] theorem Chip.event_nfree (c : Chip) (a i v : Nat) (ok : Bool) : (c.event a i v ok).nfree = c.nfree := by
  unfold Chip.event; dsimp only; split
  · rfl
  · split <;> rfl

/-! ## Ownership -/

/-- A fold of operations that keep a field keeps it. -/
theorem foldl_keep {α β γ : Type} (g : α → γ) (f : α → β → α) (h : ∀ a b, g (f a b) = g a) (l : List β) (a : α) :
    g (l.foldl f a) = g a := by
  induction l generalizing a with
  | nil => rfl
  | cons b r ih => simp only [List.foldl_cons, ih, h]

@[simp] theorem Chip.cueType_eng (c : Chip) (p t x g : Nat) : (c.cueType p t x g).eng = c.eng := by
  unfold Chip.cueType; dsimp only; split <;> simp [Chip.cueEvent]
@[simp] theorem Chip.cueType_cells (c : Chip) (p t x g : Nat) : (c.cueType p t x g).cells = c.cells := by
  unfold Chip.cueType; dsimp only; split <;> simp [Chip.cueEvent]
@[simp] theorem Chip.cueType_graph (c : Chip) (p t x g : Nat) : (c.cueType p t x g).graph = c.graph := by
  unfold Chip.cueType; dsimp only; split <;> simp [Chip.cueEvent]
@[simp] theorem Chip.cueType_chain (c : Chip) (p t x g : Nat) : (c.cueType p t x g).chain = c.chain := by
  unfold Chip.cueType; dsimp only; split <;> simp [Chip.cueEvent]
@[simp] theorem Chip.cueType_mem (c : Chip) (p t x g : Nat) : (c.cueType p t x g).mem = c.mem := by
  unfold Chip.cueType; dsimp only; split <;> simp [Chip.cueEvent]
@[simp] theorem Chip.cueType_flt (c : Chip) (p t x g : Nat) : (c.cueType p t x g).flt = c.flt := by
  unfold Chip.cueType; dsimp only; split <;> simp [Chip.cueEvent]
@[simp] theorem Chip.cueType_pwr (c : Chip) (p t x g : Nat) : (c.cueType p t x g).pwr = c.pwr := by
  unfold Chip.cueType; dsimp only; split <;> simp [Chip.cueEvent]
@[simp] theorem Chip.cueType_sys (c : Chip) (p t x g : Nat) : (c.cueType p t x g).sys = c.sys := by
  unfold Chip.cueType; dsimp only; split <;> simp [Chip.cueEvent]
@[simp] theorem Chip.cueType_cmd (c : Chip) (p t x g : Nat) : (c.cueType p t x g).cmd = c.cmd := by
  unfold Chip.cueType; dsimp only; split <;> simp [Chip.cueEvent]
@[simp] theorem Chip.cueType_host (c : Chip) (p t x g : Nat) : (c.cueType p t x g).host = c.host := by
  unfold Chip.cueType; dsimp only; split <;> simp [Chip.cueEvent]
@[simp] theorem Chip.cueType_dtm (c : Chip) (p t x g : Nat) : (c.cueType p t x g).dtm = c.dtm := by
  unfold Chip.cueType; dsimp only; split <;> simp [Chip.cueEvent]
@[simp] theorem Chip.cueType_clk (c : Chip) (p t x g : Nat) : (c.cueType p t x g).clk = c.clk := by
  unfold Chip.cueType; dsimp only; split <;> simp [Chip.cueEvent]
@[simp] theorem Chip.cueType_sap (c : Chip) (p t x g : Nat) : (c.cueType p t x g).sap = c.sap := by
  unfold Chip.cueType; dsimp only; split <;> simp [Chip.cueEvent]
@[simp] theorem Chip.cueType_cues (c : Chip) (p t x g : Nat) : (c.cueType p t x g).cues = c.cues := by
  unfold Chip.cueType; dsimp only; split <;> simp [Chip.cueEvent]
@[simp] theorem Chip.cueType_net (c : Chip) (p t x g : Nat) : (c.cueType p t x g).net = c.net := by
  unfold Chip.cueType; dsimp only; split <;> simp [Chip.cueEvent]
@[simp] theorem Chip.cueType_drv (c : Chip) (p t x g : Nat) : (c.cueType p t x g).drv = c.drv := by
  unfold Chip.cueType; dsimp only; split <;> simp [Chip.cueEvent]
@[simp] theorem Chip.cueType_pair (c : Chip) (p t x g : Nat) : (c.cueType p t x g).pair = c.pair := by
  unfold Chip.cueType; dsimp only; split <;> simp [Chip.cueEvent]
@[simp] theorem Chip.cueType_dma (c : Chip) (p t x g : Nat) : (c.cueType p t x g).dma = c.dma := by
  unfold Chip.cueType; dsimp only; split <;> simp [Chip.cueEvent]
@[simp] theorem Chip.cueType_ddr (c : Chip) (p t x g : Nat) : (c.cueType p t x g).ddr = c.ddr := by
  unfold Chip.cueType; dsimp only; split <;> simp [Chip.cueEvent]
@[simp] theorem Chip.cueType_ports (c : Chip) (p t x g : Nat) : (c.cueType p t x g).ports = c.ports := by
  unfold Chip.cueType; dsimp only; split <;> simp [Chip.cueEvent]
@[simp] theorem Chip.cueType_nfree (c : Chip) (p t x g : Nat) : (c.cueType p t x g).nfree = c.nfree := by
  unfold Chip.cueType; dsimp only; split <;> simp [Chip.cueEvent]
@[simp] theorem Chip.cueClassify_eng (c : Chip) (p : Nat) : (c.cueClassify p).eng = c.eng := by simp [Chip.cueClassify]
@[simp] theorem Chip.cueClassify_cells (c : Chip) (p : Nat) : (c.cueClassify p).cells = c.cells := by simp [Chip.cueClassify]
@[simp] theorem Chip.cueClassify_graph (c : Chip) (p : Nat) : (c.cueClassify p).graph = c.graph := by simp [Chip.cueClassify]
@[simp] theorem Chip.cueClassify_chain (c : Chip) (p : Nat) : (c.cueClassify p).chain = c.chain := by simp [Chip.cueClassify]
@[simp] theorem Chip.cueClassify_mem (c : Chip) (p : Nat) : (c.cueClassify p).mem = c.mem := by simp [Chip.cueClassify]
@[simp] theorem Chip.cueClassify_flt (c : Chip) (p : Nat) : (c.cueClassify p).flt = c.flt := by simp [Chip.cueClassify]
@[simp] theorem Chip.cueClassify_pwr (c : Chip) (p : Nat) : (c.cueClassify p).pwr = c.pwr := by simp [Chip.cueClassify]
@[simp] theorem Chip.cueClassify_sys (c : Chip) (p : Nat) : (c.cueClassify p).sys = c.sys := by simp [Chip.cueClassify]
@[simp] theorem Chip.cueClassify_cmd (c : Chip) (p : Nat) : (c.cueClassify p).cmd = c.cmd := by simp [Chip.cueClassify]
@[simp] theorem Chip.cueClassify_host (c : Chip) (p : Nat) : (c.cueClassify p).host = c.host := by simp [Chip.cueClassify]
@[simp] theorem Chip.cueClassify_dtm (c : Chip) (p : Nat) : (c.cueClassify p).dtm = c.dtm := by simp [Chip.cueClassify]
@[simp] theorem Chip.cueClassify_clk (c : Chip) (p : Nat) : (c.cueClassify p).clk = c.clk := by simp [Chip.cueClassify]
@[simp] theorem Chip.cueClassify_sap (c : Chip) (p : Nat) : (c.cueClassify p).sap = c.sap := by simp [Chip.cueClassify]
@[simp] theorem Chip.cueClassify_net (c : Chip) (p : Nat) : (c.cueClassify p).net = c.net := by simp [Chip.cueClassify]
@[simp] theorem Chip.cueClassify_drv (c : Chip) (p : Nat) : (c.cueClassify p).drv = c.drv := by simp [Chip.cueClassify]
@[simp] theorem Chip.cueClassify_pair (c : Chip) (p : Nat) : (c.cueClassify p).pair = c.pair := by simp [Chip.cueClassify]
@[simp] theorem Chip.cueClassify_dma (c : Chip) (p : Nat) : (c.cueClassify p).dma = c.dma := by simp [Chip.cueClassify]
@[simp] theorem Chip.cueClassify_ddr (c : Chip) (p : Nat) : (c.cueClassify p).ddr = c.ddr := by simp [Chip.cueClassify]
@[simp] theorem Chip.cueClassify_ports (c : Chip) (p : Nat) : (c.cueClassify p).ports = c.ports := by simp [Chip.cueClassify]
@[simp] theorem Chip.cueClassify_nfree (c : Chip) (p : Nat) : (c.cueClassify p).nfree = c.nfree := by simp [Chip.cueClassify]
@[simp] theorem Chip.cueOwner_eng (c : Chip) (b : Bool) : (c.cueOwner b).eng = c.eng := by
  unfold Chip.cueOwner; split
  · rfl
  · refine foldl_keep (fun c : Chip => c.eng) _ ?_ _ _
    intro a p
    repeat' split
    all_goals simp
@[simp] theorem Chip.cueOwner_cells (c : Chip) (b : Bool) : (c.cueOwner b).cells = c.cells := by
  unfold Chip.cueOwner; split
  · rfl
  · refine foldl_keep (fun c : Chip => c.cells) _ ?_ _ _
    intro a p
    repeat' split
    all_goals simp
@[simp] theorem Chip.cueOwner_graph (c : Chip) (b : Bool) : (c.cueOwner b).graph = c.graph := by
  unfold Chip.cueOwner; split
  · rfl
  · refine foldl_keep (fun c : Chip => c.graph) _ ?_ _ _
    intro a p
    repeat' split
    all_goals simp
@[simp] theorem Chip.cueOwner_chain (c : Chip) (b : Bool) : (c.cueOwner b).chain = c.chain := by
  unfold Chip.cueOwner; split
  · rfl
  · refine foldl_keep (fun c : Chip => c.chain) _ ?_ _ _
    intro a p
    repeat' split
    all_goals simp
@[simp] theorem Chip.cueOwner_mem (c : Chip) (b : Bool) : (c.cueOwner b).mem = c.mem := by
  unfold Chip.cueOwner; split
  · rfl
  · refine foldl_keep (fun c : Chip => c.mem) _ ?_ _ _
    intro a p
    repeat' split
    all_goals simp
@[simp] theorem Chip.cueOwner_flt (c : Chip) (b : Bool) : (c.cueOwner b).flt = c.flt := by
  unfold Chip.cueOwner; split
  · rfl
  · refine foldl_keep (fun c : Chip => c.flt) _ ?_ _ _
    intro a p
    repeat' split
    all_goals simp
@[simp] theorem Chip.cueOwner_pwr (c : Chip) (b : Bool) : (c.cueOwner b).pwr = c.pwr := by
  unfold Chip.cueOwner; split
  · rfl
  · refine foldl_keep (fun c : Chip => c.pwr) _ ?_ _ _
    intro a p
    repeat' split
    all_goals simp
@[simp] theorem Chip.cueOwner_sys (c : Chip) (b : Bool) : (c.cueOwner b).sys = c.sys := by
  unfold Chip.cueOwner; split
  · rfl
  · refine foldl_keep (fun c : Chip => c.sys) _ ?_ _ _
    intro a p
    repeat' split
    all_goals simp
@[simp] theorem Chip.cueOwner_cmd (c : Chip) (b : Bool) : (c.cueOwner b).cmd = c.cmd := by
  unfold Chip.cueOwner; split
  · rfl
  · refine foldl_keep (fun c : Chip => c.cmd) _ ?_ _ _
    intro a p
    repeat' split
    all_goals simp
@[simp] theorem Chip.cueOwner_host (c : Chip) (b : Bool) : (c.cueOwner b).host = c.host := by
  unfold Chip.cueOwner; split
  · rfl
  · refine foldl_keep (fun c : Chip => c.host) _ ?_ _ _
    intro a p
    repeat' split
    all_goals simp
@[simp] theorem Chip.cueOwner_dtm (c : Chip) (b : Bool) : (c.cueOwner b).dtm = c.dtm := by
  unfold Chip.cueOwner; split
  · rfl
  · refine foldl_keep (fun c : Chip => c.dtm) _ ?_ _ _
    intro a p
    repeat' split
    all_goals simp
@[simp] theorem Chip.cueOwner_clk (c : Chip) (b : Bool) : (c.cueOwner b).clk = c.clk := by
  unfold Chip.cueOwner; split
  · rfl
  · refine foldl_keep (fun c : Chip => c.clk) _ ?_ _ _
    intro a p
    repeat' split
    all_goals simp
@[simp] theorem Chip.cueOwner_sap (c : Chip) (b : Bool) : (c.cueOwner b).sap = c.sap := by
  unfold Chip.cueOwner; split
  · rfl
  · refine foldl_keep (fun c : Chip => c.sap) _ ?_ _ _
    intro a p
    repeat' split
    all_goals simp
@[simp] theorem Chip.cueOwner_net (c : Chip) (b : Bool) : (c.cueOwner b).net = c.net := by
  unfold Chip.cueOwner; split
  · rfl
  · refine foldl_keep (fun c : Chip => c.net) _ ?_ _ _
    intro a p
    repeat' split
    all_goals simp
@[simp] theorem Chip.cueOwner_drv (c : Chip) (b : Bool) : (c.cueOwner b).drv = c.drv := by
  unfold Chip.cueOwner; split
  · rfl
  · refine foldl_keep (fun c : Chip => c.drv) _ ?_ _ _
    intro a p
    repeat' split
    all_goals simp
@[simp] theorem Chip.cueOwner_pair (c : Chip) (b : Bool) : (c.cueOwner b).pair = c.pair := by
  unfold Chip.cueOwner; split
  · rfl
  · refine foldl_keep (fun c : Chip => c.pair) _ ?_ _ _
    intro a p
    repeat' split
    all_goals simp
@[simp] theorem Chip.cueOwner_dma (c : Chip) (b : Bool) : (c.cueOwner b).dma = c.dma := by
  unfold Chip.cueOwner; split
  · rfl
  · refine foldl_keep (fun c : Chip => c.dma) _ ?_ _ _
    intro a p
    repeat' split
    all_goals simp
@[simp] theorem Chip.cueOwner_ddr (c : Chip) (b : Bool) : (c.cueOwner b).ddr = c.ddr := by
  unfold Chip.cueOwner; split
  · rfl
  · refine foldl_keep (fun c : Chip => c.ddr) _ ?_ _ _
    intro a p
    repeat' split
    all_goals simp
@[simp] theorem Chip.cueOwner_ports (c : Chip) (b : Bool) : (c.cueOwner b).ports = c.ports := by
  unfold Chip.cueOwner; split
  · rfl
  · refine foldl_keep (fun c : Chip => c.ports) _ ?_ _ _
    intro a p
    repeat' split
    all_goals simp
@[simp] theorem Chip.cueOwner_nfree (c : Chip) (b : Bool) : (c.cueOwner b).nfree = c.nfree := by
  unfold Chip.cueOwner; split
  · rfl
  · refine foldl_keep (fun c : Chip => c.nfree) _ ?_ _ _
    intro a p
    repeat' split
    all_goals simp
@[simp] theorem Chip.setOwner_eng (c : Chip) (b : Bool) : (c.setOwner b).eng = c.eng := by
  unfold Chip.setOwner; dsimp only; split <;> split <;> simp
@[simp] theorem Chip.setOwner_cells (c : Chip) (b : Bool) : (c.setOwner b).cells = c.cells := by
  unfold Chip.setOwner; dsimp only; split <;> split <;> simp
@[simp] theorem Chip.setOwner_graph (c : Chip) (b : Bool) : (c.setOwner b).graph = c.graph := by
  unfold Chip.setOwner; dsimp only; split <;> split <;> simp
@[simp] theorem Chip.setOwner_chain (c : Chip) (b : Bool) : (c.setOwner b).chain = c.chain := by
  unfold Chip.setOwner; dsimp only; split <;> split <;> simp
@[simp] theorem Chip.setOwner_mem (c : Chip) (b : Bool) : (c.setOwner b).mem = c.mem := by
  unfold Chip.setOwner; dsimp only; split <;> split <;> simp
@[simp] theorem Chip.setOwner_flt (c : Chip) (b : Bool) : (c.setOwner b).flt = c.flt := by
  unfold Chip.setOwner; dsimp only; split <;> split <;> simp
@[simp] theorem Chip.setOwner_pwr (c : Chip) (b : Bool) : (c.setOwner b).pwr = c.pwr := by
  unfold Chip.setOwner; dsimp only; split <;> split <;> simp
@[simp] theorem Chip.setOwner_sys (c : Chip) (b : Bool) : (c.setOwner b).sys = c.sys := by
  unfold Chip.setOwner; dsimp only; split <;> split <;> simp
@[simp] theorem Chip.setOwner_cmd (c : Chip) (b : Bool) : (c.setOwner b).cmd = c.cmd := by
  unfold Chip.setOwner; dsimp only; split <;> split <;> simp
@[simp] theorem Chip.setOwner_host (c : Chip) (b : Bool) : (c.setOwner b).host = c.host := by
  unfold Chip.setOwner; dsimp only; split <;> split <;> simp
@[simp] theorem Chip.setOwner_dtm (c : Chip) (b : Bool) : (c.setOwner b).dtm = c.dtm := by
  unfold Chip.setOwner; dsimp only; split <;> split <;> simp
@[simp] theorem Chip.setOwner_clk (c : Chip) (b : Bool) : (c.setOwner b).clk = c.clk := by
  unfold Chip.setOwner; dsimp only; split <;> split <;> simp
@[simp] theorem Chip.setOwner_net (c : Chip) (b : Bool) : (c.setOwner b).net = c.net := by
  unfold Chip.setOwner; dsimp only; split <;> split <;> simp
@[simp] theorem Chip.setOwner_drv (c : Chip) (b : Bool) : (c.setOwner b).drv = c.drv := by
  unfold Chip.setOwner; dsimp only; split <;> split <;> simp
@[simp] theorem Chip.setOwner_dma (c : Chip) (b : Bool) : (c.setOwner b).dma = c.dma := by
  unfold Chip.setOwner; dsimp only; split <;> split <;> simp
@[simp] theorem Chip.setOwner_ddr (c : Chip) (b : Bool) : (c.setOwner b).ddr = c.ddr := by
  unfold Chip.setOwner; dsimp only; split <;> split <;> simp
@[simp] theorem Chip.setOwner_ports (c : Chip) (b : Bool) : (c.setOwner b).ports = c.ports := by
  unfold Chip.setOwner; dsimp only; split <;> split <;> simp
@[simp] theorem Chip.setOwner_nfree (c : Chip) (b : Bool) : (c.setOwner b).nfree = c.nfree := by
  unfold Chip.setOwner; dsimp only; split <;> split <;> simp

end Sys2Proof.Machine
end

