-- ==== Sys2Proof/Laws/Issue.lean ====
section
/-! SUPPORT. What the shared operations of the cell instructions do: reading back a cell, and everything an issue can do. -/
namespace Sys2Proof.Machine
set_option Elab.async false
open Sys2Proof

/-! ## Reading back a cell -/

theorem Chip.cell_setCell (c : Chip) (i j : Nat) (x : Cell) : (c.setCell i x).cell j = if j = i then x else c.cell j := by
  simp [Chip.cell, Chip.setCell, Map.get_put]

@[simp] theorem Chip.cell_setCell_same (c : Chip) (i : Nat) (x : Cell) : (c.setCell i x).cell i = x := by
  simp [Chip.cell_setCell]

theorem Chip.cell_setCell_ne (c : Chip) {i j : Nat} (x : Cell) (h : j ≠ i) : (c.setCell i x).cell j = c.cell j := by
  simp [Chip.cell_setCell, h]

@[simp] theorem Chip.cell_modCell_same (c : Chip) (i : Nat) (f : Cell → Cell) : (c.modCell i f).cell i = f (c.cell i) := by
  simp [Chip.modCell]

theorem Chip.cell_modCell_ne (c : Chip) {i j : Nat} (f : Cell → Cell) (h : j ≠ i) : (c.modCell i f).cell j = c.cell j := by
  simp [Chip.modCell, Chip.cell_setCell, h]

/-! ## The end of an instruction -/

/-- An instruction after which no RETB falls due changes its own cell, and nothing else. -/
theorem Chip.finish_stays (c : Chip) (i : Nat) (e : Eff) (h : ((c.cell i).retire e).2 = false) :
    c.finish i e = c.setCell i ((c.cell i).retire e).1 := by
  simp [Chip.finish, h]

/-- No RETB falls due where the cell stays in its context. -/
theorem Cell.retire_stays (x : Cell) (e : Eff) (h : x.stays = true) : (x.retire e).2 = false := by
  unfold Cell.retire
  cases he : e.turn with
  | some t => rfl
  | none =>
    cases hb : x.branch with
    | none => rfl
    | some b =>
      obtain ⟨n, t⟩ := b
      simp only [Cell.stays, hb, Bool.or_eq_true, decide_eq_true_eq, bne_iff_ne, ne_eq] at h
      by_cases hn : 1 < n
      · simp only [hn, if_true]
      · simp only [hn, if_false]
        cases t with
        | target p => rfl
        | fall => rfl
        | retb => simp [hn] at h

/-! ## Issuing -/

/-- A cell that does not issue the word leaves the chip as it was. -/
theorem Chip.issueWith_idle (c : Chip) (i : Nat) (w : DWord) (stall legal : Bool) (pre : Chip → Chip) (e : Eff)
    (h : c.issues i w = false) : c.issueWith i w stall legal pre e = c := by
  simp [Chip.issueWith, h]

/-- A legal word that nothing stalls does what it does before its effect, and then has its effect. -/
theorem Chip.issueWith_runs (c : Chip) (i : Nat) (w : DWord) (pre : Chip → Chip) (e : Eff) (h : c.issues i w = true) :
    c.issueWith i w false true pre e = (pre c).finish i e := by
  simp [Chip.issueWith, h]

/-- An illegal word is handled as an illegal instruction (R103). -/
theorem Chip.issueWith_illegal (c : Chip) (i : Nat) (w : DWord) (stall : Bool) (pre : Chip → Chip) (e : Eff)
    (h : c.issues i w = true) : c.issueWith i w stall false pre e = c.illegal i := by
  simp [Chip.issueWith, h]

/-- A stalled instruction has no effect yet. -/
theorem Chip.issueWith_stall (c : Chip) (i : Nat) (w : DWord) (pre : Chip → Chip) (e : Eff) :
    c.issueWith i w true true pre e = c := by
  simp [Chip.issueWith]

/-- A legal word issued by a cell that stays in its context changes that cell alone. -/
theorem Chip.issue_runs (c : Chip) (i : Nat) (w : DWord) (e : Eff) (h : c.issues i w = true) (hs : (c.cell i).stays = true) :
    c.issue i w true e = c.setCell i ((c.cell i).retire e).1 := by
  rw [Chip.issue, Chip.issueWith_runs _ _ _ _ _ h]
  exact Chip.finish_stays c i e (Cell.retire_stays _ e hs)

end Sys2Proof.Machine
end

