-- ==== Sys2Proof/Laws/Regs.lean ====
section
/-! SUPPORT. What the operations on registers, fields, bits, counters and event bits do, each said once, and that a fault whose
class is at LEVEL 0 does nothing. -/
namespace Sys2Proof.Machine
set_option Elab.async false
open Sys2Proof

/-! ## Fields of a word -/

/-- Bit `i` of a number whose bits `hi` down to `lo` are taken. -/
theorem bits_testBit (n hi lo i : Nat) : (bits n hi lo).testBit i = (decide (i < hi + 1 - lo) && n.testBit (lo + i)) := by
  simp [bits, Nat.testBit_mod_two_pow, Nat.testBit_shiftRight]

/-- Bit `i` of a word after a field has been put: the field's own bits come from the value, the others stay. -/
theorem putFld_getLsbD (x : Word) (hi lo v i : Nat) :
    (putFld x hi lo v).getLsbD i = if lo ≤ i ∧ i < lo + (hi + 1 - lo) then (decide (i < 32) && v.testBit (i - lo)) else x.getLsbD i := by
  unfold putFld
  by_cases h32 : i < 32
  · simp only [BitVec.getLsbD_or, BitVec.getLsbD_and, BitVec.getLsbD_not, BitVec.getLsbD_ofNat, Nat.testBit_shiftLeft,
      Nat.testBit_two_pow_sub_one, h32, decide_true, Bool.true_and]
    by_cases hl : lo ≤ i
    · by_cases hh : i - lo < hi + 1 - lo
      · rw [if_pos (by omega : lo ≤ i ∧ i < lo + (hi + 1 - lo))]; simp [hl, hh]
      · rw [if_neg (by omega : ¬ (lo ≤ i ∧ i < lo + (hi + 1 - lo)))]; simp [hh]
    · rw [if_neg (by omega : ¬ (lo ≤ i ∧ i < lo + (hi + 1 - lo)))]; simp [hl]
  · have h0 : x.getLsbD i = false := BitVec.getLsbD_of_ge x i (by omega)
    rw [BitVec.getLsbD_of_ge _ i (by omega), h0]
    simp [h32]

/-- A field reads what was put into it, modulo its width. -/
theorem fld_putFld (x : Word) (hi lo v : Nat) (h : hi < 32) : fld (putFld x hi lo v) hi lo = v % 2 ^ (hi + 1 - lo) := by
  apply Nat.eq_of_testBit_eq
  intro i
  rw [fld, bits_testBit, Nat.testBit_mod_two_pow]
  by_cases hi' : i < hi + 1 - lo
  · have h1 : lo ≤ lo + i ∧ lo + i < lo + (hi + 1 - lo) := by omega
    have h2 : lo + i < 32 := by omega
    have e := putFld_getLsbD x hi lo v (lo + i)
    rw [BitVec.getLsbD] at e
    simp [hi', e, h1, h2]
  · simp [hi']

/-- A field apart from the one put keeps its value. -/
theorem fld_putFld_ne (x : Word) (hi lo hi2 lo2 v : Nat) (h : hi2 < lo ∨ hi < lo2) : fld (putFld x hi lo v) hi2 lo2 = fld x hi2 lo2 := by
  apply Nat.eq_of_testBit_eq
  intro i
  rw [fld, fld, bits_testBit, bits_testBit]
  by_cases hi' : i < hi2 + 1 - lo2
  · have h1 : ¬ (lo ≤ lo2 + i ∧ lo2 + i < lo + (hi + 1 - lo)) := by omega
    have e := putFld_getLsbD x hi lo v (lo2 + i)
    rw [if_neg h1, BitVec.getLsbD, BitVec.getLsbD] at e
    simp [e]
  · simp [hi']

/-- A bit that has been set or cleared, and every other. -/
theorem putBit_getLsbD (x : Word) (i j : Nat) (b : Bool) : (putBit x i b).getLsbD j = if j = i then (decide (i < 32) && b) else x.getLsbD j := by
  unfold putBit
  rw [putFld_getLsbD]
  by_cases h : j = i
  · subst h
    have : j ≤ j ∧ j < j + (j + 1 - j) := by omega
    cases b <;> simp [ofFlag]
  · have : ¬ (i ≤ j ∧ j < i + (i + 1 - i)) := by omega
    rw [if_neg this, if_neg h]

/-! ## Registers -/

/-- A stored register reads what was stored, and no other changes. -/
theorem Chip.reg_setReg (c : Chip) (a b : Nat) (v : Word) : (c.setReg a v).reg b = if b = a then v else c.reg b := by
  unfold Chip.reg Chip.setReg
  exact Map.get_put regReset c.regs a b v

@[simp] theorem Chip.reg_setReg_self (c : Chip) (a : Nat) (v : Word) : (c.setReg a v).reg a = v := by
  rw [Chip.reg_setReg, if_pos rfl]

theorem Chip.reg_setReg_ne (c : Chip) {a b : Nat} (v : Word) (h : b ≠ a) : (c.setReg a v).reg b = c.reg b := by
  rw [Chip.reg_setReg, if_neg h]

theorem Chip.reg_setFld_ne (c : Chip) {a b : Nat} (hi lo v : Nat) (h : b ≠ a) : (c.setFld a hi lo v).reg b = c.reg b :=
  Chip.reg_setReg_ne c _ h

theorem Chip.reg_setBit_ne (c : Chip) {a b : Nat} (i : Nat) (v : Bool) (h : b ≠ a) : (c.setBit a i v).reg b = c.reg b :=
  Chip.reg_setReg_ne c _ h

theorem Chip.reg_bump_ne (c : Chip) {a b : Nat} (h : b ≠ a) : (c.bump a).reg b = c.reg b := Chip.reg_setFld_ne c 15 0 _ h

@[simp] theorem Chip.reg_signal (c : Chip) (v a : Nat) : (c.signal v).reg a = c.reg a := rfl

/-- A field that has been stored reads the value, modulo its width. -/
theorem Chip.regFld_setFld (c : Chip) (a hi lo v : Nat) (h : hi < 32) : (c.setFld a hi lo v).regFld a hi lo = v % 2 ^ (hi + 1 - lo) := by
  unfold Chip.regFld Chip.setFld Chip.modReg
  rw [Chip.reg_setReg_self]
  exact fld_putFld _ hi lo v h

/-- Another field of the same register keeps its value. -/
theorem Chip.regFld_setFld_apart (c : Chip) (a hi lo v hi2 lo2 : Nat) (h : hi2 < lo ∨ hi < lo2) :
    (c.setFld a hi lo v).regFld a hi2 lo2 = c.regFld a hi2 lo2 := by
  unfold Chip.regFld Chip.setFld Chip.modReg
  rw [Chip.reg_setReg_self]
  exact fld_putFld_ne _ hi lo hi2 lo2 v h

/-- Bits of a register after one of them has been set or cleared. -/
theorem Chip.regBit_setBit (c : Chip) (a i j : Nat) (b : Bool) :
    (c.setBit a i b).regBit a j = if j = i then (decide (i < 32) && b) else c.regBit a j := by
  unfold Chip.regBit Chip.setBit Chip.modReg
  rw [Chip.reg_setReg_self]
  exact putBit_getLsbD _ i j b

/-! ## Counters and events -/

/-- A 16-bit counter counts one event and saturates (R509). -/
theorem Chip.bump_count (c : Chip) (a : Nat) : (c.bump a).regFld a 15 0 = min 65535 (c.regFld a 15 0 + 1) := by
  unfold Chip.bump
  dsimp only
  rw [Chip.regFld_setFld _ _ _ _ _ (by omega)]
  have h : c.regFld a 15 0 < 65536 := by
    unfold Chip.regFld fld bits
    exact Nat.mod_lt _ (by decide)
  split <;> omega

/-- An event sets its bit. -/
theorem Chip.event_bit (c : Chip) (a i v : Nat) (ok : Bool) (h : i < 32) : (c.event a i v ok).regBit a i = true := by
  unfold Chip.event
  dsimp only
  split
  · assumption
  · have : (c.setBit a i true).regBit a i = true := by rw [Chip.regBit_setBit]; simp [h]
    split
    · exact this
    · exact this

/-- An event leaves every other register as it was. -/
theorem Chip.event_reg_ne (c : Chip) {a b : Nat} (i v : Nat) (ok : Bool) (h : b ≠ a) : (c.event a i v ok).reg b = c.reg b := by
  unfold Chip.event
  dsimp only
  split
  · rfl
  · split
    · exact Chip.reg_setBit_ne c i true h
    · exact Chip.reg_setBit_ne c i true h

/-! ## Faults at LEVEL 0 -/

/-- A class at LEVEL 0 is counted by its block and nothing reacts (R501, R503). -/
theorem Chip.raise_level0 (c : Chip) (cls : FaultClass) (blk : Nat) (last : Word) (h : c.level cls.num = 0) : c.raise cls blk last = c := by
  unfold Chip.raise
  dsimp only
  rw [if_pos h]

/-- The number of a class. -/
theorem FaultClass.num_lt (cls : FaultClass) : cls.num < 28 := by cases cls <;> decide

theorem Quiet.raise {s : State} (h : Quiet s) (cls : FaultClass) (blk : Nat) (last : Word) : s.chip.raise cls blk last = s.chip :=
  Chip.raise_level0 _ cls blk last (h _ cls.num_lt)

/-! ## The canonical form -/

theorem Chip.regsWf_setReg (c : Chip) (a : Nat) (v : Word) (h : c.regsWf = true) : (c.setReg a v).regsWf = true :=
  Map.wf_put regReset c.regs a v h

theorem Chip.regsWf_setFld (c : Chip) (a hi lo v : Nat) (h : c.regsWf = true) : (c.setFld a hi lo v).regsWf = true :=
  Chip.regsWf_setReg c a _ h

theorem Chip.regsWf_setBit (c : Chip) (a i : Nat) (b : Bool) (h : c.regsWf = true) : (c.setBit a i b).regsWf = true :=
  Chip.regsWf_setReg c a _ h

theorem Chip.regsWf_bump (c : Chip) (a : Nat) (h : c.regsWf = true) : (c.bump a).regsWf = true := Chip.regsWf_setFld c a 15 0 _ h

theorem Chip.regsWf_event (c : Chip) (a i v : Nat) (ok : Bool) (h : c.regsWf = true) : (c.event a i v ok).regsWf = true := by
  unfold Chip.event
  dsimp only
  split
  · exact h
  · split
    · exact Chip.regsWf_setBit c a i true h
    · exact Chip.regsWf_setBit c a i true h

end Sys2Proof.Machine
end

