-- ==== Sys2Proof/Laws/Memory.lean ====
section
/-! SUPPORT. What the operations over bytes and tiles do: a read after a write, the bytes they leave alone, the canonical
form they keep, and the state of a tile after a write. -/
namespace Sys2Proof.Machine
set_option Elab.async false

/-! ## Bytes -/

@[simp] theorem memRead_length (m : Map Byte) (a n : Nat) : (memRead m a n).length = n := by
  induction n generalizing a with
  | zero => rfl
  | succ n ih => simp [memRead, ih]

theorem memRead_getElem? (m : Map Byte) (a n k : Nat) (h : k < n) :
    (memRead m a n)[k]? = some (Map.get byte0 m (a + k)) := by
  induction n generalizing a k with
  | zero => omega
  | succ n ih =>
    cases k with
    | zero => simp [memRead]
    | succ k =>
      simp only [memRead, List.getElem?_cons_succ]
      rw [ih (a + 1) k (by omega)]
      congr 2; omega

/-- A write of bytes changes exactly the addresses it covers. -/
theorem get_memWrite (m : Map Byte) (a j : Nat) (b : List Byte) :
    Map.get byte0 (memWrite m a b) j = if a ≤ j then (b[j - a]?).getD (Map.get byte0 m j) else Map.get byte0 m j := by
  induction b generalizing m a with
  | nil => simp [memWrite]
  | cons x r ih =>
    simp only [memWrite, ih, Map.get_put]
    by_cases h : j = a
    · subst h; simp [show ¬ j + 1 ≤ j by omega]
    · by_cases h2 : a + 1 ≤ j
      · have : j - a = (j - (a + 1)) + 1 := by omega
        simp [h, h2, this, show a ≤ j by omega]
      · simp [h, h2, show ¬ a ≤ j by omega]

/-- Outside the bytes written, memory reads as before. -/
theorem get_memWrite_out (m : Map Byte) (a j : Nat) (b : List Byte) (h : j < a ∨ a + b.length ≤ j) :
    Map.get byte0 (memWrite m a b) j = Map.get byte0 m j := by
  rw [get_memWrite]
  split
  · rw [List.getElem?_eq_none (by omega)]; rfl
  · rfl

/-- What was written reads back. -/
theorem memRead_memWrite (m : Map Byte) (a : Nat) (b : List Byte) : memRead (memWrite m a b) a b.length = b := by
  apply List.ext_getElem?
  intro k
  by_cases h : k < b.length
  · rw [memRead_getElem? _ _ _ _ h, get_memWrite]
    simp [h]
  · rw [List.getElem?_eq_none (by simp; omega), List.getElem?_eq_none (by omega)]

/-- A read that misses the bytes written reads as before. -/
theorem memRead_memWrite_out (m : Map Byte) (a c n : Nat) (b : List Byte) (h : c + n ≤ a ∨ a + b.length ≤ c) :
    memRead (memWrite m a b) c n = memRead m c n := by
  apply List.ext_getElem?
  intro k
  by_cases hk : k < n
  · rw [memRead_getElem? _ _ _ _ hk, memRead_getElem? _ _ _ _ hk, get_memWrite_out _ _ _ _ (by omega)]
  · rw [List.getElem?_eq_none (by simp; omega), List.getElem?_eq_none (by simp; omega)]

theorem wf_memWrite (m : Map Byte) (a : Nat) (b : List Byte) (h : Map.wf byte0 m = true) :
    Map.wf byte0 (memWrite m a b) = true := by
  induction b generalizing m a with
  | nil => exact h
  | cons x r ih => exact ih _ _ (Map.wf_put _ _ _ _ h)

/-! ## Memories -/

@[simp] theorem Mem.bytes_set (m : Mem) (sp : Space) (b : Map Byte) (k : Map Word) : (m.set sp b k).bytes sp = b := by
  cases sp <;> rfl

@[simp] theorem Mem.chks_set (m : Mem) (sp : Space) (b : Map Byte) (k : Map Word) : (m.set sp b k).chks sp = k := by
  cases sp <;> rfl

theorem Mem.bytes_set_ne (m : Mem) {sp sq : Space} (b : Map Byte) (k : Map Word) (h : sq ≠ sp) :
    (m.set sp b k).bytes sq = m.bytes sq := by
  cases sp <;> cases sq <;> first | rfl | exact absurd rfl h

theorem Mem.chks_set_ne (m : Mem) {sp sq : Space} (b : Map Byte) (k : Map Word) (h : sq ≠ sp) :
    (m.set sp b k).chks sq = m.chks sq := by
  cases sp <;> cases sq <;> first | rfl | exact absurd rfl h

/-- The canonical form of the memories, space by space. -/
theorem Memory.wf_iff (m : Mem) :
    Memory.wf m = true ↔ ∀ sp : Space, Map.wf byte0 (m.bytes sp) = true ∧ Map.wf chk0 (m.chks sp) = true := by
  constructor
  · intro h sp
    simp only [Memory.wf, Bool.and_eq_true] at h
    cases sp <;> simp [Mem.bytes, Mem.chks, h]
  · intro h
    have h1 := h .prog; have h2 := h .back; have h3 := h .region; have h4 := h .dram; have h5 := h .sched
    simp only [Mem.bytes, Mem.chks] at h1 h2 h3 h4 h5
    simp [Memory.wf, h1, h2, h3, h4, h5]

/-- Replacing a memory by one in canonical form keeps the form. -/
theorem Memory.wf_set (m : Mem) (sp : Space) (b : Map Byte) (k : Map Word) (h : Memory.wf m = true)
    (hb : Map.wf byte0 b = true) (hk : Map.wf chk0 k = true) : Memory.wf (m.set sp b k) = true := by
  rw [Memory.wf_iff] at *
  intro sq
  by_cases e : sq = sp
  · subst e; simp [hb, hk]
  · rw [Mem.bytes_set_ne m b k e, Mem.chks_set_ne m b k e]; exact h sq

/-- Writing a tile keeps the canonical form. -/
theorem Memory.wf_putTile (m : Mem) (sp : Space) (t : Nat) (b : List Byte) (mark : Bool) (h : Memory.wf m = true) :
    Memory.wf (m.putTile sp t b mark) = true := by
  have hs := (Memory.wf_iff m).1 h sp
  exact Memory.wf_set m sp _ _ h (wf_memWrite _ _ _ hs.1) (Map.wf_put _ _ _ _ hs.2)

/-- A write smaller than a tile keeps the canonical form. -/
theorem Memory.wf_merge (m : Mem) (sp : Space) (a : Nat) (b : List Byte) (bad : Bool) (h : Memory.wf m = true) :
    Memory.wf (m.merge sp a b bad) = true := Memory.wf_putTile m sp _ _ _ h

/-! ## Tiles -/

/-- A whole tile that is written reads back. -/
theorem Mem.tile_putTile (m : Mem) (sp : Space) (t : Nat) (b : List Byte) (mark : Bool) (h : b.length = 256) :
    (m.putTile sp t b mark).tile sp t = b := by
  simp only [Mem.tile, Mem.putTile, Mem.bytes_set]
  rw [← h]; exact memRead_memWrite _ _ _

/-- Every other tile of the memory reads as before. -/
theorem Mem.tile_putTile_ne (m : Mem) (sp : Space) {t u : Nat} (b : List Byte) (mark : Bool) (h : b.length = 256) (hu : u ≠ t) :
    (m.putTile sp t b mark).tile sp u = m.tile sp u := by
  simp only [Mem.tile, Mem.putTile, Mem.bytes_set]
  exact memRead_memWrite_out _ _ _ _ _ (by omega)

theorem Mem.entry_putTile (m : Mem) (sp : Space) (t u : Nat) (b : List Byte) (mark : Bool) :
    (m.putTile sp t b mark).entry sp u =
      if u = t then (if mark then markOf (checkWord b) else checkWord b) else m.entry sp u := by
  simp [Mem.entry, Mem.putTile, Map.get_put]

/-- Writing a tile of one memory leaves every other memory alone. -/
theorem Mem.tile_putTile_space (m : Mem) {sp sq : Space} (t u : Nat) (b : List Byte) (mark : Bool) (h : sq ≠ sp) :
    (m.putTile sp t b mark).tile sq u = m.tile sq u := by
  simp [Mem.tile, Mem.putTile, Mem.bytes_set_ne m _ _ h]

/-- A tile written without the mark agrees with its check word (R176). -/
theorem Mem.fails_putTile (m : Mem) (sp : Space) (t : Nat) (b : List Byte) (h : b.length = 256) :
    (m.putTile sp t b false).fails sp t = false := by
  simp [Mem.fails, Mem.entry_putTile, Mem.tile_putTile m sp t b false h]

theorem marked_markOf (k : Word) : marked (markOf k) = true := by
  have h : fld (putFld k 31 16 65535) 31 16 = 65535 := fld_putFld k 31 16 65535 (by decide)
  simp [marked, markOf, h]

/-- A marked tile does not fail its check (R176). -/
theorem Mem.fails_putTile_mark (m : Mem) (sp : Space) (t : Nat) (b : List Byte) :
    (m.putTile sp t b true).fails sp t = false := by
  simp [Mem.fails, Mem.entry_putTile, marked_markOf]

/-- The running sums of the check word stay below 65,535 (R174). -/
theorem fletcher_lt : ∀ (b : List Byte) (c0 c1 : Nat), c0 < 65535 → c1 < 65535 →
    (fletcher b c0 c1).1 < 65535 ∧ (fletcher b c0 c1).2 < 65535
  | [], _, _, h0, h1 => ⟨h0, h1⟩
  | [_], _, _, h0, h1 => ⟨h0, h1⟩
  | _ :: _ :: r, _, _, _, _ => fletcher_lt r _ _ (Nat.mod_lt _ (by decide)) (Nat.mod_lt _ (by decide))

/-- A fresh check word never carries the mark (R174, R175). -/
theorem marked_checkWord (b : List Byte) : marked (checkWord b) = false := by
  obtain ⟨h0, h1⟩ := fletcher_lt b 0 0 (by decide) (by decide)
  have h : fld (checkWord b) 31 16 = (fletcher b 0 0).2 := by
    simp only [fld, bits, checkWord, BitVec.toNat_ofNat, Nat.shiftRight_eq_div_pow]
    omega
  simp only [marked, h, decide_eq_false_iff_not]
  omega

/-- A tile carries the mark exactly when its last write put it there (R175, R177). -/
theorem Mem.marked_putTile (m : Mem) (sp : Space) (t : Nat) (b : List Byte) (mark : Bool) :
    marked ((m.putTile sp t b mark).entry sp t) = mark := by
  cases mark <;> simp [Mem.entry_putTile, marked_markOf, marked_checkWord]

end Sys2Proof.Machine
end

