-- ==== Sys2Proof/Machine/Pins.lean ====
section
/-! DEFINITION. What the output balls carry (R356, R360 to R367, R379, R382, R389, R394, R420, R425, R430, R459, R523, R541). Each
level follows from the state, so no ball has a field of its own; a time is given in cycles after the boundary of the tick in
progress. -/
namespace Sys2Proof.Machine
open Sys2Proof

/-- A ball is driven low or high, or is in high impedance. -/
inductive Pin where
  | low | high | z
deriving DecidableEq, Repr

/-- A driven level. -/
def Pin.of (b : Bool) : Pin := if b then .high else .low

/-- A wired output ball carries `p` on the owner out of reset, and is in high impedance on a chip that is not the owner, in reset or
with HIGHZ in the TAP (R29, R367, R420, R459, R523, R541). -/
def Chip.wired (c : Chip) (p : Pin) : Pin := if c.sys.up && c.owns then p else .z

/-! ## TDM ports -/

/-- BCLK edge `k` of a frame of `f` bits in a tick of `cyc` DATUM cycles (R364); edges from C on are omitted. -/
def bclkEdge (f cyc k : Nat) : Option Nat :=
  if 2 * f ≤ cyc then some (k * cyc / (2 * f)) else if k < cyc then some k else none

/-- The last edge of `n` per tick that has fallen at DATUM cycle `t` (R364). -/
def lastEdge (n cyc t : Nat) : Nat := if n ≤ cyc then ((t + 1) * n - 1) / cyc else t

/-- A TDM port's clocks run: it is enabled or armed and ticks run (R360, R365, R384). -/
def Chip.tdmRuns (c : Chip) (p : Nat) : Bool := (c.portEn 0 p || c.portArmed 0 p) && c.eng.ticking

/-- TDMp_BCLK: even edges fall and odd edges rise, unless BCLK_INV inverts the ball (R361). -/
def Chip.tdmBclk (c : Chip) (p t : Nat) : Pin :=
  let cfg := c.reg (Reg.SAP_TDM_CFG p)
  c.wired (Pin.of (c.tdmRuns p && ((lastEdge (2 * fld cfg 13 3) c.datumCycles t % 2 == 1) != cfg.getLsbD 26)))

/-- FSYNC or WS after edge `k` of a frame, FS_INV = 0 (R361). -/
def fsyncAt (cfg : Word) (k : Nat) : Bool :=
  let f := fld cfg 13 3
  if fld cfg 29 28 = 0 then decide (f - 2 ≤ k) && decide (k < 2 * f - 2)
  else if fld cfg 29 28 = 1 then decide (k < f)
  else if cfg.getLsbD 27 then decide (2 * f - 2 ≤ k)
  else decide (k < 2)

/-- TDMp_FSYNC (R361). -/
def Chip.tdmFsync (c : Chip) (p t : Nat) : Pin :=
  let cfg := c.reg (Reg.SAP_TDM_CFG p)
  c.wired (Pin.of (c.tdmRuns p && (fsyncAt cfg (lastEdge (2 * fld cfg 13 3) c.datumCycles t) != cfg.getLsbD 25)))

/-- TDMp_MCLK: its edge 0 rises; low when MCLK_MULT is 0 (R360, R364). -/
def Chip.tdmMclk (c : Chip) (p t : Nat) : Pin :=
  let n := 2 * mclkMult (fld (c.reg (Reg.SAP_TDM_CFG p)) 2 0)
  c.wired (Pin.of (c.tdmRuns p && n != 0 && lastEdge n c.datumCycles t % 2 == 0))

/-- SDO as for a masked slot (R363). -/
def tdmIdle (cfg : Word) : Pin := if cfg.getLsbD 24 then .z else .low

/-- The slot that bit `b` of a frame belongs to, with the bit's place in it (R361). -/
def tdmSlotOf (cfg : Word) (b : Nat) : Option (Nat × Nat) :=
  let w := widthBits (fld cfg 23 22)
  ((List.range (tdmSlots cfg)).find? (fun i => decide (tdmFirst cfg i ≤ b) && decide (b < tdmFirst cfg i + w))).map
    (fun i => (i, b - tdmFirst cfg i))

/-- Bit `b` of a port's frame on SDO (R362, R363, R369): bit 31 − j of the sample presented for its slot while j < WORD, then 0. -/
def Chip.tdmBit (c : Chip) (p b : Nat) : Pin :=
  let cfg := c.reg (Reg.SAP_TDM_CFG p)
  match tdmSlotOf cfg b with
  | some (i, j) =>
    if c.portEn 0 p && c.eng.ticking && (c.tdm p).txMask.getLsbD i then
      Pin.of (decide (j < wordBits (fld cfg 21 20)) && (c.outCh (0x4000 + 32 * p + i)).presented.v.getLsbD (31 - j))
    else tdmIdle cfg
  | none => tdmIdle cfg

/-- TDMp_SDO: bit b is launched at edge 2b (R361, R365). -/
def Chip.tdmSdo (c : Chip) (p t : Nat) : Pin :=
  let cfg := c.reg (Reg.SAP_TDM_CFG p)
  c.wired (if c.tdmRuns p then c.tdmBit p (lastEdge (2 * fld cfg 13 3) c.datumCycles t / 2) else tdmIdle cfg)

/-! ## AES3 and MADI transmitters -/

/-- What a transmitter's ball carries: high impedance, silence, or the subframes of its frame, each with its preamble. -/
inductive TxLine where
  | z
  | silent
  | frame (subs : List Word)
deriving DecidableEq, Repr

/-- DATUM edge of unit interval `k` of an AES3 frame (R379). -/
def uiEdge (cyc k : Nat) : Nat := k * cyc / 128

/-- An AES3 subframe: in bits 3:0 its preamble, 1 for X, 2 for Y and 4 for Z, and above it the bits of R379. -/
def aesSub (pre : Nat) (v : Word) (vbit cbit : Bool) : Word := BitVec.ofNat 32 (pre + subBits v vbit cbit)

/-- The frame that an AES3 transmitter sends in this tick (R369, R379). -/
def Chip.aesLine (c : Chip) (t : Nat) : TxLine :=
  let x := c.txPort t
  let v (i : Nat) : Word := if c.portEn 2 t then (c.outCh (0x4200 + 2 * t + i)).presented.v else 0
  let vbit := c.regBit (Reg.SAP_AESTX_CFG t) 29
  if !c.sys.up || !c.owns then .z
  else if !(c.portEn 2 t || c.portArmed 2 t) || !c.eng.ticking then .silent
  else .frame [aesSub (if x.pos = 0 then 4 else 1) (v 0) vbit (csBit x.cs x.pos), aesSub 2 (v 1) vbit (csBit x.cs x.pos)]

/-- The frame that a MADI transmitter sent last; between frames, and for a frame omitted, it sends JK sync symbols (R382, R383). -/
def Chip.madiOut (c : Chip) (m : Nat) : TxLine :=
  if !c.sys.up || !c.owns then .z
  else if !(c.portEn 4 m || c.portArmed 4 m) || !c.eng.ticking then .silent
  else .frame (c.txPort (8 + m)).line

/-! ## Cue ports -/

/-- CUEc_GSEL; CUEc_S1 and CUEc_S2 are in high impedance with it on a chip that does not drive them (R389). -/
def Chip.cueGsel (c : Chip) (p : Nat) : Pin :=
  if c.sys.up && c.cueDrives then Pin.of (c.regBit (Reg.CUE_STAT p) 26) else .z

/-! ## Drive balls -/

/-- DRV_ENm (R419, R420). -/
def Chip.drvEnPin (c : Chip) (m : Nat) : Pin := c.wired (Pin.of (c.regBit (Reg.DRV_MOD_CTRL m) 30))

/-- Where a carrier period of `m` per tick in progress lies at `u` half DRIVE cycles after the boundary: its number, its start and its
length (R422). -/
def periodAt (c2 m u : Nat) : Nat × Nat × Nat :=
  let j := ((List.range m).filter (fun j => decide (2 * (j * c2 / m) ≤ u))).length - 1
  (j, 2 * (j * c2 / m), periodLen c2 m j)

/-- DRVc_A at `u` of its period of `p`, high for Q from ⌊(P − Q) / 2⌋, and DRVc_B, high for P − Q from ⌊Q / 2⌋ (R425). -/
def pwmA (p q u : Nat) : Bool := decide ((p - q) / 2 ≤ u) && decide (u < (p - q) / 2 + q)
def pwmB (p q u : Nat) : Bool := decide (q / 2 ≤ u) && decide (u < q / 2 + (p - q))

/-- DRVc_A or DRVc_B, `u` half DRIVE cycles after the boundary: low while the module's DRV_EN is low and in the states that hold both
outputs low (R425, R427, R433, R420). -/
def Chip.drvPin (c : Chip) (k u : Nat) (b : Bool) : Pin :=
  let m := c.drvM (k / 8)
  let s := c.drvState k
  match c.eng.rate with
  | some r =>
    let x := periodAt (c.drvCycles r) m u
    let q := (c.drvCh k).q
    c.wired (Pin.of (c.regBit (Reg.DRV_MOD_CTRL (k / 8)) 30 && s != 5 && decide (s < 7) &&
      (if b then pwmB x.2.2 q (u - x.2.1) else pwmA x.2.2 q (u - x.2.1))))
  | none => c.wired .low

/-- The level of DRV_FCLK at DRIVE cycle `t` of the tick: rising edge i falls on DRIVE edge ⌊i × C2 / F⌋. Its duty cycle is not
stated: high up to the middle between two rising edges (DESIGN CHOICE, log entry 55). -/
def Chip.drvFclk (c : Chip) (t : Nat) : Pin :=
  match c.eng.rate with
  | some r => c.wired (Pin.of (lastEdge (2 * fclkEdges r) (c.drvCycles r) t % 2 == 0))
  | none => c.wired .low

/-! ## Network, clock and system balls -/

/-- SFPm_TXDIS: high while the MAC's enable reads 0 or MODABS_N is high (R394). -/
def Chip.sfpTxdis (c : Chip) (m : Nat) : Pin := Pin.of (!c.macEn m || c.regBit (Reg.NET_MAC_STAT m) 27)

/-- SFPm_RS: high at 25 Gb/s, low at 10 Gb/s (R394). -/
def Chip.sfpRs (c : Chip) (m : Nat) : Pin := Pin.of (c.regBit (Reg.NET_MAC_CFG m) 30)

/-- The clock that CLK_OBS selects runs (R350, R355, R356): MAC clocks, PORT and DRIVE stop with their gates, and cells with their
power. -/
def Chip.obsRuns (c : Chip) : Bool :=
  let v := c.reg Reg.CLK_OBS
  let s := fld v 27 24
  if s = 0 ∨ s = 15 then false
  else if s = 4 then c.eng.ticking || c.cells.any (fun e => e.2.power == .on || e.2.power == .waking)
  else if s = 9 then (List.range 4).any (fun m => c.regBit Reg.CLK_GATE_STAT (14 + m))
  else if s = 13 then c.regBit Reg.CLK_SAP_GATE (fld v 23 20)
  else if s = 14 then c.regBit Reg.CLK_GATE_STAT 19
  else true

/-- CLKOBS after `n` rising edges of the selected clock, counted from a rising edge of its own: high for the first half of E, the
longer one with E odd; low while EN = 0 or the selected clock is gated (R356). -/
def Chip.clkObsPin (c : Chip) (n : Nat) : Pin :=
  let e := (c.reg Reg.CLK_OBS_EFF).toNat
  Pin.of (c.regBit Reg.CLK_OBS 31 && c.obsRuns && decide (n % e < (e + 1) / 2))

/-- PAIR_OWN_OUT: in high impedance in reset, else driven with this chip's ownership (R459, R523). -/
def Chip.ownOut (c : Chip) : Pin := if c.sys.up then Pin.of c.pair.owner else .z

/-- FAULT_N is an open drain: low or released (R560). -/
def Chip.faultPin (c : Chip) : Pin := if c.sys.faultN then .low else .z

/-! ## The test access port (R540, R541) -/

/-- IDCODE. -/
def idcode : Word := 0xB5A20A27

/-- The data register that the instruction selects, as Capture-DR loads it: BYPASS one bit of 0, IDCODE its 32 bits, and KEY_LOAD its
264 bits while a key may be loaded. None is the boundary-scan register, whose cells take the levels of their balls; their order is in a
file of the part's maker. -/
def Chip.tapDr (c : Chip) : Option (List Bool) :=
  match c.sys.tapIr with
  | .idcode => some ((List.range 32).map idcode.getLsbD)
  | .sample | .extest => none
  | .keyLoad => if c.secureEn && (List.range 4).all (fun i => c.keyEmpty i) then some (List.replicate 264 false) else some [false]
  | .bypass | .clamp | .highz | .debug => some [false]

/-- An output ball under the TAP (R540): HIGHZ puts it in high impedance, EXTEST and CLAMP drive it from its cell of the boundary-scan
register, whose number is a free value, and every other instruction leaves it to the function. -/
def Chip.tapPin (c : Chip) (ball : Nat) (p : Pin) : Pin :=
  match c.sys.tapIr with
  | .highz => .z
  | .extest | .clamp => Pin.of (c.sys.tapBsr.getD (Config.bsrCell ball) false)
  | _ => p

end Sys2Proof.Machine
end

