-- ==== Sys2Proof/Tests/Slice0.lean ====
section
/-! SUPPORT. The tests of the model: the smoke tests of WellFormed, steps on small states, and for every statement the
states and operands that meet its hypotheses. -/
namespace Sys2Proof.Tests
open Sys2Proof Sys2Proof.Machine
set_option Elab.async false

/-! ## Small states -/

/-- Registers with every fault class at LEVEL 0. -/
def quietRegs : Map Word := (List.range 28).foldl (fun m k => Map.put regReset m (Reg.FLT_CFG k) 0) []

/-- A chip out of reset, tick 5 running at 48 kHz, the executive ready, every fault class at LEVEL 0. -/
def chipAt (e : EngineState) (p : Phase) : Chip :=
  { Chip.reset with
    regs := quietRegs
    eng := { Eng.reset with engine := e, ticking := true, rate := some .r48, phase := p, tick := 5 }
    sys := { Sys.reset with up := true, execReady := true, execAlive := true, execStarted := true, straps := 2, resetN := true } }

def at_ (c : Chip) : State := { chip := c, pending := [] }

theorem test_quiet : ∀ k : Nat, k < 28 → (chipAt .running .entry).level k = 0 := by decide +kernel

/-- Cell 3 in the traverse of leg 0 with the word `w` at its index 5. -/
def cellBase : Cell :=
  { Cell.reset with
    power := .on, ctx := .traverse, pc := 5, fetched := [0]
    d := [(1, { v := 7, p := false }), (2, { v := 0xFFFFFFFD, p := false }), (3, { v := 9, p := true })]
    acc := [(0, { v := BitVec.ofInt 80 (2 ^ 40 * 5 + 2 ^ 39), p := false })] }

def withCell (x : Cell) (w : DWord) : State :=
  let c := (chipAt .running (.leg 0)).setCell 3 x
  at_ { c with mem := { c.mem with prog := memWrite [] (32768 * 3 + 40) (leBytes 8 w.toNat) } }

def issuesIn (x : Cell) (w : DWord) : Bool := (withCell x w).chip.issues 3 w && ((withCell x w).chip.cell 3).stays

/-- Every word of the list is issued by the cell, and it stays in its context. -/
def allIssue (x : Cell) (l : List DWord) : Bool := l.all (issuesIn x)

/-- A field of ports with every port enabled. -/
def everyPort : MemPorts :=
  { x := some { wide := true, ptr := 0, reg := 10, upd := true }
    y := some { wide := false, ptr := 1, reg := 13, upd := true }
    w := some { wide := true, ptr := 2, reg := 2, upd := false } }

/-! ## Witnesses: the cell instructions -/

theorem witness_AluResults : portsLegal noPorts = true ∧ portsLegal everyPort = true ∧
    (∀ fn : Fin 14, ∀ m ∈ [noPorts, everyPort],
      issuesIn cellBase (encWord 4 fn 1 (if fn.val ∈ [0, 6, 7] then 0 else 15) (if fn.val = 13 then 3 else 0) 4 0 (encPorts m)) = true) ∧
    issuesIn cellBase (encWord 5 0 0 0 0 15 0 0xFFFFFFFF) = true := by decide +kernel

theorem witness_AccToRegister :
    allIssue cellBase [encWord 3 0 0 0 0 4 0 0, encWord 3 0 3 0 0 15 8 0, encWord 3 1 0 0 0 4 0 0, encWord 3 1 1 0 0 14 8 0,
      encWord 3 8 0 0 0 4 0 0, encWord 3 8 3 0 0 4 2 0] = true ∧
    2 * ((cellBase.ra 0).v.toInt - 6 * 2 ^ 40) = -2 ^ 40 ∧ (6 : Int) % 2 = 0 ∧
    2 * ((cellBase.ra 0).v.toInt - 0 * 2 ^ 48) ≤ 2 ^ 48 ∧ (cellBase.ra 1).v.toInt = 0 := by decide +kernel

theorem witness_AccResults :
    allIssue cellBase [encWord 3 2 3 0 0 0 0 0, encWord 3 3 0 1 0 0 0 0, encWord 3 4 0 0 0 0 15 0, encWord 3 5 0 0 0 0 15 0,
      encWord 3 6 0 3 0 0 0 0, encWord 3 7 0 0 0 0 0 0, encWord 3 9 0 1 0 0 0 0, encWord 3 9 0 1 0 0 2 0] = true := by decide +kernel

theorem witness_MacResults :
    (∀ fn : Fin 5, ∀ u ∈ [0, 7], issuesIn cellBase (encWord 1 fn 2 14 0 0 u (encPorts everyPort)) = true) ∧
    (∀ fn : Fin 3, ∀ u ∈ [0, 7], issuesIn cellBase (encWord 2 fn 1 2 3 15 u 0) = true) ∧
    (∀ fn ∈ [3, 4], ∀ u ∈ [0, 15], issuesIn cellBase (encWord 2 fn 1 2 0 0 u 0) = true) := by decide +kernel

theorem witness_SpecialRegisters :
    allIssue cellBase [encWord 5 1 0 0 0 7 0 2047, encWord 5 2 0 0 0 0 0 0, encWord 5 3 0 0 0 7 0 2048, encWord 5 3 0 0 0 0 0 (32768 + 2),
      encWord 5 4 0 0 0 7 0 4095] = true ∧
    (∀ k ∈ [0, 1, 2, 3, 4, 5, 6, 7, 8, 15, 16, 23, 24, 31, 32, 39], issuesIn cellBase (encWord 8 0 1 0 0 0 0 k) = true) ∧
    (∀ k ∈ [0, 1, 2, 3, 4, 5, 6, 7, 8, 15, 16, 23, 24, 31, 32, 39, 40, 41, 42, 43], issuesIn cellBase (encWord 8 1 0 0 0 4 0 k) = true) ∧
    (cellBase.rd 1).v.toNat % 4096 ≤ 2048 ∧ (cellBase.rd 1).v.getLsbD 15 = false ∧ 2048 < (cellBase.rd 2).v.toNat % 4096 := by decide +kernel

/-- Index 5: LE = 6 is the least end, LE = 5 is one too few; no loop ends at the index. -/
theorem witness_LoopStarts :
    allIssue cellBase [encWord 0 7 0 0 0 0 0 (1 * 4096 + 6), encWord 0 7 0 0 0 0 1 4095, encWord 0 7 1 0 0 0 3 6, encWord 0 7 0 0 0 0 0 5,
      encWord 0 7 1 0 0 0 2 5] = true ∧ cellBase.branch = none ∧
    (∀ m : Nat, m < 2 → cellBase.leN m ≠ cellBase.pc) := by decide +kernel

def slotCell (n : Nat) (u : Turn) : Cell := { cellBase with branch := some { left := n, turn := u } }

theorem witness_ControlFlow :
    (∀ x ∈ [cellBase, slotCell 2 .fall, slotCell 1 (.target 9), slotCell 1 .fall],
      allIssue x [encWord 0 1 0 0 0 0 0 4095, encWord 0 2 1 0 0 0 0 9, encWord 0 3 1 0 0 0 0 9, encWord 0 4 2 0 0 0 0 9, encWord 0 5 3 0 0 0 0 9,
        encWord 0 6 1 0 0 0 0 0, encWord 0 0 0 0 0 0 0 0] = true) ∧
    issuesIn { cellBase with lc := [(0, 2), (1, 1)], ls := [(0, 3), (1, 4)], le := [(0, 5), (1, 5)] } 0 = true := by decide +kernel

def bgCell : Cell := { cellBase with ctx := .background, bg := .ready }

theorem witness_LegShareEnds :
    issuesIn cellBase (encWord 0 8 0 0 0 0 0 0) = true ∧ issuesIn bgCell (encWord 0 8 0 0 0 0 0 0) = true ∧
    issuesIn (slotCell 2 .fall) (encWord 0 8 0 0 0 0 0 0) = true ∧
    (withCell (slotCell 1 .retb) 0).chip.issues 3 0 = true ∧ ((withCell (slotCell 1 .retb) 0).chip.progs 3).length ≠ 2 ∧
    (withCell { slotCell 1 .retb with bgSaved := true, bg := .ready } 0).chip.issues 3 0 = true ∧
    issuesIn bgCell (encWord 0 9 0 0 0 0 0 0) = true ∧ bgCell.branch = none ∧ (∀ n : Nat, n < 2 → bgCell.leN n ≠ bgCell.pc) ∧
    issuesIn cellBase (encWord 0 9 0 0 0 0 0 0) = true := by decide +kernel

/-- Slot 1 busy with a move, slots 2 and 3 of the streamer; pointers at the bounds of the slots. -/
def portCell (adr : BitVec 11) (len : BitVec 12) : Cell :=
  { cellBase with
    ptr := [(0, { v := adr, p := false })], step := [(0, { v := 0xFFF, p := false })]
    len := if len = 0 then [] else [(0, { len := len, brev := false, p := false })]
    moves := [{ bg := false, store := false, slot := 1, region := false, tile := 4 }]
    streamer := some
      { cfg := { slot := 2, region := false, first := 0, count := 2 }
        next := 0, olderHigh := false, refills := [], stopping := false, restart := none } }

theorem witness_MemoryPorts :
    ([(255, 0), (256, 12), (512, 2048), (1023, 0), (2047, 12)].all (fun a : BitVec 11 × BitVec 12 =>
      [MemPort.mk false 0 15 true, MemPort.mk true 0 14 false].all (fun q =>
        allIssue (portCell a.1 a.2) [encWord 4 0 1 0 0 4 0 (encPorts (MemPorts.mk (some q) none none)),
          encWord 4 0 1 0 0 4 0 (encPorts (MemPorts.mk none (some q) none)), encWord 4 0 1 0 0 4 0 (encPorts (MemPorts.mk none none (some q)))]))) = true ∧
    (portCell 256 0).busy 1 = true ∧ (portCell 512 0).owned 2 = true ∧ (portCell 1023 0).owned 3 = true ∧
    (portCell 255 0).busy 0 = false ∧ (portCell 2047 0).owned 7 = false := by decide +kernel

theorem witness_TileMovesAndStreamer :
    allIssue (portCell 0 0) [encMove 0 0 false (.imm 511), encMove 1 7 true (.imm 16383), encMove 0 0 false (.reg 1), encMove 1 0 false (.reg 3),
      encMove 0 0 false (.reg 2), encMove 0 0 false (.imm 512), encMove 0 2 false (.imm 0), encMove 0 1 false (.imm 0), encWord 6 2 0 0 0 0 0 2,
      encWord 6 2 0 0 0 0 0 0xFD, encWord 6 4 0 0 0 0 0 0, encWord 6 5 0 0 0 0 0 0] = true ∧
    (allIssue cellBase [encWord 6 3 0 0 0 0 6 (255 * 65536 + 256), encWord 6 3 0 0 0 0 0 (2147483648 + 16383), encWord 6 4 0 0 0 0 0 0, encWord 6 5 0 0 0 0 0 0] = true) ∧
    (portCell 0 0).moves.length < 2 ∧ (portCell 0 0).busy 0 = false ∧ (portCell 0 0).busy 1 = true ∧
    511 < (cellBase.rd 2).v.toNat % 16384 ∧ (cellBase.rd 3).p = true := by decide +kernel

/-- A program entry for cell 3 with publish slot 0 in leg 0, 1 in leg 1 and 2 in leg 3. -/
def entry3 : CellEntry :=
  { laddr := 3, progFirst := 0, progBase := 0, progTiles := 1, legEntry := [5, 32, 64, 96], restart := 0, cls := 0, decl := [], declBg := 0,
    pubUsed := 7, pubLeg := 0x34, subUsed := 3 }

def graph3 : Graph :=
  { imageId := 1, baseId := 0, patch := false, rate := 1, settle := 0, cells := [entry3], extents := [], places := [], sched := [],
    endpoints := [], symbols := [], lines := [], taps := [], seed := 0, dither := [] }

def withGraph (s : State) : State := at_ { s.chip with graph := { s.chip.graph with live := some graph3 } }

def inLeg (k : Nat) (x : Cell) (w : DWord) : State :=
  let s := withGraph (withCell x w)
  at_ { s.chip with eng := { s.chip.eng with phase := .leg k } }

theorem witness_ChainSlots :
    [encChain 0 0 15 63 noPorts, encChain 1 0 14 62 noPorts, encChain 2 1 0 0 noPorts, encChain 2 1 0 2 noPorts, encChain 3 2 0 0 noPorts].all
      (fun w => [0, 1, 3].all (fun k => (inLeg k cellBase w).chip.issues 3 w) && (inLeg 0 bgCell w).chip.issues 3 w) = true ∧
    (inLeg 0 cellBase 0).chip.slotLeg 3 0 = some 0 ∧ (inLeg 0 cellBase 0).chip.slotLeg 3 2 = some 3 ∧
    (inLeg 0 cellBase 0).chip.slotLeg 3 1 = some 1 ∧ (inLeg 0 cellBase 0).chip.slotLeg 3 3 = none ∧
    (inLeg 1 cellBase 0).chip.level 2 = 0 := by decide +kernel

/-- Slot 0 below its target, slot 1 above it, slot 2 at it; the cell's samples are 7, −3 and a poisoned 9. -/
def gainCell : Cell :=
  { cellBase with gains := [(0, { GainSlot.init with cur := 0x4000, tgt := 0x8000 }), (1, { GainSlot.init with tgt := 0, tmoCnt := 9 })] }

theorem witness_GainSteps :
    [1, 2, 3, 4].all (fun r => [0, 1, 2].all (fun g => issuesIn gainCell (encChain 4 r 15 g noPorts))) = true ∧
    IsRound 23143 (0x4000 * 0x1699C0F8) (2 ^ 28) ∧ IsRound 11599 (0x4000 * 0x0B53BEF5) (2 ^ 28) := by unfold IsRound; decide +kernel

theorem witness_IllegalWords :
    [0x9000000000000000, 0xF000000000000000, 0x0A00000000000000].all
      (fun w : DWord => wordIllegal w && issuesIn cellBase w && issuesIn bgCell w) = true ∧ (withCell cellBase 0).chip.level 1 = 0 ∧ 9 ≤ (0x9000000000000000 : DWord).toNat / 2 ^ 60 := by decide +kernel

theorem witness_CellFrame :
    allIssue cellBase [encWord 4 0 15 0 0 15 0 0, encWord 4 13 1 2 3 4 0 0, encWord 5 4 0 0 0 7 0 4095, encWord 8 0 1 0 0 0 0 23, encWord 8 1 0 0 0 4 0 43,
      encWord 0 1 0 0 0 0 0 9, encWord 0 8 0 0 0 0 0 0, encWord 3 0 3 0 0 15 8 0, encWord 3 9 0 1 0 0 2 0, encWord 1 0 14 0 0 0 7 0,
      encWord 2 3 1 2 0 0 15 0, encChain 0 0 15 63 noPorts] = true := by decide +kernel

/-! ## Witnesses: ticks -/

def inPhase (p : Phase) : State := withGraph (at_ ((chipAt .running p).setCell 3 cellBase))

def idlePhase : State := let s := inPhase .entry; at_ { s.chip with eng := { s.chip.eng with ticking := false, phase := .idle } }

theorem witness_TraversePhases :
    (∀ p ∈ [Phase.entry, .gap 0, .gap 2, .leg 0, .leg 3, .margin], (inPhase p).chip.eng.ticking = true ∧ (inPhase p).chip.traversed = true ∧
      (inPhase p).chip.eng.phase = p) ∧
    (inPhase .entry).chip.runCells = [3] ∧ ((inPhase .entry).chip.progs 3).head? = some entry3 ∧ idlePhase.chip.eng.ticking = false ∧
    idlePhase.chip.eng.phase ≠ .entry ∧ idlePhase.chip.eng.phase ≠ .leg 0 ∧ idlePhase.chip.eng.phase ≠ .margin := by decide +kernel

/-- The phases in a tick that is not traversed. -/
def stillPhase (p : Phase) : State :=
  let c := (inPhase p).chip
  at_ { c with eng := { c.eng with engine := .suspended, suspended := true } }

theorem witness_TraversePhases_still :
    (∀ p ∈ [Phase.entry, .gap 0, .gap 2, .leg 0, .leg 3, .margin], (stillPhase p).chip.eng.ticking = true ∧ (stillPhase p).chip.traversed = false ∧
      (stillPhase p).chip.eng.phase = p ∧ (∀ k : Nat, k < 28 → (inPhase p).chip.level k = 0)) ∧
    ((inPhase .entry).chip.cell 3).fetched.contains (entry3.leg 0 % 4096 / 32) = true ∧ ((inPhase .entry).chip.cell 3).fetchFailed = false ∧
    ((inPhase (.gap 0)).chip.cell 3).fetched.contains (entry3.leg 1 % 4096 / 32) = false := by decide +kernel

/-- A graph with three chip entries: to an output of the drive, to a region, and to a region in the next window. -/
def schedGraph : Graph :=
  { graph3 with
    endpoints := [0x3FFF, 0x7000]
    sched := [{ exch := 0, entries := [⟨192, 0x7000, 1, 0, false⟩, ⟨193, 64, 1, 0, false⟩, ⟨194, 65, 1, 4, false⟩] }] }

def lateState (p : Phase) (again : List (Nat × Nat)) : State :=
  let c := (chipAt .running p).setCell 3 { cellBase with legDone := true }
  at_ { c with graph := { c.graph with live := some schedGraph }, chain := { c.chain with refetch := again } }

theorem witness_LatePublishes :
    (∀ k : Nat, k < 28 → (lateState (.leg 0) []).chip.level k = 0) ∧ (lateState (.leg 0) []).chip.eng.ticking = true ∧
    (lateState (.leg 0) []).chip.traversed = true ∧ (lateState (.leg 3) []).chip.eng.phase = .leg (3 : BitVec 2).toNat ∧
    (lateState (.leg 0) []).chip.runCells = [3] ∧ ((lateState (.leg 0) []).chip.cell 3).legDone = true ∧
    (lateState (.leg 0) []).chip.slotLeg 3 0 = some 0 ∧
    ((lateState (.leg 0) []).chip.windowOf 0 0).length = 2 ∧ ((lateState (.leg 0) []).chip.windowOf 0 4).map Prod.fst = [2] ∧
    (36 : BitVec 6).toNat < 37 ∧ ((0 : BitVec 6).toNat, (0 : BitVec 16).toNat) ∈ (lateState (.leg 0) [(0, 0)]).chip.chain.refetch ∧
    (0, 0) ∉ (lateState (.leg 0) []).chip.chain.refetch := by decide +kernel

theorem witness_LatePublishes_tiles :
    (false || (lateState (.leg 0) []).chip.mem.fails .sched (schedTile 0 0)) = false ∧
    (true || (lateState (.leg 0) []).chip.mem.fails .sched (schedTile 0 0)) = true ∧ (36 : BitVec 6).toNat < 37 := by decide +kernel

/-- Each clause of HoldAndRamp at the bounds of its range; the held value is 100. -/
theorem witness_HoldAndRamp :
    (∀ m ∈ [Mute.clear, .out 0, .out 63, .muted, .ramIn 0, .ramIn 63], ({ OutCh.reset with mute := m, held := some 100 } : OutCh).mute = m) ∧
    IsRound 98 ((100 : Word).toInt * (63 : Nat)) 64 ∧ IsRound 0 ((100 : Word).toInt * (0 : Nat)) 64 ∧ IsRound 2 ((100 : Word).toInt * (1 : Nat)) 64 ∧
    IsRound 100 ((100 : Word).toInt * (64 : Nat)) 64 := by unfold IsRound; decide +kernel

theorem test_hold_eighth : ({ OutCh.reset with held := some 100, h := 7 }.commit { v := 5, p := true }).ch.mute = .out 0 ∧
    ({ OutCh.reset with held := some 100, h := 6 }.commit { v := 5, p := true }).ch.mute = .clear := by decide +kernel

/-- A packet with opcode, parameters, flags, tick and handle (R273). -/
def pkt (op : Nat) (par : List Byte) (flags : Nat := 0) (tick : Nat := 0) (handle : Nat := 0) : List Byte :=
  leBytes 2 op ++ leBytes 2 par.length ++ leBytes 2 9 ++ leBytes 2 flags ++ leBytes 8 tick ++ leBytes 4 handle ++ List.replicate 12 0 ++ par

def schedOf (op : Nat) (par : List Byte) : Sched :=
  { ch := 0, op := op, seq := 9, tick := 5, req := pkt op par, syms := [], table := [], waits := false, noMirror := false, remote := false }

/-- A command due at tick entry of tick 5. -/
def dueState (op : Nat) (par : List Byte) : Chip :=
  let c := (inPhase .entry).chip
  { c with cmd := { c.cmd with sched := [schedOf op par] } }

def suspendedState (e : Chip) (left : Nat) : Chip := { e with eng := { e.eng with engine := .suspended, suspended := true, holdLeft := left } }

def changing (stopped : Bool) (t : Nat) : State :=
  let c := (inPhase .entry).chip
  let k : RateChange := { t := t, rate := .r96, ch := 0, stopped := stopped, oldRate := some .r48, align := none }
  at_ { c with eng := { c.eng with tick := BitVec.ofNat 64 (t + 64), ticking := !stopped, change := some k } }

theorem witness_SuspendAndRate :
    (∀ o ∈ [(0x0110, leBytes 4 3), (0x0110, leBytes 4 0), (0x0112, leBytes 4 3)], (dueState o.1 o.2).eng.ticking = true ∧
      (dueState o.1 o.2).eng.phase = .entry ∧ (dueState o.1 o.2).dueNow = schedOf o.1 o.2 :: [] ∧ (schedOf o.1 o.2).op = o.1 ∧
      (dueState o.1 o.2).eng.engine = .running ∧ (dueState o.1 o.2).eng.change = none) ∧
    (suspendedState (dueState 0x0111 []) 3).dueNow = schedOf 0x0111 [] :: [] ∧ (suspendedState (dueState 0x0111 []) 3).eng.suspended = true ∧
    Rate.ofCode ((parseReq (pkt 0x0112 (leBytes 4 3))).p 0 1) = some .r88 ∧
    (let c := suspendedState (inPhase .entry).chip 0
     c.eng.ticking = true ∧ c.eng.phase = .entry ∧ c.eng.suspended = true ∧ c.eng.holdIndef = false ∧ c.eng.holdLeft = 0 ∧ c.dueNow = []) ∧
    (changing false 100).chip.tickN = 100 + 64 ∧ (changing false 100).chip.eng.ticking = true ∧
    (changing true 100).chip.eng.change = some ⟨100, .r96, 0, true, some .r48, none⟩ := by decide +kernel

def waitingChange (r : Rate) : RateChange := { t := 100, rate := r, ch := 0, stopped := true, oldRate := some .r48, align := none }

theorem witness_SuspendAndRate_rates :
    (let c := suspendedState (inPhase .entry).chip 0
     c.eng.change = none ∧ ∀ k : Nat, k < 28 → c.level k = 0) ∧
    ((changing false 100).chip.eng.change = some ⟨100, .r96, 0, false, some .r48, none⟩ ∧ (changing false 100).chip.eng.phase = .entry ∧
      ∀ k : Nat, k < 28 → (changing false 100).chip.level k = 0) ∧
    (∀ x ∈ [(Rate.r96, (0 : BitVec 12)), (.r88, 0), (.r88, 1764)],
      x.2.toNat ≤ if (waitingChange x.1).oldRate.map Rate.fam48 = some x.1.fam48 then 0 else x.1.hz / 50) ∧
    ¬ (1765 : BitVec 12).toNat ≤ (if (waitingChange .r88).oldRate.map Rate.fam48 = some Rate.r88.fam48 then 0 else Rate.r88.hz / 50) ∧
    (changing true 100).chip.eng.change = some (waitingChange .r96) := by decide +kernel

/-! ## Witnesses: the command channels -/

/-- Channel `ch` holds the request `b`, taken and not yet worked on, first of the channels taken. -/
def taken (c : Chip) (ch : Nat) (b : List Byte) : Chip :=
  let d := c.setChan ch { Chan.reset with st := .taken, req := b }
  { d with cmd := { d.cmd with takes := ch :: c.cmd.takes } }

def takenAt (op : Nat) (par : List Byte) (flags : Nat := 0) (tick : Nat := 0) (handle : Nat := 0) : Chip :=
  taken (inPhase .entry).chip 0 (pkt op par flags tick handle)

/-- Channel `ch` rings with the request whose words lie in CMD_REQ. -/
def ringing (ch : Nat) (l : List Word) : Chip :=
  let c := chipAt .running .entry
  let d := c.setChan ch { Chan.reset with st := .ringing, limit := 200 }
  let e := (l.zipIdx).foldl (fun c w => c.setReg (Reg.CMD_REQ ch w.2) w.1) d
  { e with cmd := { e.cmd with rings := [ch] } }

def nopReq : List Word := [0x00040101, 9, 0, 0, 0, 0, 0, 0, 0x12345678]

theorem witness_ChannelLife :
    (chipAt .running .entry).pfUp false = true ∧ (chipAt .running .entry).pfUp true = true ∧ ((chipAt .running .entry).chan 7).st = .idle ∧
    (chipAt .running .entry).cmd.held = false ∧
    (∀ ch ∈ [0, 7], (ringing ch nopReq).cmd.rings = [ch] ∧ (ringing ch nopReq).sys.execReady = true ∧ (ringing ch nopReq).sys.execAlive = true ∧
      ((ringing ch nopReq).chan ch).st = .ringing) ∧
    (ringing 0 nopReq).headerReason 0 ((ringing 0 nopReq).reqBytes 0 36) = 0 ∧
    (ringing 7 nopReq).headerReason 7 ((ringing 7 nopReq).reqBytes 7 36) = 5 ∧
    (let x : Resp := { reason := 65535, applied := 5, payload := List.replicate 992 1 }
     let c := (takenAt 0x0101 []).setChan 7 { Chan.reset with st := .taken, req := pkt 0x0101 [], work := .answered, rsp := some x }
     (c.chan 7).st = .taken ∧ (c.chan 7).rsp.isSome = true ∧ (c.chan 7).orphan = false ∧ (List.replicate 992 (1 : Byte)).length ≤ 992) := by
  decide +kernel

/-- Each reason of R279 on a request that gives it, and none. -/
theorem witness_HeaderChecks :
    [(pkt 0x0101 (List.replicate 993 0)).take 1024, pkt 0x0101 [] 2, pkt 0x0101 [] 8, pkt 0x0100 [], pkt 0x0403 [], pkt 0x0101 [] 4, pkt 0x0101 []].map
      (fun b => (chipAt .running .entry).headerReason 0 b) = [3, 9, 4, 2, 5, 5, 0] ∧
    [pkt 0x0101 [], pkt 0x0B01 [], pkt 0x0B02 []].map (fun b => (chipAt .running .entry).headerReason 4 b) = [5, 0, 0] ∧
    ((pkt 0x0101 (List.replicate 993 0)).take 1024).length = 32 + min 993 992 ∧ (pkt 0x0101 []).length = 32 + min 0 992 := by decide +kernel

theorem witness_ChannelRegisters :
    (chipAt .running .entry).pfUp false = true ∧ ((ringing 3 nopReq).chan 3).st ≠ .idle ∧ ((chipAt .running .entry).chan 3).st ≠ .ringing ∧
    (ringing 3 nopReq).regBit (Reg.CMD_TIMEOUT 3) 31 = false ∧ (ringing 3 nopReq).level 8 = 0 ∧ (ringing 3 nopReq).cmd.held = false ∧
    (∀ v ∈ [19, 20, 10000, 10001], v % 16384 = v) ∧ ((takenAt 0x0101 []).chan 0).st = .taken ∧ State.reset.chip.sys.execReady = false := by decide +kernel

/-- Every row of TickOpcodesChecked on a channel that carries its opcode. -/
theorem witness_TickOpcodesChecked :
    ([0x0101, 0x0110, 0x0111, 0x0112, 0x0202, 0x0205, 0x0301, 0x0303, 0x0304, 0x0306, 0x0307, 0x0401, 0x0404, 0x0501, 0x0502, 0x0503, 0x0504,
      0x0505, 0x0506, 0x0508, 0x0509, 0x0601, 0x0602, 0x0603, 0x0604, 0x0605, 0x0606, 0x0607, 0x060A, 0x0701, 0x0702, 0x0703, 0x0704, 0x0705,
      0x0801, 0x0802, 0x0803, 0x0804, 0x0806, 0x0902].all (fun op => (takenAt op [0] 0 0 1).isFresh 0 op)) = true ∧
    (takenAt 0x0101 [1, 2, 3]).checkOf 0 (parseReq (pkt 0x0101 [1, 2, 3])) = 0 ∧
    (takenAt 0x0110 [1]).checkOf 0 (parseReq (pkt 0x0110 [1])) = 3 ∧
    (takenAt 0x0110 (leBytes 4 1) 0 0 1).checkOf 0 (parseReq (pkt 0x0110 (leBytes 4 1) 0 0 1)) = 4 ∧
    (parseReq (pkt 0x0110 (leBytes 4 1) 0 0 1)).len = 4 ∧ (parseReq (pkt 0x0110 (leBytes 4 1) 0 0 1)).handle ≠ 0 := by decide +kernel

/-- PORT_DISABLE meets the gate of the ports forced closed: BAD_STATE; an enabling opcode and an open gate are the other cases. -/
theorem witness_TickOpcodesChecked_forced :
    (let c := (takenAt 0x0503 (List.replicate 4 0)).setReg Reg.CLK_GATE_FORCE 1
     c.opForced 0x0503 = some 0 ∧ c.checkOf 0 (parseReq (pkt 0x0503 (List.replicate 4 0))) = 6 ∧ opEnables 0x0503 = false) ∧
    (let c := (takenAt 0x0502 (List.replicate 4 0)).setReg Reg.CLK_GATE_FORCE 1
     c.opForced 0x0502 ≠ none ∧ opEnables 0x0502 = true) ∧
    (takenAt 0x0503 []).opForced 0x0503 = none := by decide +kernel

def checkedAt (p : Phase) (op : Nat) (par : List Byte) (flags tick : Nat) : Chip :=
  let c := taken (chipAt .running p) 0 (pkt op par flags tick)
  c.setChan 0 { c.chan 0 with work := .checked }

def manyScheduled : Chip :=
  let c := takenAt 0x0101 []
  { c with cmd := { c.cmd with sched := List.replicate 256 (schedOf 0x0101 []) } }

theorem witness_AcceptanceSchedules :
    (∀ p ∈ [Phase.entry, .commit], ∀ o ∈ [0x0101, 0x0110], ∀ f ∈ [(0, 0), (1, 0), (1, 9)],
      let c := checkedAt p o [1, 0, 0, 0] f.1 f.2
      (c.chan 0).st = .taken ∧ (c.chan 0).work = .checked ∧ opTicks o = true ∧ c.sys.execReady = true ∧ c.pairEn = false ∧
        c.cmd.takes.head? = some 0 ∧ c.checkOf 0 (parseReq (c.chan 0).req) = 0) ∧
    (checkedAt .entry 0x0111 [7] 0 0).checkOf 0 (parseReq (pkt 0x0111 [7])) ≠ 0 ∧ 256 ≤ manyScheduled.cmd.sched.length ∧
    (chipAt .running .entry).cmd.takes.head? ≠ some 0 ∧
    (dueState 0x0101 [1, 2]).dueNow.head? = some (schedOf 0x0101 [1, 2]) ∧ (takenAt 0x0103 []).isFresh 0 0x0103 = true ∧
    (takenAt 0x0103 []).eng.rate.isSome = true ∧
    (let par := [0, 0] ++ leBytes 2 9 ++ leBytes 8 6
     (takenAt 0x0105 par).isFresh 0 0x0105 = true ∧
       (let c := takenAt 0x0105 par
        { c with cmd := { c.cmd with sched := [{ schedOf 0x0202 [] with tick := 6 }] } }).chkCancel 0 (parseReq (pkt 0x0105 par)) = 0) := by decide +kernel

/-- The clause for a commit withdrawn: the bank is scheduled and the command named is its commit. -/
theorem witness_AcceptanceSchedules_bank :
    let c := takenAt 0x0105 ([0, 0] ++ leBytes 2 9 ++ leBytes 8 6)
    let d := { c with cmd := { c.cmd with sched := [{ schedOf 0x0202 [] with tick := 6 }] }, graph := { c.graph with bank := .scheduled graph3 } }
    d.isFresh 0 0x0105 = true ∧ d.pairEn = false ∧ d.chkCancel 0 (d.reqOf 0) = 0 ∧ d.graph.bank = .scheduled graph3 ∧ d.cmd.sched.any (fun x => x.ch % 8 == 0 && x.seq == 9 && x.tick == 6 && x.op == 0x0202) = true := by
  decide +kernel

def symGraph : Graph :=
  { graph3 with symbols := [⟨0x100, 2, 1, 3, 0⟩, ⟨0x101, 0, 4, 3, 0⟩] }

def queryAt (op : Nat) (par : List Byte) (flags handle : Nat) : Chip :=
  let c := takenAt op par flags 0 handle
  { c with graph := { c.graph with live := some symGraph } }

theorem witness_QueriesChangeNothing :
    ([0x0102, 0x0104, 0x0204, 0x0302, 0x0305, 0x0402, 0x0507, 0x0C02, 0x0608, 0x0706, 0x0805, 0x0901, 0x0A03, 0x0A04].all
      (fun op => (queryAt op [] 0 0).isFresh 0 op && (queryAt op [0] 1 0).isFresh 0 op)) = true ∧
    symOf (queryAt 0x0302 [] 0 0x100).liveSyms 0x100 = some ⟨0x100, 2, 1, 3, 0⟩ ∧ symOf (queryAt 0x0302 [] 0 0x200).liveSyms 0x200 = none ∧
    symOf (queryAt 0x0305 [] 0 0x101).liveSyms 0x101 = some ⟨0x101, 0, 4, 3, 0⟩ ∧
    (∀ f : Nat × Nat, f ∈ [(0, 480), (4943, 1), (4464, 480)] → 1 ≤ f.2 ∧ f.2 ≤ 480 ∧ f.1 + f.2 ≤ 4944) := by decide +kernel

theorem witness_QueriesChangeNothing_forced :
    (let c := (queryAt 0x0507 [] 0 0).setReg Reg.CLK_GATE_FORCE 1
     let d := queryAt 0x0507 [] 0 0
     c.isFresh 0 0x0507 = true ∧ c.opForced 0x0507 ≠ none ∧ d.opForced 0x0507 = none) := by decide +kernel

/-! ## Witnesses: graphs, parameters and tails -/

/-- A section of the table of R205: offset, length and count. -/
def section1 (off len cnt : Nat) : List Byte := leBytes 4 off ++ leBytes 4 len ++ leBytes 4 cnt ++ leBytes 4 0

/-- An image of one cell with a program of one tile; its CRC is the one of its bytes. -/
def image1 : List Byte :=
  let head := leBytes 4 0x4D49475A ++ [2, 0] ++ leBytes 2 0x100 ++ leBytes 4 1024 ++ [2, 0] ++ leBytes 2 0x200 ++ [0xB1, 0, 1, 0] ++ leBytes 4 0 ++
    leBytes 8 7 ++ leBytes 8 0
  let rest := List.replicate 20 0 ++ section1 256 32 1 ++ section1 512 48 1 ++ section1 768 256 1 ++ List.replicate 144 0 ++
    leBytes 8 0 ++ [0, 1] ++ List.replicate 246 0 ++ List.replicate 512 0
  head ++ leBytes 4 (crc32c (head ++ leBytes 4 0 ++ rest)).toNat ++ rest

def loadPar : List Byte := leBytes 8 0x1000 ++ leBytes 4 1024 ++ leBytes 4 0

def withBank (c : Chip) (b : Bank) : Chip := { c with graph := { c.graph with bank := b } }

/-- A bank that loads four tiles of DRAM for channel 0. -/
def loading : Chip := withBank (chipAt .staked .entry) (.loading 0 0x1000 1024)

theorem witness_GraphLoads :
    (let c := takenAt 0x0201 loadPar
     let r := c.reqOf 0
     c.pairEn = false ∧ c.isFresh 0 0x0201 = true ∧ r.len = 16 ∧ r.flags.testBit 0 = false ∧ r.handle = 0 ∧ r.z 12 4 = true ∧ r.p 0 8 % 256 = 0 ∧
       r.p 8 4 % 256 = 0 ∧ 256 ≤ r.p 8 4 ∧ r.p 0 8 + r.p 8 4 ≤ c.dramUsable ∧ c.graph.retire = none ∧ c.pair.resync = none ∧ c.sys.swap = none ∧
       c.eng.engine = .running ∧ c.graph.bank = .empty) ∧
    (loading.dramRead 0x1000 1024).1.loadReason (memRead loading.mem.dram 0x1000 1024) (loading.dramRead 0x1000 1024).2.2 ≠ 0 ∧
    (takenAt 0x0201 [1]).isFresh 0 0x0201 = true ∧ ((takenAt 0x0201 [1]).reqOf 0).len ≠ 16 ∧
    (withBank (takenAt 0x0201 loadPar) (.scheduled graph3)).graph.bank = .scheduled graph3 ∧
    loading.graph.bank = .loading 0 0x1000 1024 ∧ (∀ k : Nat, k < 28 → loading.level k = 0) ∧
    (takenAt 0x0203 []).isFresh 0 0x0203 = true ∧ ((takenAt 0x0203 []).reqOf 0).len = 0 := by decide +kernel

set_option maxRecDepth 100000 in
/-- The results of the checks of R209 that the statement names: an image that passes, one with a wrong CRC, one of which a
tile failed, and one that is none. -/
theorem witness_GraphLoads_results :
    let wrong := image1.take 1023 ++ [1]
    image1.length = 1024 ∧ loading.loadReason image1 false = 0 ∧ versionOk wrong = true ∧ loading.loadReason image1 true = 9 ∧
      leField (List.replicate 1024 0) 0 4 ≠ 0x4D49475A ∧ loading.loadReason (List.replicate 1024 0) false = 0x0107 := by decide +kernel

def commitDue (patch : Bool) (fade stage : Nat) : Chip :=
  let c := dueState 0x0202 (leBytes 8 0 ++ leBytes 4 0 ++ leBytes 4 0)
  let e : Sched := { schedOf 0x0202 [] with req := pkt 0x0202 (leBytes 4 fade) }
  { withBank c (.scheduled { graph3 with patch := patch }) with cmd := { c.cmd with sched := [e] }, pwr := { c.pwr with stage := stage } }

theorem witness_GraphCommits :
    (∀ v ∈ [(false, 0, 0), (false, 64, 1), (false, 64, 2), (true, 0, 0)],
      let c := commitDue v.1 v.2.1 v.2.2
      c.eng.ticking = true ∧ c.eng.phase = .entry ∧ (c.dueNow.head?).isSome = true ∧ (∀ e ∈ c.dueNow, e.op = 0x0202 ∧ (parseReq e.req).p 0 4 = v.2.1) ∧
        c.graph.bank = .scheduled { graph3 with patch := v.1 } ∧ c.pwr.stage = v.2.2 ∧ c.graph.live = some graph3) ∧
    (let c := (inPhase .entry).chip
     let d := { c with graph := { c.graph with fade := some { old := none, f := 64, j := 64 } } }
     d.eng.ticking = true ∧ d.eng.phase = .entry ∧ d.graph.fade = some { old := none, f := 64, j := 64 } ∧ d.dueNow = [] ∧
       d.graph.live = some graph3 ∧ graph3.settle ≤ Map.get (fun _ => 0) d.graph.settleCnt 3 ∧ d.graph.settled.testBit 3 = false) := by decide +kernel

/-- A graph with a delay line, where a commit clears its tiles, and a commit at stage 4 of shedding. -/
theorem witness_GraphCommits_lines :
    (∀ v ∈ [0, 4], let g := { graph3 with lines := [⟨3, false, false, 0, 0, 4, 0⟩], taps := [⟨3, 9, 0, 5⟩] }
      let c := withBank (commitDue false 0 v) (.scheduled g)
      c.graph.bank = .scheduled g ∧ (∀ k : Nat, k < 28 → c.level k = 0) ∧ c.pwr.stage = v ∧ c.eng.engine = .running) ∧
    (let c := commitDue false 0 4
     let d := { c with eng := { c.eng with engine := .staked } }
     d.eng.engine = .staked ∧ ¬ d.pwr.stage < 4 ∧ (c.dueNow.head?).isSome = true) := by decide +kernel

def retiring (shadow wait : Bool) (left : Nat) : Chip :=
  let c := (inPhase .entry).chip.setCell 15 { Cell.reset with power := .on }
  { c with graph := { c.graph with retire := some { laddr := 3, ch := 0, shadow := shadow, wait := wait, left := left } } }

theorem witness_Retirement :
    (dueState 0x0205 (leBytes 4 192)).dueNow = [schedOf 0x0205 (leBytes 4 192)] ∧ (dueState 0x0205 (leBytes 4 192)).spareOf 3 = 15 ∧
    ((dueState 0x0205 (leBytes 4 192)).cell 15).power = .off ∧ ((retiring false false 0).cell 15).power ≠ .off ∧
    ((retiring false false 0).cell ((retiring false false 0).spareOf 3)).power = .on ∧ (∀ k : Nat, k < 28 → (retiring false false 0).level k = 0) ∧
    (retiring false false 0).spareOf 3 ≠ (retiring false false 0).physOf 3 ∧
    (∀ v ∈ [(true, false, 0), (false, false, 0), (true, true, 0), (true, false, 1)],
      (retiring v.1 v.2.1 v.2.2).graph.retire = some ⟨3, 0, v.1, v.2.1, v.2.2⟩ ∧ (retiring v.1 v.2.1 v.2.2).eng.ticking = true ∧
        (retiring v.1 v.2.1 v.2.2).eng.phase = .entry) := by decide +kernel

/-- The cell replaced at the swap is ON and idle, ON with a write through its port, or has failed to wake. -/
theorem witness_Retirement_swap :
    (∀ v ∈ [(Power.on, true), (.on, false), (.wakeFail, true)],
      let d := retiring true false 0
      let c := d.setCell 3 { d.cell 3 with power := v.1, writes := if v.2 then [] else [{ back := true, addr := 0, bytes := [1], whole := none }] }
      c.graph.retire = some ⟨3, 0, true, false, 0⟩ ∧ 16 * (3 / 16) + c.ctt (3 / 16) (3 % 16) = 3 ∧ (c.cell 3).power = v.1 ∧
        (c.cell 3).portIdle = v.2) := by decide +kernel

def stakeSetPar : List Byte := leBytes 2 2 ++ [0, 0] ++ leBytes 2 0x4000 ++ leBytes 2 5 ++ leBytes 2 0x5FFF ++ leBytes 2 0xFFFF

/-- Field-book copy A of the stake table, every stake 0, sequence 1. -/
def stakeA : List Byte :=
  let h := leBytes 4 0x4B54535A ++ leBytes 2 1 ++ leBytes 2 4944 ++ leBytes 4 1 ++ [1] ++ List.replicate 47 0
  h ++ leBytes 4 (crc32c (h ++ List.replicate 9892 0)).toNat

theorem witness_StakeTable :
    (dueState 0x0401 stakeSetPar).dueNow = [schedOf 0x0401 stakeSetPar] ∧ (parseReq (pkt 0x0401 stakeSetPar)).p 0 2 = 2 ∧
    stakeIdx ((parseReq (pkt 0x0401 stakeSetPar)).p 4 2) = some 0 ∧ stakeIdx ((parseReq (pkt 0x0401 stakeSetPar)).p 8 2) = some 4943 ∧
    (dueState 0x0404 [1, 0, 0, 0]).dueNow = [schedOf 0x0404 [1, 0, 0, 0]] ∧
    (∀ k ∈ [1, 6], let c := takenAt 0x0403 [k, 0, 0, 0]
      let d := taken c 4 (pkt 0x0403 [k, 0, 0, 0])
      d.isFresh 4 0x0403 = true ∧ d.pairEn = false ∧ (d.reqOf 4).len = 4 ∧ (d.reqOf 4).handle = 0 ∧ (d.reqOf 4).p 0 1 = k.toNat ∧ (d.reqOf 4).z 1 3 = true ∧
        d.pair.resync = none ∧ d.sys.swap = none ∧ d.level 27 = 0) ∧ (159 : Byte).toNat < 160 := by decide +kernel

def paramPar (handle first : Nat) (l : List Nat) : List Byte :=
  leBytes 2 1 ++ [0, 0] ++ leBytes 4 handle ++ [BitVec.ofNat 8 first, BitVec.ofNat 8 l.length, 0, 0] ++ l.flatMap (leBytes 4)

/-- Symbols of the four kinds owned by cell 3 or region 3, and a tap. -/
def symbols4 : List Symbol := [⟨0x100, 0, 64, 3, 256⟩, ⟨0x101, 1, 64, 3, 4194048⟩, ⟨0x102, 2, 1, 3, 63⟩, ⟨0x103, 3, 1, 3, 9⟩]

def paramDue (op : Nat) (par : List Byte) (y : Symbol) : Chip :=
  let c := (inPhase .entry).chip
  { c with
    graph := { c.graph with live := some { graph3 with symbols := symbols4, taps := [⟨3, 9, 0, 5⟩] } }
    cmd := { c.cmd with sched := [{ schedOf op par with syms := [y] }] } }

theorem witness_ParameterWrites :
    (∀ v ∈ [(0x100, 63, [1]), (0x101, 0, List.replicate 64 7), (0x101, 62, [1, 2]), (0x102, 0, [9]), (0x103, 0, [4])],
      let y := symbols4.getD (v.1 - 0x100) ⟨0, 0, 0, 0, 0⟩
      let c := paramDue 0x0301 (paramPar v.1 v.2.1 v.2.2) y
      c.dueNow.map (fun e => e.op) = [0x0301] ∧ (∀ k : Nat, k < 28 → c.level k = 0) ∧ c.liveSyms.find? (fun z => z.handle == y.handle) = some y ∧
        (∀ e ∈ c.dueNow, ((parseReq e.req).paramList.zip e.syms).length = 1) ∧ c.paramCells 3 = [3] ∧
        y.loc % 256 + 4 * (v.2.1 + v.2.2.length) ≤ 256) ∧
    (paramDue 0x0301 (paramPar 0x104 0 [1]) ⟨0x104, 0, 1, 3, 0⟩).liveSyms.find? (fun z => z.handle == 0x104) = none ∧
    (let m := (Mem.reset.putTile .region 65535 (List.replicate 256 1) true)
     marked (m.entry .region 65535) = true ∧ marked (Mem.reset.entry .region 65535) = false ∧ Mem.reset.fails .region 65535 = false) := by decide +kernel

/-- A backing tile of a cell that is OFF, and of one that wakes. -/
theorem witness_ParameterWrites_asleep :
    (∀ w ∈ [Power.off, .waking],
      let y : Symbol := ⟨0x100, 0, 64, 3, 256⟩
      let d := paramDue 0x0301 (paramPar 0x100 63 [1]) y
      let c := d.setCell 3 { d.cell 3 with power := w }
      c.paramCells 3 = [3] ∧ (c.cell 3).power = w ∧ c.liveSyms.find? (fun z => z.handle == 0x100) = some y ∧
        c.dueNow.map (fun e => e.op) = [0x0301]) := by decide +kernel

def gainPar (flags : Nat) : List Byte := leBytes 2 1 ++ [0, 0] ++ leBytes 4 0x102 ++ leBytes 4 0xFFFFFDA8 ++ [BitVec.ofNat 8 flags] ++ List.replicate 7 0

theorem witness_GainCommands :
    (∀ op ∈ [0x0303, 0x0304], ∀ f ∈ [0, 1, 2], let c := paramDue op (gainPar f) ⟨0x102, 2, 1, 3, 63⟩
      c.dueNow.map (fun e => (e.op, e.syms)) = [(op, [⟨0x102, 2, 1, 3, 63⟩])] ∧ c.eng.ticking = true ∧ c.eng.phase = .entry ∧
        c.liveSyms.find? (fun z => z.handle == 0x102) = some ⟨0x102, 2, 1, 3, 63⟩) ∧
    (0xFFFFC7C0 : Word).toInt = -14400 ∧ (1806 : Word).toInt = 1806 ∧ (10 : Int) ≤ 1200 := by decide +kernel

/-- R241: 0 dB, the top of the range, and a level below the least. -/
theorem test_gain_levels : gainTarget 0 false = 0x10000000 ∧ gainTarget 0x80000000 false = 0 ∧ gainTarget 5 true = 5 := by decide +kernel

def tailOf (write : Bool) (ticks periods : Nat) : Tail :=
  { write := write, dramBase := 64, dramTiles := 8, ringBase := 0, tiles := 2, group := 0, skip := 0, ticks := ticks, periods := periods }

def tailState (w : Tail) : Chip :=
  let c := (inPhase .entry).chip
  { c with chain := { c.chain with tails := [(255, some w)] } }

def bindPar : List Byte :=
  leBytes 2 2 ++ List.replicate 6 0 ++ ([3, 63, 1, 0] ++ leBytes 4 64 ++ leBytes 4 8 ++ leBytes 2 0 ++ leBytes 2 2 ++ List.replicate 16 0) ++
    ([0, 0, 0, 0] ++ leBytes 4 80 ++ leBytes 4 8 ++ leBytes 2 8 ++ leBytes 2 2 ++ List.replicate 16 0)

theorem witness_TailStreams :
    (dueState 0x0306 bindPar).dueNow = [schedOf 0x0306 bindPar] ∧ (parseReq (pkt 0x0306 bindPar)).p 0 2 = 2 ∧
    (parseReq (pkt 0x0306 bindPar)).p 8 2 ≠ (parseReq (pkt 0x0306 bindPar)).p 40 2 ∧
    (dueState 0x0307 [255, 0, 0, 0]).dueNow = [schedOf 0x0307 [255, 0, 0, 0]] ∧
    (∀ v ∈ [(false, 0), (false, 1), (false, 2), (false, 3), (true, 0), (true, 1), (true, 4)],
      (tailState (tailOf v.1 (32 * v.2) v.2)).tail (64 * (3 : BitVec 2).toNat + (63 : BitVec 6).toNat) = some (tailOf v.1 (32 * v.2) v.2) ∧
      (tailOf v.1 (32 * v.2) v.2).dramTile 0 ≠ (tailOf v.1 (32 * v.2) v.2).dramTile 1) ∧
    (∀ k : Nat, k < 28 → (tailState (tailOf true 0 0)).level k = 0) := by decide +kernel

theorem witness_TailStreams_ticks :
    (tailState (tailOf true 0 0)).traversed = true ∧
    (let c := tailState (tailOf true 0 0)
     { c with eng := { c.eng with engine := .suspended, suspended := true } }.traversed = false) ∧
    (∀ b ∈ [(none : Option (BitVec 10)), some 1], (tailOf false 64 2).tiles = 2 ∧ (b = some 1 → (1 : BitVec 10).toNat < 2)) := by decide +kernel

/-! ## Witnesses: events of the cells -/

def streaming (stopping : Bool) (refills : List (Nat × Nat)) : Streamer :=
  { cfg := { slot := 2, region := false, first := 0, count := 2 }, next := 0, olderHigh := false, refills := refills, stopping := stopping,
    restart := none }

def movingCell (store region : Bool) : Cell := { cellBase with moves := [{ bg := false, store := store, slot := 7, region := region, tile := if region then 16383 else 511 }] }

theorem witness_TileMovesComplete :
    (∀ v ∈ [(true, false), (true, true), (false, false), (false, true)],
      (movingCell v.1 v.2).moves.find? (fun m => m.slot == 7) = some ⟨false, v.1, 7, v.2, if v.2 then 16383 else 511⟩) ∧
    (∀ k : Nat, k < 28 → (withCell cellBase 0).chip.level k = 0) ∧
    (streaming false [(2, 0), (3, 1)]).refills.find? (fun q => q.1 == 3) = some (3, 1) ∧
    (streaming true [(3, 1)]).refills.filter (fun q => q.1 != 3) = [] ∧ (streaming true [(3, 1)]).restart = none ∧
    (∀ v ∈ [false, true], ∀ x ∈ [{ cellBase with ctx := .traverse }, { bgCell with bg := .ready }, { cellBase with ctx := .idle, bg := .ready }],
      (withCell { x with fetches := [{ tile := 127, second := v, trav := true, back := true, lead := true }] } 0).chip.fetchOf 3 127 =
        some ⟨127, v, true, true, true⟩) ∧
    marked ((withCell cellBase 0).chip.mem.entry .prog (128 * 3 + 127)) = false ∧
    (withCell cellBase 0).chip.mem.fails .prog (128 * 3 + 127) = false ∧ cellBase.fetched.Nodup := by decide +kernel

def powerState (i : Nat) (p : Power) : Chip := (inPhase .entry).chip.setCell i { cellBase with power := p }

theorem witness_CellPower :
    (powerState 3 .off).sys.up = true ∧ (powerState 3 .off).pwr.stage < 4 ∧ ((powerState 3 .off).cell 3).power = .off ∧
    ((powerState 3 .waking).cell 3).power = .waking ∧ (powerState 3 .waking).progs 3 ≠ [] ∧ (powerState 511 .waking).progs 511 = [] ∧
    (powerState 3 .waking).level 8 = 0 ∧ (powerState 3 .waking).graph.retire = none ∧
    (let c := (retiring false false 0).setCell 15 { Cell.reset with power := .waking }
     (c.cell 15).power = .waking ∧ c.graph.retire = some ⟨3, 0, false, false, 0⟩ ∧ c.spareOf 3 = 15) ∧
    ((powerState 3 .on).cell 3).power ≠ .off ∧ ((powerState 3 .on).cell 3).power ≠ .waking := by decide +kernel

/-- A whole tile waits for the cell, for either of its memories. -/
theorem witness_CellPower_writes :
    (∀ v ∈ [(false, 127), (true, 511)],
      let w : PortWrite := { back := v.1, addr := 256 * v.2, bytes := List.replicate 256 7, whole := some true }
      let c := (powerState 3 .waking).setCell 3 { (powerState 3 .waking).cell 3 with writes := [w] }
      (c.cell 3).power = .waking ∧ (c.cell 3).writes = [w] ∧ w.whole = some true ∧ w.bytes.length = 256 ∧ ∀ k : Nat, k < 28 → c.level k = 0) ∧
    ((powerState 3 .waking).cell 3).writes = [] ∧ (retiring false false 0).spareOf 3 ≠ 3 := by decide +kernel

def lineState : Chip :=
  let c := (inPhase .entry).chip
  { c with graph := { c.graph with live := some { graph3 with
      lines := [⟨3, true, false, 511, 100, 262144, 0⟩, ⟨3, false, false, 0, 0, 4, 0⟩], taps := [⟨3, 1023, 511, 64⟩] } } }

/-- The line has run 64 · 262,143 + 65 ticks; `behind` lists the tiles that wait in its BUF. -/
def lineRun (behind : List Behind) (p : Phase) : Chip :=
  (at_ { lineState with eng := { lineState.eng with phase := p } }).chip.setLine (512 * 3 + 511)
    { (lineState.lineSt (512 * 3 + 511)) with w := 64 * 262143 + 65, behind := behind }

theorem witness_DelayTiles :
    lineState.tapsLive.find? (fun t => t.region == 3 && t.tap == 1023) = some ⟨3, 1023, 511, 64⟩ ∧
    lineState.linesLive.find? (fun l => l.region == 3 && l.line == 511) = some ⟨3, true, false, 511, 100, 262144, 0⟩ ∧
    (∀ l ∈ [[], [{ lap := 262143, age := 3, late := false, absent := false }]],
      let c := lineRun l .entry
      (∀ k : Nat, k < 28 → c.level k = 0) ∧ (c.lineSt 2047).w = 64 * 262143 + 65 ∧ (c.lineSt 2047).behind = l ∧
        c.tapsLive = [⟨3, 1023, 511, 64⟩] ∧ c.linesLive = lineState.linesLive ∧ (c.tapSt 4095).ahead = [] ∧ (c.tapSt 4095).cur = none ∧
        (c.lineSt 2047).w - 1 - 64 = 64 * 262143 ∧ (262143 : BitVec 18).toNat = 262143 % 262144 ∧ 262143 < (c.lineSt 2047).w / 64 ∧
        c.tapBuf ⟨3, 1023, 511, 64⟩ 262143 = some 3) ∧
    (let c := lineRun [{ lap := 262143, age := 3, late := false, absent := false }] .entry
     c.traversed = true ∧ c.chain.dlyLate.testBit 3 = false ∧ ⟨3, true, false, 511, 100, 262144, 0⟩ ∈ c.linesLive ∧
       (511 : BitVec 9).toNat = 511 ∧ (262143 : BitVec 18).toNat = 262143 % 262144) ∧
    (let c := lineRun [] .entry
     { c with eng := { c.eng with engine := .suspended, suspended := true } }.traversed = false) := by decide +kernel

/-! ## Witnesses: the host -/

def openHost : Chip := let c := chipAt .running .entry; { c with cmd := { c.cmd with session := { Session.reset with isOpen := true } } }

theorem witness_HostReads :
    openHost.pfUp false = true ∧ openHost.pfUp true = true ∧ openHost.cmd.session.isOpen = true ∧ latchOf 0x8 ≠ [] ∧ latchOf 0xE0000 ≠ [] ∧
    (∀ n ∈ [4, 8], 0x1FFFFF8 % n = 0 ∧ 0x1000000 % n = 0 ∧ 0x3FFF8 % n = 0) ∧ (0x1FFFFF8 : BitVec 30).toNat < 0x2000000 ∧
    openHost.regFld Reg.GCTL_DRAM_WIN 4 0 * 2 ^ 30 + 0x3FFFFFF8 + 8 ≤ openHost.dramUsable ∧ (∀ k : Nat, k < 28 → openHost.level k = 0) := by
  decide +kernel

/-- A register of the audio ports is out of reach when their gate is forced closed, and so is none beside. -/
theorem witness_HostReads_gates :
    openHost.gatedAt 0x8 = none ∧ openHost.gatedAt 0x50000 = none ∧
    (let c := openHost.setReg Reg.CLK_GATE_FORCE 15
     c.gatedAt 0x50000 = some 0 ∧ c.gatedAt 0x8 = none ∧
       ∀ v ∈ [(0x50000, 0), (0xDFFFC, 1), (0x60000, 2), (0x7FFFC, 3)], (v.1 / 65536, v.2) ∈ [(5, 0), (13, 1), (6, 2), (7, 3)] ∧
         v.1 % 4 = 0 ∧ c.regBit Reg.CLK_GATE_FORCE v.2 = true) := by decide +kernel

/-- The rule of each clause at the bounds of the ranges: WIN 3 ends DRAM above the last window. -/
theorem witness_HostAborts :
    (chipAt .running .entry).pfUp false = true ∧ (chipAt .running .entry).pfUp true = true ∧ (chipAt .running .entry).cmd.session.isOpen = false ∧
    (let c := (chipAt .running .entry).setReg Reg.GCTL_DRAM_WIN 3
     c.dramUsable < c.regFld Reg.GCTL_DRAM_WIN 4 0 * 2 ^ 30 + 0x3FFFFFF8 + 8 ∧ ¬ c.dramUsable < c.regFld Reg.GCTL_DRAM_WIN 4 0 * 2 ^ 30 + 0 + 8) ∧
    (0xEFFFC : BitVec 30).toNat < 0xF0000 ∧ ¬ (0xF0000 : BitVec 30).toNat < 0xF0000 ∧ (0x2000000 : BitVec 30).toNat % 8 = 0 ∧
    (0xFFFFFC : BitVec 30).toNat < 0x1000000 ∧ (0x3FFFE : BitVec 18).toNat % 4 ≠ 0 := by decide +kernel

theorem witness_HostWrites :
    (∀ a ∈ [0x4, Reg.GCTL_MSIX_ROUTE, Reg.DTM_EVENT, Reg.FLT_CFG 27],
      a < 0xF0000 ∧ a % 4 = 0 ∧ isClear a = false ∧ (regRow a).isSome = true ∧
        a ∉ [Reg.FLT_UNACK, Reg.PWR_RESET_CAUSE, Reg.CLK_GATE_FORCE, Reg.CLK_OBS, Reg.GCTL_DEBUG, Reg.PAIR_SIG_TAKE] ∧
        (∀ k : Nat, k < 8 → a ≠ Reg.CMD_DOORBELL k ∧ a ≠ Reg.CMD_TIMEOUT k) ∧ (∀ k : Nat, k < 16 → a ≠ Reg.DMA_CH_CTRL k) ∧
        (∀ k : Nat, k < 4 → a ≠ Reg.NET_RXQ_TAIL k ∧ a ≠ Reg.NET_SNAP k)) ∧
    regRow 0xEFFC = none ∧ isClear 0xEFFC = false ∧ openHost.regFld Reg.GCTL_DRAM_WIN 4 0 * 2 ^ 30 + 0 + 8 ≤ openHost.dramUsable := by decide +kernel

theorem witness_HostWrites_requests : ∀ k : Nat, k < 8 → ∀ w : Nat, w < 256 → Reg.CMD_REQ k w ≠ 0x4 := by decide +kernel

/-- The key and the signature of the first test of RFC 8032, over the empty message. -/
def testKey : List Byte := leBytes 32 0x1a5107f7681a02af2523a6daf372e10e3a0764c9d3fe4bd5b70ab18201985ad7
def testSig : List Byte :=
  leBytes 64 0xb107a8e4341516524be5b59f0f55bd26bb4f91c70391ec6ac3ba3901582b85f5501492265e073d874d9e5b81e7f87848a826e80cce2869072ac60c3004356e5

def authAt (chal : Option (List Byte)) (sig : List Byte) : Chip :=
  let c := taken (chipAt .running .entry) 4 (pkt 0x0B02 ([3, 0, 0, 0] ++ sig))
  { c with
    sys := { c.sys with fieldBook := memWrite [] (fbKeys + 96) testKey }
    cmd := { c.cmd with session := { Session.reset with challenge := chal, fails := 3 } } }

theorem witness_Sessions :
    (let c := taken (chipAt .running .entry) 4 (pkt 0x0B01 [])
     let r := c.reqOf 4
     c.isFresh 4 0x0B01 = true ∧ r.len = 0 ∧ r.flags.testBit 0 = false ∧ r.handle = 0 ∧ c.sys.swap = none ∧ c.cmd.session.lockout = false) ∧
    (let c := authAt (some []) testSig
     let r := c.reqOf 4
     c.isFresh 4 0x0B02 = true ∧ r.len = 68 ∧ r.flags.testBit 0 = false ∧ r.handle = 0 ∧ c.sys.swap = none ∧ r.p 0 1 = 3 ∧ r.z 1 3 = true ∧
       c.keyEmpty 3 = false ∧ c.keyEmpty 0 = true ∧ bytesFrom r.par 4 64 = testSig ∧ c.keySlot 3 = testKey ∧ c.cmd.session.challenge = some []) ∧
    (authAt none testSig).cmd.session.challenge = none ∧
    (taken (chipAt .running .entry) 4 (pkt 0x0B03 [])).isFresh 4 0x0B03 = true ∧
    (∀ op ∈ [0x0B02, 0x0B03],
      let c := (taken (chipAt .running .entry) 4 (pkt op [3])).setChan 4
        { Chan.reset with st := .taken, req := pkt op [3], rsp := some { reason := 0, applied := 5, payload := [] } }
      (c.chan 4).st = .taken ∧ (c.chan 4).rsp = some ⟨0, 5, []⟩ ∧ c.cmd.held = false ∧ (parseReq (c.chan 4).req).op = op) := by decide +kernel

set_option maxRecDepth 100000 in
/-- R286: a signature that verifies, and the same one over another challenge. -/
theorem witness_Sessions_signatures : edVerify testKey [] testSig = true ∧ edVerify testKey [0] testSig = false := by decide +kernel

theorem witness_Doorbells :
    (let c := (taken (chipAt .running .entry) 0 (pkt 0x0101 []))
     let d := { c with cmd := { c.cmd with bells := [(0, 1), (35, 0x80000000)] } }
     (d.bells 0).getLsbD 0 = true ∧ (d.bellMask 0).getLsbD 0 = false ∧ (d.bells 35).getLsbD 31 = true ∧ (d.bells 0).getLsbD 1 = false ∧ d.level 8 = 0 ∧
       (d.chan 0).st = .taken ∧ (d.chan 0).work = .fresh) := by decide +kernel

theorem witness_Doorbells_flags :
    let c := chipAt .running .entry
    let d := { c with cmd := { c.cmd with bells := [(0, 3)], bellMasks := [(0, 2)], bellFlags := [(0, 1)] } }
    (d.bells 0).getLsbD 0 = true ∧ (d.bellMask 0).getLsbD 0 = false ∧ (d.bellFlag 0).getLsbD 0 = true ∧ (d.bellMask 0).getLsbD 1 = true ∧
    (d.bellFlag 0).getLsbD 1 = false ∧ (c.bellFlag 35).getLsbD 31 = false := by decide +kernel

/-! ## Witnesses: the datum -/

/-- Stores registers. -/
def withRegs (c : Chip) (l : List (Nat × Word)) : Chip := l.foldl (fun c e => c.setReg e.1 e.2) c

/-- Reference `r` with its configuration and status, the datum in `state` with the benchmark `bench`. -/
def refState (c : Chip) (r state bench : Nat) (cfg stat : Word) (m : RefMon) : Chip :=
  (withRegs c [(refCFG r, cfg), (refSTAT r, stat), (refWIN r, 0x03E801F4), (Reg.DTM_STATE, BitVec.ofNat 32 (state + 256 * bench))]).setMon r m

def runChip : Chip := (inPhase .entry).chip

/-- Windows of 5 ppm and 10 ppm, enabled with rank 1; one second of qualification is left. -/
def refOn (r state bench : Nat) (stat : Word) (m : RefMon) : Chip := refState runChip r state bench 0x90000064 stat m

theorem witness_ReferenceMonitors :
    (∀ r ∈ [0, 17], r < 18 ∧ (refOn r 1 31 0x40000001 RefMon.reset).refEn r = true ∧ (refOn r 1 31 0 RefMon.reset).dState ≠ 4 ∧
      (refOn r 1 31 0 RefMon.reset).bench ≠ r ∧ (∀ k : Nat, k < 28 → (refOn r 1 31 0 RefMon.reset).level k = 0)) ∧
    (-250 : BitVec 16).toInt.natAbs ≤ 250 ∧ 250 < (251 : BitVec 16).toInt.natAbs ∧
    ((refOn 4 1 4 0xC0000000 { RefMon.reset with run := 3 }).mon 4).run + 1 = 4 ∧ (refOn 4 1 4 0xC0000000 RefMon.reset).refQual 4 = true ∧
    (refOn 5 1 31 0 RefMon.reset).refEn 5 = true ∧ ((refOn 5 1 31 0 RefMon.reset).mon 5).tripped = false ∧
    ((refOn 5 1 31 0 { RefMon.reset with tripped := true }).mon 5).tripped = true ∧ runChip.refEn 5 = false ∧
    (refOn 5 4 31 0 RefMon.reset).dState = 4 ∧
    ((5000000 : Word).toInt.natAbs ≤ 10000 * (refOn 0 1 31 0 RefMon.reset).regFld (refWIN 0) 15 0) ∧
    (∀ f ∈ [5000001, 10000000], ¬ f ≤ 10000 * (refOn 0 1 31 0 RefMon.reset).regFld (refWIN 0) 15 0 ∧
      f ≤ 10000 * (refOn 0 1 31 0 RefMon.reset).regFld (refWIN 0) 31 16) ∧
    2 < ((refOn 0 1 31 0 { RefMon.reset with extra := 3 }).mon 0).extra := by decide +kernel

/-- The two inputs of PPS10M, four misses of PPS_IN, and the servo's reference. -/
theorem witness_ReferenceMonitors_pps :
    (let m := (refOn 4 1 4 0xC0000000 { RefMon.reset with runPps := 3 }).mon 4
     m.runPps + 1 = 4 ∧ m.tripped = false ∧ m.run + 1 < 4 ∧ (4 : BitVec 5).toNat = 4 ∧ (4 : BitVec 5).toNat ≠ 5) ∧
    (refOn 4 1 4 0xC0000000 RefMon.reset).bench = 4 ∧ (refOn 5 1 31 0 RefMon.reset).bench ≠ 5 ∧
    4 ≤ ((refOn 4 1 31 0 { RefMon.reset with run := 4 }).mon 4).run := by decide +kernel

def duePar (op : Nat) (par : List Byte) (c : Chip) : Chip := { c with cmd := { c.cmd with sched := [schedOf op par] } }

def refCfgPar (r : Nat) (rank : Nat) : List Byte :=
  [BitVec.ofNat 8 r, 0, 2, BitVec.ofNat 8 rank] ++ leBytes 4 5000 ++ leBytes 4 10000 ++ leBytes 4 6000

def saveAt (valid : Bool) (what : Byte) : Chip :=
  let c := takenAt 0x0707 [what, 0, 0, 0]
  { c with dtm := { c.dtm with model := { c.dtm.model with valid := valid } } }

theorem witness_DatumCommands :
    (∀ r ∈ [0, 17], ∀ rank ∈ [0, 7], ∀ c ∈ [runChip, refOn r 1 31 0 RefMon.reset],
      (duePar 0x0701 (refCfgPar r rank) c).dueNow = [schedOf 0x0701 (refCfgPar r rank)] ∧
        (∀ k : Nat, k < 28 → (duePar 0x0701 (refCfgPar r rank) c).level k = 0)) ∧
    (let q := parseReq (pkt 0x0701 (refCfgPar 17 7))
     q.p 0 1 < 18 ∧ q.p 1 1 ≤ 3 ∧ q.p 2 1 ≤ 15 ∧ q.p 3 1 ≤ 7 ∧ q.p 4 4 ≤ 200000 ∧ q.p 8 4 ≤ 200000 ∧ q.p 12 4 ≤ 600000) ∧
    (∀ on ∈ [0, 1], (duePar 0x0702 [4, on, 0, 0] runChip).dueNow = [schedOf 0x0702 [4, on, 0, 0]]) ∧
    (refState runChip 4 1 31 0x10000064 0 RefMon.reset).refEn 4 = false ∧ (refState runChip 4 1 31 0x10000064 0 RefMon.reset).refCheck 4 = 0 ∧
    runChip.refCheck 4 ≠ 0 ∧ runChip.refEn 4 = false ∧ (refOn 4 1 31 0 RefMon.reset).refEn 4 = true ∧
    (let p := leBytes 2 1000 ++ [7, 127] ++ [1, 0, 0, 0] ++ leBytes 4 1000000 ++ leBytes 2 10000 ++ leBytes 2 600 ++ leBytes 4 9 ++ leBytes 4 0
     (duePar 0x0703 p runChip).dueNow = [schedOf 0x0703 p] ∧ (parseReq (pkt 0x0703 p)).p 0 2 ≤ 1000 ∧ (parseReq (pkt 0x0703 p)).p 3 1 < 128 ∧
       (parseReq (pkt 0x0703 p)).p 8 4 ≤ 1000000 ∧ (parseReq (pkt 0x0703 p)).p 12 2 ≤ 10000 ∧ (parseReq (pkt 0x0703 p)).p 14 2 ≤ 600) ∧
    (∀ st ∈ [0, 1, 3], (duePar 0x0704 (leBytes 4 100) (refOn 0 st 31 0 RefMon.reset)).dState = st) ∧
    (duePar 0x0704 (leBytes 4 100) runChip).dueNow = [schedOf 0x0704 (leBytes 4 100)] ∧
    (∀ v ∈ [0, 1000000000, 0xC4653600], (duePar 0x0705 (leBytes 4 v) runChip).dueNow = [schedOf 0x0705 (leBytes 4 v)] ∧
      (runChip.stepLeft + (BitVec.ofNat 32 v).toInt).natAbs ≤ 1000000000) ∧ runChip.eng.rate = some .r48 ∧
    (∀ v ∈ [(true, (0 : Byte)), (false, 0), (true, 1)],
      let c := saveAt v.1 v.2
      let p := c.reqOf 0
      c.isFresh 0 0x0707 = false ∨ (p.len = 4 ∧ p.noTick = true ∧ p.handle = 0 ∧ p.z 1 3 = true ∧ c.swapBars p = false ∧ c.dtm.model.valid = v.1)) := by
  decide +kernel

/-- The command is secure, so it comes on a channel of PF1. -/
theorem witness_DatumCommands_save :
    let c := taken runChip 4 (pkt 0x0707 [0, 0, 0, 0])
    let p := c.reqOf 4
    c.isFresh 4 0x0707 = true ∧ p.len = 4 ∧ p.noTick = true ∧ p.handle = 0 ∧ p.z 1 3 = true ∧ c.swapBars p = false ∧ p.p 0 1 = 0 ∧
      c.dtm.model.valid = false ∧ ({ c with dtm := { c.dtm with model := { c.dtm.model with valid := true } } }).dtm.model.valid = true ∧
      (taken runChip 4 (pkt 0x0707 [1, 0, 0, 0])).isFresh 4 0x0707 = true := by decide +kernel

/-- ALIGN set on a benchmark that defines a grid, a step within a switching of the sign, and a time counter that follows. -/
theorem witness_DatumCommands_align :
    (∀ v ∈ [(5, 1), (5, 2), (4, 1)],
      let c := duePar 0x0703 (leBytes 2 0 ++ [1, 0] ++ List.replicate 16 0) (refOn v.1 v.2 v.1 0xC0000000 RefMon.reset)
      c.bench = v.1 ∧ c.dState = v.2 ∧ c.regBit Reg.DTM_CTRL 12 = false ∧ c.dtm.ppsPhase = none ∧ c.eng.rate = some .r48 ∧ c.stepLeft.natAbs ≤ 1000000000 ∧
        (parseReq (pkt 0x0703 (leBytes 2 0 ++ [1, 0] ++ List.replicate 16 0))).p 2 1 = 1 ∧ c.dueNow.length = 1 ∧ ∀ k : Nat, k < 28 → c.level k = 0) ∧
    (let c := { runChip with dtm := { runChip.dtm with sinceSwitch := some 20000 } }
     c.dtm.sinceSwitch = some 20000 ∧ runChip.dtm.sinceSwitch = none ∧ (runChip.setReg Reg.DTM_STEP_LEFT 100).stepLeft + (-100) = 0) ∧
    runChip.sys.execReady = true ∧ runChip.sys.execAlive = true ∧ runChip.net.ptp.master = none ∧ runChip.refQual 4 = false ∧
    (refOn 4 1 4 0xC0000000 RefMon.reset).refQual 4 = true := by decide +kernel

def lockedChip (state : Nat) : Chip := (refOn 4 state 4 0xC0000000 RefMon.reset).setReg Reg.DTM_CTRL 0x3000

theorem witness_DatumAndTime :
    (lockedChip 2).refEn 4 = true ∧ (lockedChip 2).bench = 4 ∧ (lockedChip 2).dState = 2 ∧ (lockedChip 1).dState = 1 ∧ (lockedChip 1).bench ≠ 31 ∧
    (∀ k : Nat, k < 28 → (lockedChip 2).level k = 0) ∧
    16 * (lockedChip 2).regFld Reg.DTM_LOCK_CFG 15 0 < (0x7FFFFFFF : Word).toInt.natAbs ∧ (lockedChip 1).regBit Reg.DTM_CTRL 12 = true ∧
    (lockedChip 2).regBit Reg.DTM_CTRL 13 = true ∧ (lockedChip 1).eng.rate = some .r48 ∧ (lockedChip 3).dState = 3 ∧ (lockedChip 0).dState = 0 ∧
    (let c := { (lockedChip 3).setReg Reg.DTM_HOLD_SEC 100 with dtm := { (lockedChip 3).dtm with holdLimit := 100 } }
     c.dtm.holdLimit ≤ (c.reg Reg.DTM_HOLD_SEC).toNat ∧ c.regBit Reg.DTM_STATE 6 = false) ∧
    ((lockedChip 3).reg Reg.DTM_HOLD_SEC).toNat < (lockedChip 3).dtm.holdLimit ∧
    (((0x20000000000 : Nat) : Int) - 0x20000000000).natAbs * 2000 ≤ 0x20000000000 ∧ ¬ (((0x30000000000 : Nat) : Int) - 0x20000000000).natAbs * 2000 ≤ 0x20000000000 ∧
    (lockedChip 2).pfUp false = true := by decide +kernel

/-- The phase error and the correction at their limits for as long as LOCK_CFG asks, a standby, the servo with a master, a PPS_IN
that steers, and one record of each mean. -/
theorem witness_DatumAndTime_lock :
    (let c := { (lockedChip 1).setReg Reg.DTM_LOCK_CFG (10 * 65536 + 100) with dtm := { (lockedChip 1).dtm with lockTicks := 48000, corr := 1000000 } }
     let d := c.setReg Reg.DTM_PHASE_ERR 400
     d.dState = 1 ∧ d.bench ≠ 31 ∧ (d.reg Reg.DTM_PHASE_ERR).toInt.natAbs ≤ 4 * d.regFld Reg.DTM_LOCK_CFG 15 0 ∧
       (d.dtm.corr - 100 * (d.reg (refFREQ d.bench)).toInt).natAbs ≤ 1000000 ∧ d.eng.rate = some .r48 ∧
       d.regFld Reg.DTM_LOCK_CFG 25 16 * Rate.r48.hz ≤ 10 * d.dtm.lockTicks ∧ d.pairEn = false) ∧
    (let m : Master := { mac := 0, rank := [], ident := [], heard := 2, good := true }
     let c := refOn 5 2 5 0xC0000000 RefMon.reset
     let d := { c with net := { c.net with ptp := { c.net.ptp with cfg := [1, 0, 0, 0], master := some m } } }
     d.net.ptp.profile ≠ 0 ∧ d.net.ptp.master ≠ none ∧ d.bench = 5 ∧ d.dState = 2) ∧
    (let c := lockedChip 2
     c.sys.execReady = true ∧ c.sys.execAlive = true ∧ c.net.ptp.master = none ∧ c.refQual 4 = true ∧ c.regBit Reg.DTM_CTRL 12 = true ∧
       (let d := { c with dtm := { c.dtm with corrs := [(c.dtm.clocks, -7)], temps := [(c.dtm.clocks, 6400)] } }
        d.dtm.corrs = [(d.dtm.clocks, (-7 : Int))] ∧ d.dtm.temps = [(d.dtm.clocks, (6400 : Int))]) ∧
       { c.dtm with target := some 5 }.target = some 5 ∧ c.dtm.target = none) := by decide +kernel

/-! ## Witnesses: clocks -/

/-- A chip held in reset, the straps sampled, with the given XO monitor. -/
def heldChip (k : Clk) (stat : Word) : Chip :=
  let c := Chip.reset
  { c with regs := Map.put regReset quietRegs Reg.CLK_STAT stat, clk := k, sys := { c.sys with resetN := true } }

/-- The bits of CLK_STAT that the model reads as `fbOk` and `onFbrc`. -/
theorem witness_ClockMonitors :
    runChip.sys.railsGood = true ∧ runChip.sys.up = true ∧ runChip.fbOk = false ∧ (heldChip Clk.reset 0).sys.up = false ∧
    (heldChip Clk.reset 0).sys.resetN = true ∧ (∀ k : Nat, k < 28 → (heldChip Clk.reset 0).level k = 0) ∧ Clk.reset.fbStart = true ∧
    (1811 : BitVec 12).toNat < 1812 ∧ (1812 : BitVec 12).toNat = 1812 ∧ (2214 : BitVec 12).toNat ≤ 2214 ∧ 2214 < (2215 : BitVec 12).toNat ∧
    (let c := heldChip { Clk.reset with tripped := true, good := 15, latch := true } 0
     c.clk.tripped = true ∧ 15 ≤ c.clk.good) ∧
    455 ≤ (455 : BitVec 12).toNat ∧ (553 : BitVec 12).toNat ≤ 553 ∧ { Clk.reset with fbGood := 1 }.fbGood ≠ 0 ∧
    (let c := heldChip { Clk.reset with first := 2 } 0
     c.sys.up = false ∧ c.sys.resetN = true ∧ c.sys.railsGood = true ∧ c.sys.tapTest = false ∧ c.pwr.stage ≠ 5 ∧ c.clk.hold = false ∧ c.onFbrc = false ∧
       c.clk.first = 2) ∧ Chip.reset.sys.resetN = false ∧ (heldChip Clk.reset 0).clk.first ≠ 2 := by decide +kernel

theorem witness_ClockMonitors_fbrc : ∃ st : Word,
    let c := heldChip { Clk.reset with latch := true, hold := true } st
    c.clk.hold = true ∧ c.fbOk = true ∧ c.onFbrc = true := ⟨0xFFFFFFFF, by decide +kernel⟩

/-- Held until FBRC has qualified, and the second of its two good windows. -/
theorem witness_ClockMonitors_held :
    (let c := heldChip { Clk.reset with hold := true, first := 2 } 0
     c.clk.hold = true ∧ ¬ (c.fbOk = true ∧ c.onFbrc = true)) ∧
    (let c := heldChip { Clk.reset with hold := true, fbGood := 1 } 0
     c.fbOk = false ∧ c.clk.fbGood ≠ 0 ∧ c.clk.hold = true ∧ c.sys.up = false) ∧ 479 ≤ (479 : BitVec 12).toNat ∧ (529 : BitVec 12).toNat ≤ 529 := by
  decide +kernel

theorem witness_ClockGates :
    (∀ u : Nat, u < 23 → runChip.gateWork u = false) ∧ (runChip.setReg (Reg.CUE_CFG 1) 0x80000000).gateWork 16 = true ∧
    (runChip.setReg (Reg.SAP_TDM_CFG 15) 0x40000000).gateWork 15 = true ∧
    openHost.pfUp false = true ∧ openHost.cmd.session.isOpen = true ∧ runChip.cmd.session.isOpen = false ∧
    (∀ m : Nat, m < 4 → openHost.macEn m = false) ∧ openHost.net.streams = [] ∧ (∀ m : Nat, m < 8 → openHost.modEn m = false) ∧ openHost.dma.queue = [] ∧
    (∀ f : Nat, f < 5 → (openHost.setReg Reg.CLK_GATE_FORCE 0x1F).forced f = true) ∧ (∀ f : Nat, f < 8 → openHost.forced f = false) := by decide +kernel

theorem witness_ClockGates_dma : (∀ u : Nat, u < 23 → u ∉ runChip.dmaUnits) := by decide +kernel

/-! ## Witnesses: ports and receivers -/

/-- A due command of each opcode of ports on a chip with the given registers. -/
def portDue (op : Nat) (par : List Byte) (l : List (Nat × Word)) : Chip := duePar op par (withRegs runChip l)

/-- Format 0, word 24, width 32, frame 512, MCLK 256: passes at 48 kHz; 24 words in 16 bits; a frame that is too fast. -/
def tdmGood : Word := 0x00A41000
def tdmSlotBad : Word := 0x00241000
def tdmDivBad : Word := 0x00A43FF0

theorem witness_PortCommands :
    (∀ o ∈ [(0x0501, [15, 2, 16, 32, 24, 0] ++ leBytes 2 512 ++ leBytes 2 256 ++ List.replicate 6 0), (0x0502, [0, 15, 0, 0]), (0x0502, [4, 3, 0, 0]),
        (0x0503, [1, 7, 0, 0]), (0x0504, [15, 0, 0, 0] ++ leBytes 4 1 ++ leBytes 4 2), (0x0505, [1, 0, 0, 0, 1, 1, 0, 0]), (0x0506, []),
        (0x0508, [1, 7] ++ List.replicate 30 0), (0x0508, [2, 7] ++ List.replicate 30 0), (0x0509, [3, 3, 1, 56] ++ List.replicate 28 0)],
      (portDue o.1 o.2 []).dueNow = [schedOf o.1 o.2] ∧ (portDue o.1 o.2 []).eng.ticking = true ∧ (portDue o.1 o.2 []).eng.phase = .entry) ∧
    tdmParamsOk (parseReq (pkt 0x0501 ([15, 2, 16, 32, 24, 0] ++ leBytes 2 512 ++ leBytes 2 256 ++ List.replicate 6 0))).par = true ∧
    15 < portCount 0 ∧ 3 < portCount 4 ∧ 7 < portCount 1 ∧ runChip.eng.rate = some .r48 ∧
    runChip.portEn 0 15 = false ∧ runChip.portArmed 0 15 = false ∧
    (withRegs runChip [(Reg.SAP_TDM_CFG 15, 0x80000000)]).portEn 0 15 = true ∧ (withRegs runChip [(Reg.SAP_TDM_CFG 15, 0x40000000)]).portArmed 0 15 = true ∧
    runChip.sapForced = false ∧ (withRegs runChip [(Reg.CLK_GATE_FORCE, 1)]).sapForced = true ∧
    runChip.isArmed = false ∧ runChip.sap.release ≠ some runChip.tickN ∧ runChip.sap.pulse ≠ some (runChip.tickN + 2) := by decide +kernel

/-- R368 and R379 on three configurations: SLOT_WIDTH, DIVIDER, and one that passes. -/
theorem witness_PortCommands_check :
    (let w (v : Word) : Nat := widthBits (fld v 23 22)
     w tdmGood = 32 ∧ wordBits (fld tdmGood 21 20) = 24 ∧ fld tdmGood 13 3 = 512 ∧ w tdmSlotBad < wordBits (fld tdmSlotBad 21 20) ∧
       ¬ 2048 / Rate.r48.mult < 2 * fld tdmGood 13 3 ∧ 2048 / Rate.r48.mult < 2 * fld tdmDivBad 13 3 ∧ fld tdmDivBad 13 3 % 2 = 0) ∧
    ((withRegs runChip [(Reg.SAP_TDM_CFG 15, tdmGood)]).setBit (portCfg 0 15) 31 true).limitsHold = true := by decide +kernel

/-- A set of one port armed for START, and one for START_IN with its release and its pulse due. -/
def armedChip (src : Word) : Chip :=
  let c := withRegs runChip [(Reg.SAP_TDM_CFG 0, tdmGood ||| 0x40000000), (Reg.SAP_START_MASK, 1), (Reg.SAP_START_CFG, src)]
  { c with sap := { c.sap with release := some 5, pulse := some 7 } }

theorem witness_PortCommands_set :
    (armedChip 0x80000000).isArmed = true ∧ (armedChip 0x80000000).armed = [(0, 0)] ∧ (armedChip 0x80000000).regBit Reg.SAP_START_CFG 30 = false ∧
    (armedChip 0xC0000000).regBit Reg.SAP_START_CFG 30 = true ∧ (armedChip 0xC0000000).sap.release = some (armedChip 0xC0000000).tickN ∧
    (armedChip 0xC0000000).sap.pulse = some ((armedChip 0xC0000000).tickN + 2) ∧
    ({ armedChip 0xC0000000 with sap := { (armedChip 0).sap with release := none } }).sap.release = none ∧
    (duePar 0x0506 [] (armedChip 0x80000000)).dueNow = [schedOf 0x0506 []] ∧ runChip.armReason (armSet 1 0 0) ≠ 0 ∧
    (withRegs runChip [(Reg.SAP_TDM_CFG 0, tdmGood)]).armReason (armSet 1 0 0) = 0 := by decide +kernel

/-- A release captured by a chip that leads, by one that follows its owner, and none. -/
def followingChip : Chip :=
  let c := armedChip 0xE0000000
  let b : Beat := { flags := 1, engine := 0, shed := 0, tick := 0, sigs := [], releaseAt := 0, startRel := 0, slip := 0, txOfs := 0, rxOfs := 0, image := 0 }
  { c with sys := { c.sys with straps := 6 }, pair := { c.pair with owner := false, present := true, beat := some b } }

theorem witness_PortCommands_follow :
    (let c := armedChip 0xE0000000
     let d := { c with sap := { c.sap with release := none, captured := some c.tickN } }
     d.sap.captured = some d.tickN ∧ d.followsOwner = false ∧ d.isArmed = true) ∧
    (∀ c ∈ [armedChip 0xE0000000, followingChip], let d := { c with sap := { c.sap with release := none, captured := none } }
      d.isArmed = true ∧ d.regBit Reg.SAP_START_CFG 30 = true ∧ d.regBit Reg.SAP_START_CFG 29 = true ∧ d.sap.release = none ∧ d.sap.captured = none ∧
        d.eng.ticking = true) ∧
    followingChip.followsOwner = true ∧ (armedChip 0xE0000000).followsOwner = false := by decide +kernel

def rxChip (k : Nat) (stat : Word) (x : Rx) : Chip :=
  let c := withRegs runChip [(portCfg (if k < 8 then 1 else 3) (if k < 8 then k else k - 8), 0x80000000), (rxStat k, stat)]
  c.setRx k x

theorem witness_ReceiversAndCue :
    (let c := withRegs runChip [(Reg.SAP_TDM_CFG 15, tdmGood ||| 0xA0000000)]
     let d := { c with sap := { c.sap with tdm := [(15, { TdmPort.reset with rxMask := 0x8001 })] } }
     d.portEn 0 15 = true ∧ d.eng.ticking = true ∧ d.level 2 = 0 ∧ (d.tdm 15).rxMask.getLsbD 15 = true ∧ 15 < tdmSlots (d.reg (Reg.SAP_TDM_CFG 15)) ∧
       ¬ (d.tdm 15).rxMask.getLsbD 1 = true ∧ ¬ 16 < tdmSlots (d.reg (Reg.SAP_TDM_CFG 15)) ∧ (d.inCh 480).got = 0) ∧
    runChip.portEn 0 15 = false ∧
    (∀ k ∈ [0, 7, 8, 11], (rxChip k 0x80000000 Rx.reset).rxEn k = true ∧ (rxChip k 0x80000000 Rx.reset).rxLock k = true ∧
      (rxChip k 0 Rx.reset).rxLock k = false ∧ runChip.rxEn k = false) ∧
    (∀ k : Nat, k < 28 → (rxChip 0 0 { Rx.reset with good := 15 }).level k = 0) ∧ ((rxChip 0 0 { Rx.reset with good := 15 }).rx 0).good + 1 = 16 ∧
    ((rxChip 0 0x80000000 { Rx.reset with bad := 3 }).rx 0).bad + 1 = 4 ∧
    8 ≤ ((rxChip 0 0x80000000 { Rx.reset with slip := List.replicate 8 [1, 2] }).rx 0).slip.length ∧
    (let p : RxPair := { RxPair.reset with burst := true, since := 65536 }
     let c := rxChip 11 0 { Rx.reset with pairs := [(31, p)] }
     (Map.get rxPair0 (c.rx 11).pairs 31).burst = true ∧ c.naHold 11 ≤ (Map.get rxPair0 (c.rx 11).pairs 31).since) ∧
    (Map.get rxPair0 (runChip.rx 11).pairs 31).burst = false ∧
    (let c := withRegs runChip [(Reg.SAP_MADITX_CFG 3, 0x80000000)]
     c.portEn 4 3 = true ∧ c.smux (c.reg (Reg.SAP_MADITX_CFG 3)) = false ∧ c.eng.rate = some .r48 ∧
       1000000000 < 4 * (5209 : Word).toNat * Rate.r48.hz ∧ ¬ 1000000000 < 4 * (5208 : Word).toNat * Rate.r48.hz) := by decide +kernel

/-- A frame of a port whose chip owns, and the three sides of the half of a tick where it does not; a slot that is cut, and the
limits of the rate. -/
theorem witness_ReceiversAndCue_edges :
    (let c := withRegs runChip [(Reg.SAP_TDM_CFG 15, tdmGood ||| 0xA0000000)]
     let d := { c with pair := { c.pair with owner := false } }
     let e := { c with pair := { c.pair with owner := true } }
     e.owns = true ∧ d.owns = false ∧ d.datumCycles = 2048 ∧ d.portEn 0 15 = true ∧
       ([-1025, -1024, 1023, 1024].map (fun v : Int => if 2 * (BitVec.ofInt 16 v).toInt < -2048 then 0 else if 2 * (BitVec.ofInt 16 v).toInt < 2048 then 1 else 2)) =
         [0, 1, 1, 2] ∧ 2 * fld (c.reg (Reg.SAP_TDM_CFG 15)) 13 3 ≤ 2048 ∧ ¬ 2 * fld tdmDivBad 13 3 ≤ 2048) ∧
    (∀ v ∈ [(48000000, true), (48048000, true), (47952000, true), (48048001, false)],
      decide (1000 * (((BitVec.ofNat 32 v.1).toNat : Int) - (1000 * Rate.r48.hz : Nat)).natAbs ≤ 1000 * Rate.r48.hz) = v.2) ∧
    (let c := { runChip with eng := { runChip.eng with rate := some .r96 } }
     c.smux 0x80000000 = true ∧ c.smux 0xA0000000 = false) ∧
    [59, 60, 110, 160, 200, 290, 400, 560, 800, 50000, 100000, 100001].map (fun r : Nat =>
      if r < 60 then 0 else if 110 ≤ r ∧ r ≤ 160 then 1 else if 200 ≤ r ∧ r ≤ 290 then 2 else if 400 ≤ r ∧ r ≤ 560 then 3
        else if 800 ≤ r ∧ r ≤ 50000 then 4 else if 100000 < r then 5 else 6) = [0, 6, 1, 1, 2, 2, 3, 3, 4, 4, 6, 5] := by decide +kernel

def cueChip (cfg stat : Word) (u : Cue) : Chip :=
  let c := withRegs runChip [(Reg.CUE_CFG 1, cfg), (Reg.CUE_STAT 1, stat)]
  { c with cues := [(1, u)] }

theorem witness_ReceiversAndCue_cue :
    (∀ par ∈ [[1, 1] ++ leBytes 2 2 ++ leBytes 2 120 ++ [0, 0], [0, 0] ++ leBytes 2 100 ++ leBytes 2 5 ++ [0, 0]],
      let c := taken runChip 0 (pkt 0x0C01 par)
      let r := c.reqOf 0
      c.isFresh 0 0x0C01 = true ∧ r.len = 8 ∧ r.noTick = true ∧ r.handle = 0 ∧ r.p 0 1 < 2 ∧ r.p 1 1 ≤ 1 ∧ 2 ≤ r.p 2 2 ∧ r.p 2 2 ≤ 100 ∧ 5 ≤ r.p 4 2 ∧
        r.p 4 2 ≤ 120 ∧ r.z 6 2 = true ∧ c.regBit Reg.CLK_GATE_FORCE 1 = false) ∧
    (let c := cueChip 0x80050002 0xB0000000 { Cue.reset with detRun := 1 }
     c.regBit (Reg.CUE_CFG 1) 31 = true ∧ c.regBit Reg.CLK_GATE_FORCE 1 = false ∧ c.regFld (Reg.CUE_CFG 1) 7 0 = 2 ∧ (c.cue 1).detRun + 1 = 2 ∧
       c.regBit (Reg.CUE_STAT 1) 31 = true ∧ c.regFld (Reg.CUE_STAT 1) 30 28 = 3 ∧ c.regFld (Reg.CUE_STAT 1) 17 14 = 0 ∧
       c.regFld (Reg.CUE_STAT 1) 27 27 = 0) ∧
    runChip.regBit (Reg.CUE_CFG 1) 31 = false ∧
    (let c := cueChip 0x80050002 0x90000000 { Cue.reset with classMs := 500 }
     c.regFld (Reg.CUE_STAT 1) 30 28 = 1 ∧ 500 ≤ (c.cue 1).classMs) ∧
    (let c := cueChip 0x80050002 0xB0004000 { Cue.reset with heldMs := 5000 }
     c.regFld (Reg.CUE_STAT 1) 17 14 ≠ 0 ∧ c.regFld (Reg.CUE_STAT 1) 21 18 = 0 ∧ 1000 * c.regFld (Reg.CUE_CFG 1) 23 16 ≤ (c.cue 1).heldMs) := by
  decide +kernel

theorem witness_ReceiversAndCue_drives : runChip.cueDrives = true ∨ runChip.cueDrives = false := by decide +kernel

/-! ## Witnesses: the network -/

/-- MAC 0 enabled with VLAN 0 and broadcast taken, and a ring of 4 entries. -/
def macRegs : List (Nat × Word) :=
  [(Reg.NET_MAC_CFG 0, 0x940005EE), (Reg.NET_MAC_STAT 0, 0x80000000), (Reg.NET_RXQ_SIZE 0, 0x00070004)]

def netChip : Chip := withRegs runChip macRegs

def macPar (m max : Nat) : List Byte := [BitVec.ofNat 8 m, 0, 0, 1] ++ leBytes 2 max ++ leBytes 2 0 ++ [2, 0, 0, 0, 0, 1] ++ List.replicate 50 0

/-- Receive stream: format 0, one channel, 3 samples a packet at 48 kHz, PT 96, depth 16, one leg on MAC 0 to 239.0.0.1:5004. -/
def rxCfg : List Byte :=
  [0, 0, 0, 1, 0, 0, 3, 2, 96, 1] ++ leBytes 2 16 ++ List.replicate 12 0 ++ [0, 4] ++ leBytes 2 5004 ++ [239, 0, 0, 1] ++ List.replicate 64 0

def strmChip (en : Bool) (k : Nat) : Chip := netChip.setStream k { Stream.reset with cfg := rxCfg, en := en }

theorem witness_NetCommands :
    (∀ o ∈ [(0x0601, macPar 3 9216), (0x0601, macPar 0 1518), (0x0602, [0, 1, 0, 0]), (0x0602, [0, 0, 0, 0]), (0x0603, [0, 1] ++ List.replicate 70 0),
        (0x0604, [255, 1] ++ rxCfg.drop 2), (0x0605, [255, 1] ++ List.replicate 78 0), (0x0606, [0, 0, 0, 0]), (0x0606, [255, 1, 1, 0]), (0x0607, [0, 0, 0, 0]),
        (0x060A, List.replicate 32 0)], (duePar o.1 o.2 netChip).dueNow = [schedOf o.1 o.2]) ∧
    netChip.macEn 0 = true ∧ runChip.macEn 0 = false ∧ 1518 ≤ netChip.maxFrame 0 ∧ (withRegs runChip [(Reg.NET_MAC_CFG 0, 1517)]).maxFrame 0 < 1518 ∧
    ((strmChip false 0).stream 0).en = false ∧ ((strmChip true 511).stream 511).en = true ∧ (strmChip false 0).streamCheck 0 = 0 ∧
    (strmChip false 0).forced 2 = false ∧ ((strmChip false 0).setReg Reg.CLK_GATE_FORCE 4).forced 2 = true ∧ netChip.streamCheck 1023 ≠ 0 ∧
    netChip.eng.rate = some .r48 ∧ (netChip.stream 7).rate ≠ some .r48 := by decide +kernel

/-- The servo off while its reference is enabled, and a frame to send whose unit is forced closed. -/
theorem witness_NetCommands_forced :
    (let c := duePar 0x060A (List.replicate 32 0) (refOn 5 1 31 0 RefMon.reset)
     c.refEn 5 = true ∧ (c.mon 5).tripped = false ∧ c.dState ≠ 4 ∧ (∀ k : Nat, k < 28 → c.level k = 0) ∧
       (parseReq (pkt 0x060A (List.replicate 32 0))).p 0 1 = 0) ∧
    ((withRegs runChip [(Reg.CLK_GATE_FORCE, 4)]).forced 2 = true ∧ (withRegs runChip [(Reg.CLK_GATE_FORCE, 4)]).macEn 0 = false) := by decide +kernel

/-- A raw frame of 14 header bytes and a segmented one of two segments. -/
def sendPar (kind seg n : Nat) (h : List Byte) : List Byte :=
  [0, BitVec.ofNat 8 kind] ++ leBytes 2 h.length ++ leBytes 2 seg ++ leBytes 2 0 ++ leBytes 8 4096 ++ leBytes 4 n ++ List.replicate 12 0 ++ h

def rawHead : List Byte := List.replicate 12 2 ++ [0x88, 0xB5]
def segHead : List Byte := List.replicate 12 2 ++ [8, 0] ++ ip4Header 0 28 0 0 64 [10, 0, 0, 1] [10, 0, 0, 2] ++ beBytes 2 9 ++ beBytes 2 9 ++ [0, 0, 0, 0]

theorem witness_NetCommands_send :
    (∀ par ∈ [sendPar 0 0 100 rawHead, sendPar 1 64 65 segHead],
      let c := taken netChip 0 (pkt 0x0609 par)
      c.isFresh 0 0x0609 = true ∧ c.chkNetSend (c.reqOf 0) = 0) ∧
    (∀ j ∈ tilesOf 4096 100, netChip.mem.fails .dram j = false ∧ marked (netChip.mem.entry .dram j) = false) ∧
    (let c := taken netChip 0 (pkt 0x0609 (sendPar 0 1 100 rawHead))
     c.chkNetSend (c.reqOf 0) ≠ 0) ∧
    (let n : Net := { netChip.net with sends := [⟨0, 3, true⟩], queue := [⟨0, 2, [1], 5⟩] }
     n.sends.find? (fun z => z.ch == 0) = some ⟨0, 3, true⟩ ∧ (∀ f ∈ n.queue, ¬ (f.kind = 2 ∧ f.src = 0)) ∧ (∃ f ∈ n.queue, f.kind = 2 ∧ f.src = 5)) ∧
    netChip.net.sends.find? (fun z => z.ch == 0) = none := by decide +kernel

theorem witness_NetCommands_send_forced :
    let c := (taken netChip 0 (pkt 0x0609 (sendPar 0 0 100 rawHead))).setReg Reg.CLK_GATE_FORCE 4
    c.isFresh 0 0x0609 = true ∧ c.chkNetSend (c.reqOf 0) = 0 ∧ c.forced 2 = true := by decide +kernel

/-- A frame with its FCS. -/
def framed (f : List Byte) : List Byte := f ++ leBytes 4 (crc32 f).toNat

/-- To MAC 0's address, or to everyone, with the EtherType and 46 bytes more. -/
def ethFrame (dst : Byte) (et : Nat) : List Byte := framed (List.replicate 6 dst ++ List.replicate 6 2 ++ beBytes 2 et ++ List.replicate 46 7)

def rtpOf (ts : Nat) : List Byte := [0x80, 96, 0, 1] ++ beBytes 4 ts ++ beBytes 4 0 ++ [1, 2, 3, 4, 5, 6]

def rtpPart (ts : Nat) : List Byte := udpPart [10, 0, 0, 1] [239, 0, 0, 1] 5004 5004 (rtpOf ts)

def rtpFrame (ts : Nat) : List Byte :=
  framed (List.replicate 6 0 ++ List.replicate 6 2 ++ [8, 0] ++ ip4Header 0 46 0 0 64 [10, 0, 0, 1] [239, 0, 0, 1] ++ rtpPart ts)

set_option maxRecDepth 100000 in
/-- A frame for each step of R396: too short, too long, a wrong FCS, another address, PAUSE, and one that is taken. -/
theorem witness_NetFrames_steps :
    netChip.macEn 0 = true ∧ netChip.forced 2 = false ∧ netChip.level 13 = 0 ∧ netChip.level 14 = 0 ∧ netChip.level 15 = 0 ∧
    [63, 64, 1518, 1519].map (fun n => decide (64 ≤ n) && decide (n ≤ netChip.maxFrame 0)) = [false, true, true, false] ∧
    (let ok (b : List Byte) : Bool := decide (b.length = 64) && decide (crc32 (b.take 60) = BitVec.ofNat 32 (leField b 60 4))
     ok (ethFrame 0 0x88B5) = true ∧ ok ((ethFrame 0 0x88B5).take 63 ++ [0xEE]) = false ∧ ok (ethFrame 4 0x88B5) = true ∧ ok (ethFrame 0 0x8808) = true ∧
       (rtpFrame 0).length = 64 ∧ ok (rtpFrame 0) = true) ∧
    (netChip.reg (Reg.NET_MAC_CFG 0)).getLsbD 26 = true ∧ (netChip.reg (Reg.NET_MAC_CFG 0)).getLsbD 28 = true ∧
    beField ((ethFrame 0 0x88B5).take 60) 12 2 ≠ 0x8100 ∧ (ethFrame 0 0x88B5).take 6 = netChip.macAddr 0 ∧ (ethFrame 4 0x88B5).take 6 ≠ netChip.macAddr 0 ∧
    (ethHeader ((ethFrame 0 0x8808).take 60)).2 = 0x8808 ∧ (ethHeader ((ethFrame 0 0x88B5).take 60)).2 ≠ 0x8808 ∧
    parseUdp ((ethFrame 0 0x88B5).take 60) 14 0x88B5 = none ∧ runChip.macEn 0 = false := by decide +kernel

/-- The ring not full and full; a packet whose samples lie 0, 1 and 2 ticks ahead, and one that fails R407. -/
theorem witness_NetFrames_packet :
    netChip.regFld (Reg.NET_RXQ_SIZE 0) 15 0 = 4 ∧ (0 + 1) % 4 ≠ 0 ∧ (3 + 1) % 4 = 0 ∧
    (let c := strmChip true 0
     let z := c.stream 0
     let ts := (c.mediaCount c.tickN (z.offset false))
     let u : Udp := { ver := 4, src := [10, 0, 0, 1], dst := [239, 0, 0, 1], sport := 5004, dport := 5004, part := rtpPart ts }
     parseUdp ((rtpFrame ts).take 60) 14 0x0800 = some u ∧ c.legOf 0 u = some (0, 0) ∧ z.spp = some 3 ∧ rtpPayload (u.part.drop 8) = some [1, 2, 3, 4, 5, 6] ∧
       u.good = true ∧ beField (u.part.drop 8) 0 1 / 64 = 2 ∧ 12 ≤ (u.part.drop 8).length ∧ z.flags.testBit 0 = true ∧
       beField (u.part.drop 8) 1 1 % 128 = z.pt ∧ 6 = 3 * z.ch * fmtW z.fmt ∧ z.depth = 16 ∧
       ({ z with cfg := rxCfg.set 8 97 } : Stream).pt ≠ beField (u.part.drop 8) 1 1 % 128) := by decide +kernel

def txChip (kind : Nat) (link : Bool) : Chip :=
  let c := if link then netChip else netChip.setReg (Reg.NET_MAC_STAT 0) 0
  { c with net := { c.net with queue := [⟨1, 0, [1], 0⟩, ⟨0, kind, List.replicate 60 1, 0⟩] } }

def ptpChip (profile : Byte) : Chip :=
  let m : Master := { mac := 0, rank := [1], ident := [1], heard := 0, good := true }
  { netChip with net := { netChip.net with ptp := { Ptp.reset with cfg := profile :: List.replicate 31 0, masters := [m], master := some m } } }

theorem witness_NetFrames_other :
    (∀ k ∈ [0, 1, 2], (txChip k true).nextFrame 0 = some ⟨0, k, List.replicate 60 1, 0⟩ ∧ (txChip k true).macLink 0 = true ∧ (txChip k true).macEn 0 = true) ∧
    (txChip 0 false).macLink 0 = false ∧ netChip.nextFrame 0 = none ∧
    (let c := netChip.setReg (Reg.NET_RXQ_HEAD 0) 2
     c.pfUp false = true ∧ (2 : Word).toNat % 4096 < c.regFld (Reg.NET_RXQ_SIZE 0) 15 0 ∧
       ((2 + 4 - 0) % 4 ≤ (2 + 4 - 0) % 4) ∧ ¬ ((3 + 4 - 0) % 4 ≤ (2 + 4 - 0) % 4) ∧ (c.reg (Reg.NET_RXQ_TAIL 0)).toNat = 0) ∧
    (ptpChip 1).net.ptp.master.isSome = true ∧ (ptpChip 1).net.ptp.profile ≠ 0 ∧ (ptpChip 0).net.ptp.profile = 0 ∧ netChip.net.ptp.master = none := by
  decide +kernel

/-- A PTP message to the multicast address, in a frame to MAC 0. -/
def ptpFrame (p : List Byte) : List Byte :=
  framed (List.replicate 6 0 ++ List.replicate 6 2 ++ [8, 0] ++ ip4Header 0 (28 + p.length) 0 0 64 [10, 0, 0, 1] [224, 0, 1, 129] ++
    udpPart [10, 0, 0, 1] [224, 0, 1, 129] 320 320 p)

def announceMsg : List Byte := [0x0B, 2] ++ List.replicate 62 0
def delayRespMsg : List Byte := [0x09, 2] ++ List.replicate 28 0 ++ [0, 0] ++ List.replicate 12 0 ++ List.replicate 8 0 ++ [0, 1]

def ptpFull : Chip :=
  let m : Master := { mac := 0, rank := [1], ident := List.replicate 10 0, heard := 0, good := true }
  { netChip with net := { netChip.net with
      ptp := { Ptp.reset with cfg := [1, 0, 1, 0] ++ List.replicate 28 0, masters := [m], master := some m, asked := true, origin := some 0, seq := 1 } } }

set_option maxRecDepth 100000 in
theorem witness_NetFrames_ptp :
    (∀ msg ∈ [announceMsg, delayRespMsg],
      let b := ptpFrame msg
      let f := b.take (b.length - 4)
      let u : Udp := { ver := 4, src := [10, 0, 0, 1], dst := [224, 0, 1, 129], sport := 320, dport := 320, part := udpPart [10, 0, 0, 1] [224, 0, 1, 129] 320 320 msg }
      64 ≤ b.length ∧ b.length ≤ ptpFull.maxFrame 0 ∧ crc32 f = BitVec.ofNat 32 (leField b (b.length - 4) 4) ∧ f.take 6 = ptpFull.macAddr 0 ∧
        parseUdp f (ethHeader f).1 (ethHeader f).2 = some u ∧ ptpFull.legOf 0 u = none ∧ ptpFull.ptpFor 0 u = true ∧ u.part.drop 8 = msg ∧
        34 ≤ msg.length ∧ beField msg 4 1 = ptpFull.net.ptp.domain) ∧
    beField announceMsg 0 1 % 16 = 11 ∧ beField delayRespMsg 0 1 % 16 = 9 ∧ beField announceMsg 61 2 < 255 ∧
    (∃ y : Master, ptpFull.net.ptp.master = some y ∧ y.mac = 0 ∧ y.ident = bytesFrom delayRespMsg 20 10) ∧ ptpFull.net.ptp.asked = true ∧
    ptpFull.net.ptp.origin = some 0 ∧ 54 ≤ delayRespMsg.length ∧ bytesFrom delayRespMsg 44 10 = bytesFrom ptpFull.net.ptp.cfg 8 8 ++ beBytes 2 1 ∧
    beField delayRespMsg 30 2 = (ptpFull.net.ptp.seq - 1).toNat := by
  refine ⟨by decide +kernel, by decide +kernel, by decide +kernel, by decide +kernel, ⟨_, rfl, by decide +kernel⟩, by decide +kernel⟩

/-! ## Witnesses: the drive -/

/-- Module 7 with limits of 300 kHz to 500 kHz, PREF 384 kHz, MIN_PULSE 5, a minimal rail of 100 and two retries. -/
def drvCfg : List Byte :=
  [7, 1] ++ leBytes 2 384 ++ leBytes 2 300 ++ leBytes 2 500 ++ List.replicate 8 0 ++ leBytes 2 1 ++ leBytes 2 0 ++ leBytes 2 1 ++ leBytes 2 0 ++ List.replicate 5 0 ++
    [5, 0, 0] ++ leBytes 4 2000 ++ leBytes 4 9000 ++ [0, 0, 2, 0]

def modOf (period stop : Nat) : DrvMod := { DrvMod.reset with cfg := drvCfg, period := period, stop := stop }

/-- Module 7 running with 8 periods a tick, channel 63 in state `st`. -/
def drvChip (st : Nat) (m : DrvMod) (k : DrvCh) : Chip :=
  let c := withRegs runChip [(Reg.DRV_MOD_CTRL 7, 0xC2000000), (Reg.DRV_CH_STAT 63, BitVec.ofNat 32 (st * 2 ^ 28))]
  { c with drv := { c.drv with mods := [(7, m)], chans := [(63, k)] } }

theorem witness_DriveCommands :
    (∀ o ∈ [(0x0801, drvCfg), (0x0802, [1, 0, 0, 0] ++ leBytes 4 100000 ++ leBytes 4 1000000), (0x0802, [16, 0, 0, 0] ++ leBytes 4 0 ++ List.replicate 64 0),
        (0x0803, [7, 128, 0, 0]), (0x0804, [7, 128, 0, 0]), (0x0806, [7, 128, 0, 0])], (duePar o.1 o.2 runChip).dueNow = [schedOf o.1 o.2]) ∧
    runChip.modEn 7 = false ∧ (drvChip 0 (modOf 0 0) DrvCh.reset).modEn 7 = true ∧ (drvChip 0 (modOf 0 0) DrvCh.reset).regBit (Reg.DRV_MOD_CTRL 7) 30 = true ∧
    ((drvChip 0 (modOf 0 0) DrvCh.reset).setReg (Reg.DRV_MOD_CTRL 7) 0x80000000).regBit (Reg.DRV_MOD_CTRL 7) 30 = false ∧
    (∀ st ∈ [0, 1, 2, 3, 5, 6, 7, 10], (drvChip st (modOf 0 0) DrvCh.reset).drvState 63 = st) ∧ runChip.eng.rate = some .r48 := by decide +kernel

theorem witness_DriveCommands_carrier :
    ((drvChip 0 (modOf 0 0) DrvCh.reset).carrierFor 7 .r48).isSome = true ∧ runChip.carrierFor 7 .r48 = none := by decide +kernel

/-- A channel that ramps down untripped, and one whose trip waits. -/
theorem witness_DriveCommands_ramps :
    (let c := drvChip 3 (modOf 0 0) DrvCh.reset
     c.drvState 63 = 3 ∧ ¬ ((c.drvCh 63).trip = true ∨ (c.drvCh 63).dc = true)) ∧
    (let c := drvChip 6 (modOf 0 0) { DrvCh.reset with trip := true }
     c.drvState 63 = 6 ∧ (c.drvCh 63).trip = true) ∧ ((drvChip 0 (modOf 0 0) DrvCh.reset).setReg Reg.CLK_GATE_FORCE 8).forced 3 = true ∧
    (drvChip 0 (modOf 0 0) DrvCh.reset).forced 3 = false := by decide +kernel

/-- A command of each of the three units falls due while its unit is force-gated. -/
theorem witness_DriveCommands_forced :
    ∀ v ∈ [(0x0501, 0), (0x0509, 0), (0x0601, 2), (0x0607, 2), (0x0801, 3), (0x0806, 3)],
      let c := duePar v.1 (List.replicate 44 0) (runChip.setReg Reg.CLK_GATE_FORCE 15)
      c.dueNow = [schedOf v.1 (List.replicate 44 0)] ∧ c.forced v.2 = true ∧ c.eng.phase = .entry := by decide +kernel

def senseBytes (seq rail : Nat) : List Byte :=
  let b := leBytes 1 seq ++ [3] ++ leBytes 2 rail ++ List.replicate 36 0
  b ++ leBytes 2 (crc16 b)

theorem witness_DriveEvents :
    (let c := drvChip 2 (modOf 0 0) { DrvCh.reset with trip := true }
     c.eng.rate = some .r48 ∧ c.eng.ticking = true ∧ c.regBit (Reg.DRV_MOD_CTRL 7) 30 = true ∧ (c.drvMod 7).period < c.drvM 7 ∧ (c.drvMod 7).stop ≠ 1 ∧
       (∀ k : Nat, k < 28 → c.level k = 0) ∧ (c.drvCh 63).trip = true ∧ c.drvState 63 = 2 ∧ (c.drvMod 7).field 42 1 = 2) ∧
    (drvChip 6 (modOf 0 0) { DrvCh.reset with dc := true }).drvState 63 = 6 ∧ (modOf 0 1).stop = 1 ∧ (modOf 0 1).restart = 0 ∧
    (drvChip 2 (modOf 8 0) DrvCh.reset).drvM 7 ≤ ((drvChip 2 (modOf 8 0) DrvCh.reset).drvMod 7).period ∧
    (∀ n ∈ [7, 8, 64 * 8 + 6, 64 * 8 + 7], (drvChip 1 (modOf 0 0) { DrvCh.reset with n := n }).drvState 63 = 1 ∧ (modOf 0 0).low = false) ∧
    (let b := senseBytes 0 99
     b.length = 42 ∧ leField b 40 2 = crc16 (b.take 40) ∧ leField b 2 2 = 99) ∧
    (modOf 0 0).seq = none ∧ ({ modOf 0 0 with seq := some 255 } : DrvMod).seq = some 255 ∧ (0 : Nat) = (255 + 1) % 256 ∧
    (let c := drvChip 5 (modOf 0 0) { DrvCh.reset with waitTick := 5 }
     c.drvState 63 = 5 ∧ (c.drvCh 63).waitTick ≤ c.tickN ∧ c.pwr.stage = 0 ∧ c.regBit (Reg.DRV_MOD_CTRL (63 / 8)) 30 = true) ∧
    (drvChip 6 (modOf 0 0) { DrvCh.reset with measuring := true }).drvState 63 = 6 ∧ 0 < ({ DrvCh.reset with vN := 1 } : DrvCh).vN ∧ DrvCh.reset.vN = 0 ∧
    (drvChip 2 (modOf 0 0) DrvCh.reset).pilotOn 63 = true ∧ (999 : Word).toNat < 1000 ∧ 1000 ≤ (1000 : Word).toNat ∧ (modOf 0 0).field 32 4 = 2000 ∧ (modOf 0 0).field 36 4 = 9000 := by decide +kernel

theorem witness_DriveEvents_rail :
    (let m : DrvMod := { modOf 0 0 with low := true }
     let c := (drvChip 2 m DrvCh.reset).setReg (Reg.DRV_MOD_RAIL 7) 0xFFFF0000
     (c.drvMod 7).low = true ∧ 105 * (c.drvMod 7).pvddMin < 100 * c.regFld (Reg.DRV_MOD_RAIL 7) 31 16) ∧
    (drvChip 2 (modOf 0 0) DrvCh.reset).senseOk 7 = false ∧ ((drvChip 2 (modOf 0 0) DrvCh.reset).setBit (Reg.DRV_MOD_CTRL 7) 29 true).modEn 7 = true := by
  decide +kernel

/-- Sense frames before every edge of the tick and after its first and its last, a link that comes back, and one that goes. -/
theorem witness_DriveEvents_sense :
    (let c := drvChip 2 (modOf 0 0) DrvCh.reset
     c.forced 3 = false ∧ (c.setReg Reg.CLK_GATE_FORCE 8).forced 3 = true ∧ (4 : Nat) / Rate.r48.mult = 4 ∧
       (∀ n : Nat, n < 4 → (0 : Half).toNat ≤ n * c.drvCycles .r48 / 4) ∧
       (0 * c.drvCycles .r48 / 4 < (1 : Half).toNat ∧ ∀ h : Nat, h < 4 → 0 < h → (1 : Half).toNat ≤ h * c.drvCycles .r48 / 4) ∧
       3 * c.drvCycles .r48 / 4 < (0xFFFF : Half).toNat) ∧
    (let m : DrvMod := { modOf 0 9 with valid := 2, hold := true, restart := 128 }
     let c := (drvChip 0 m DrvCh.reset).setBit (Reg.DRV_MOD_CTRL 7) 30 false
     c.senseOk 7 = false ∧ 2 ≤ (c.drvMod 7).valid ∧ c.modEn 7 = true ∧ (c.drvMod 7).hold = true ∧ (c.drvMod 7).restart.testBit 7 = true ∧
       c.drvState (8 * 7 + 7) = 0) ∧
    (let c := drvChip 1 (modOf 0 0) DrvCh.reset
     let d := c.setReg (Reg.DRV_MOD_CTRL 7) 0xF2000000
     d.senseOk 7 = true ∧ d.modEn 7 = true ∧ d.drvState 63 = 1) ∧
    (∀ m ∈ [{ modOf 0 1 with hold := true }, { modOf 0 1 with restart := 1 }, modOf 0 1], (m : DrvMod).stop = 1 ∧ m.period < (drvChip 2 m DrvCh.reset).drvM 7) := by
  decide +kernel

theorem witness_DriveEvents_pilot :
    let c := drvChip 6 (modOf 0 0) { DrvCh.reset with measuring := true }
    c.drvState 63 = 6 ∧ (c.drvCh 63).measuring = true ∧ c.pilotOn 63 = true := by decide +kernel

/-! ## Witnesses: the pair -/

/-- A chip of a pair, unit A, in pair state `st`. -/
def pairChip (st : Nat) (p : Pair) : Chip :=
  let c := withRegs runChip [(Reg.PAIR_STAT, BitVec.ofNat 32 (st * 2 ^ 28))]
  { c with sys := { c.sys with straps := 6 }, pair := p }

/-- A heartbeat of `tick`, as a frame with its CRC and as it is read. -/
def beatFrame (tick : Nat) : List Byte :=
  let b := [1, 1, 2, 0] ++ leBytes 8 tick ++ List.replicate 112 0
  b ++ leBytes 4 (crc32c b).toNat

def beatOf (tick : Nat) (flags : Nat) : Beat :=
  { flags := flags, engine := 2, shed := 0, tick := BitVec.ofNat 64 tick, sigs := List.replicate 9 0, releaseAt := 0, startRel := 0, slip := 0, txOfs := 0,
    rxOfs := 0, image := 1 }

def sigsOf (v : Word) : Sigs := { tick := 4, sigs := v :: List.replicate 8 0, engine := 2, settled := 15, shed := 0, fade := false, image := 1 }

def linked : Pair := { Pair.reset with linkUp := true, resynced := true }

set_option maxRecDepth 100000 in
theorem witness_PairLink :
    (pairChip 1 Pair.reset).pairEn = true ∧ (pairChip 1 Pair.reset).sys.up = true ∧ (pairChip 1 Pair.reset).pairId = false ∧ runChip.pairEn = false ∧
    (pairChip 1 linked).pair.linkUp = true ∧ (pairChip 1 linked).pair.incompat = false ∧ (pairChip 1 Pair.reset).pair.linkUp = false ∧
    (beatFrame 4).length = 128 ∧ leField (beatFrame 4) 0 1 = 1 ∧ leField (beatFrame 4) 124 4 = (crc32c ((beatFrame 4).take 124)).toNat ∧
    leField ((beatFrame 4).take 127 ++ [1]) 124 4 ≠ (crc32c ((beatFrame 4).take 124)).toNat ∧
    (∀ k : Nat, k < 28 → (pairChip 3 linked).level k = 0) ∧ (pairChip 3 linked).eng.ticking = true ∧ (pairChip 3 linked).pairState = 3 ∧
    (beatOf 4 0).tick.toNat + 1 = (pairChip 3 linked).tickN ∧ (beatOf 3 0).tick.toNat + 1 ≠ (pairChip 3 linked).tickN ∧
    ((pairChip 3 linked).reg Reg.PAIR_PHASE).toInt.natAbs ≤ 400 ∧ (beatOf 4 0).image = (pairChip 3 linked).imageId ∧ (pairChip 3 linked).gap = false ∧
    (beatOf 4 0).flags.testBit 5 = false ∧ linked.resynced = true ∧ (beatOf 4 16).flags.testBit 4 = true ∧
    (sigsOf 0).tick = (beatOf 4 0).tick ∧ (sigsOf 0).engine = 2 ∧ (beatOf 4 0).engine % 16 = 2 ∧ (sigsOf 0).image = (beatOf 4 0).image ∧
    (sigsOf 1).sigs.getD 0 0 ≠ (beatOf 4 0).sigs.getD 0 0 := by decide +kernel

/-- The takeovers, the release of each kind and the planned one, at their boundary 5. -/
theorem witness_PairLink_ownership :
    (let p : Pair := { linked with takeAt := some 5 }
     p.takeAt = some (pairChip 3 p).tickN ∧ p.owner = false ∧ p.sameId = false ∧ (pairChip 3 p).eng.phase = .entry) ∧
    (let p : Pair := { linked with owner := true, left := false }
     p.left = false ∧ p.owner = true) ∧ linked.left = true ∧ (pairChip 3 linked).pwr.stage ≠ 5 ∧ (pairChip 3 linked).flt.resets = [] ∧ linked.ownIn = false ∧
    (∀ o ∈ [true, false], ∀ h ∈ [none, some 0, some 8], let p : Pair := { linked with owner := o, releaseAt := some 5, takeAck := true, handover := h }
      p.releaseAt = some (pairChip 3 p).tickN ∧ p.takeAck = true ∧ p.handover = h) ∧
    (let p : Pair := { linked with owner := true, releaseAt := some 6, fresh := true, beat := some (beatOf 4 16) }
     p.releaseAt = some ((pairChip 3 p).tickN + 1) ∧ p.fresh = true) ∧
    (∀ n ∈ [62, 63], ({ Pair.reset with released := n, unitFirst := false } : Pair).released = n) ∧
    (pairChip 4 { linked with fromSynced := true }).pairState = 4 := by decide +kernel

/-- Both chips with OWNER, a partner of another kind, a chip that fell out of SYNCED, and a cue port with an accessory. -/
theorem witness_PairLink_cases :
    (let c := pairChip 3 { linked with owner := true, bothOwn := true }
     let d := { c with sys := { c.sys with straps := 7 } }
     d.pair.bothOwn = true ∧ d.pairId = true ∧ d.pairEn = true ∧ d.pair.owner = true) ∧
    (pairChip 5 { linked with incompat := true, takeAt := some 5 }).pair.incompat = true ∧
    ({ linked with fromSynced := true } : Pair).fromSynced = true ∧ (pairChip 2 linked).pairState = 2 ∧
    (let p : Pair := { linked with takeAt := some 5 }
     let c := (pairChip 3 p).setReg (Reg.CUE_CFG 1) 0x80050002
     let d := c.setReg (Reg.CUE_STAT 1) 0xB0000000
     d.pair.incompat = false ∧ d.pairEn = true ∧ d.regBit (Reg.CUE_CFG 1) 31 = true ∧ d.regBit (Reg.CUE_STAT 1) 31 = true ∧
       (pairChip 3 p).regBit (Reg.CUE_CFG 1) 31 = false ∧ c.eng.change = none) := by decide +kernel

def nopCopy : List Byte := pkt 0x0110 (leBytes 4 1)
def loadReq : List Byte := pkt 0x0201 loadPar

/-- Channel `n` awaits the acknowledgement of its copy for tick `t`. -/
def awaiting (n : Nat) (b : List Byte) (t : Nat) : Chip :=
  let p : Pair := { linked with owner := true, copies := [{ ch := n, req := b, tick := t, acked := false, pay := [] }] }
  let c := taken (pairChip 3 p) n b
  c.setChan n { c.chan n with work := .mirrored, effTick := t }

theorem witness_Mirror :
    linked.owner = false ∧ (pairChip 3 linked).pairState = 3 ∧ (pairChip 2 linked).pairState ≠ 3 ∧
    opTicks (parseReq nopCopy).op = true ∧ (pairChip 3 linked).checkOf 8 ((parseReq nopCopy).fixed 9) = 0 ∧
    (pairChip 3 linked).checkOf 8 ((parseReq nopCopy).fixed 1) ≠ 0 ∧
    (parseReq loadReq).op = 0x0201 ∧ (pairChip 3 linked).chkGraphLoad (parseReq loadReq) = 0 ∧ (pairChip 3 linked).chkGraphLoad (parseReq (pkt 0x0201 [1])) ≠ 0 ∧
    (parseReq (pkt 0x0203 [])).op = 0x0203 ∧ (pairChip 3 linked).chkGraphDiscard (parseReq (pkt 0x0203 [])) = 0 ∧
    (∀ v ∈ [(nopCopy, 5), (nopCopy, 6), (loadReq, 0), (pkt 0x0203 [], 0)],
      ((awaiting 7 v.1 v.2).chan 7).st = .taken ∧ ((awaiting 7 v.1 v.2).chan 7).work = .mirrored ∧ (∃ m ∈ (awaiting 7 v.1 v.2).pair.copies, m.ch = 7) ∧
        (awaiting 7 v.1 v.2).pair.owner = true ∧ (awaiting 7 v.1 v.2).firstBoundary = 6) ∧
    opTicks 0x0203 = false ∧ ¬ (((pairChip 3 linked).chan 7).st = .taken) ∧
    ({ schedOf 0x0110 [] with ch := 15, remote := true } : Sched).ch = (7 : BitVec 4).toNat ^^^ 8 := by decide +kernel

theorem witness_Mirror_other :
    (let c := (taken runChip 3 nopCopy)
     let d := c.setChan 3 { c.chan 3 with work := .forwarded }
     (d.chan 3).st = .taken ∧ (d.chan 3).work = .forwarded) ∧
    ((pairChip 3 { linked with owner := true }).chan 15).st ≠ .taken ∧
    (let c := taken (pairChip 2 { linked with owner := true, present := true }) 0 (pkt 0x0903 [])
     c.isFresh 0 0x0903 = true ∧ c.chkResync (c.reqOf 0) = 0) ∧
    (let c := taken (pairChip 2 linked) 0 (pkt 0x0903 [1])
     c.isFresh 0 0x0903 = true ∧ c.chkResync (c.reqOf 0) ≠ 0) ∧
    (∀ r ∈ [none, some 0], ({ linked with resync := some { ch := r } } : Pair).resync = some { ch := r }) ∧ (pairChip 2 linked).eng.phase = .entry ∧
    runChip.sys.execStarted = true ∧ runChip.sys.execAlive = true ∧ runChip.flt.traps.length ≤ 32 ∧ Chip.reset.sys.execStarted = false ∧
    ({ linked with matched := some (sigsOf 1, [1]) } : Pair).matched.isSome = true ∧ linked.matched = none ∧ runChip.pfUp false = true := by decide +kernel

/-- An executive that does not live, a cancel of one command, each record of a command acted on, and the checks repeated. -/
theorem witness_Mirror_undo :
    (pairChip 3 linked).execLive = true ∧ (let c := pairChip 3 linked
      { c with sys := { c.sys with execAlive := false } }.execLive = false) ∧
    (let b := pkt 0x0105 ([0, 0] ++ leBytes 2 9 ++ leBytes 8 6)
     let c := pairChip 3 linked
     let d := { c with cmd := { c.cmd with sched := [{ schedOf 0x0202 [] with tick := 6, ch := 8, remote := true }] } }
     (parseReq b).op = 0x0105 ∧ d.chkCancel 8 (parseReq b) = 0) ∧
    (∀ u ∈ [Undo.entry (schedOf 0x0110 []), .cancel [{ schedOf 0x0110 [] with tick := 9 }] [{ schedOf 0x0110 [] with tick := 9 }], .bank .empty, .book []],
      (({ linked with undo := [(7, u)] } : Pair).undo.find? (fun v => v.1 == 7)).map (fun v => v.2) = some u) ∧
    (pairChip 3 linked).tickN < ({ schedOf 0x0110 [] with tick := 9 } : Sched).tick ∧ linked.undo = [] ∧
    (let c := awaiting 7 nopCopy 6
     c.checkOf 7 ((c.reqOf 7).fixed 6) = 0 ∧ c.firstBoundary ≤ 6) ∧
    (let c := awaiting 7 nopCopy 6
     let d := { c with eng := { c.eng with engine := .boot } }
     d.checkOf 7 ((d.reqOf 7).fixed 6) ≠ 0 ∧ ((d.chan 7).st = .taken)) ∧
    (0x0006 : Half).toNat ∈ reasonCodes ∧ (0xFFFF : Half).toNat ∉ reasonCodes ∧ (parseReq (pkt 0x0902 [])).op = 0x0902 ∧
    (pairChip 2 { linked with bulkAt := 3 }).pair.bulkAt + 2 ≤ (pairChip 2 linked).tickN ∧ (pairChip 2 linked).tickN < ({ linked with bulkAt := 4 } : Pair).bulkAt + 2 ∧
    (pairChip 2 linked).eng.change = none := by decide +kernel

/-! ## Witnesses: DRAM, the bus matrix and DMA -/

/-- DRAM READY with a drift reported; the engine's CELL clock is not the one that DDR_STAT shows. -/
def ddrChip : Chip :=
  let c := withRegs runChip [(Reg.DDR_STAT, 1)]
  { c with ddr := { c.ddr with drift := true }, eng := { c.eng with cell1000 := true } }

/-- The same with the last window `w` ticks and the last frequency change `f` ticks ago, at tick 100. -/
def ddrAfter (w f : Nat) : Chip :=
  { ddrChip with eng := { ddrChip.eng with tick := 100 }, ddr := { ddrChip.ddr with lastWindow := some (100 - w), lastFreq := some (100 - f), cellAt := 99 } }

theorem witness_DramAndMatrix_windows :
    (∀ c ∈ [ddrChip, ddrAfter 32 32], c.sys.up = true ∧ c.eng.ticking = true ∧ c.eng.phase = .entry ∧ c.regFld Reg.DDR_STAT 2 0 = 1 ∧
      c.ddr.drift = true ∧ c.regBit Reg.DDR_STAT 5 ≠ c.eng.cell1000 ∧ c.ddr.cellAt < c.tickN) ∧
    ddrChip.ddr.lastWindow = none ∧ ddrChip.ddr.lastFreq = none ∧ (ddrAfter 32 32).tickN = 100 ∧
    (ddrAfter 32 33).ddr.lastWindow = some 68 ∧ ¬ (69 + 32 ≤ (ddrAfter 31 32).tickN) ∧ (ddrAfter 32 31).ddr.lastFreq = some 69 ∧
    (20 : BitVec 5).toNat ≤ 20 ∧ ¬ ((21 : BitVec 5).toNat ≤ 20) ∧ (600 : BitVec 10).toNat ≤ 600 ∧ ¬ ((601 : BitVec 10).toNat ≤ 600) ∧
    (chipAt .running .entry).regFld Reg.DDR_STAT 2 0 ≠ 1 ∧ State.reset.chip.sys.up = false := by decide +kernel

/-- Tile 3 of DRAM carries the mark, tile 4 fails its check. -/
def markedChip : Chip :=
  let m := (ddrChip.mem.putTile .dram 3 (memRead ddrChip.mem.dram 768 256) true)
  { ddrChip with mem := { m with dram := memWrite m.dram 1024 [1] } }

theorem witness_DramAndMatrix_transfers :
    (8 : BitVec 4).toNat < 9 ∧ ¬ ((9 : BitVec 4).toNat < 9) ∧ (∀ k : Nat, k < 28 → markedChip.level k = 0) ∧
    marked (markedChip.mem.entry .dram 3) = true ∧ markedChip.mem.fails .dram 4 = true ∧ markedChip.mem.fails .dram 5 = false ∧
      marked (markedChip.mem.entry .dram 4) = false ∧ markedChip.mem.fails .dram 3 = false ∧
    (∀ x ∈ [(768, 256), (1279, 1), (1280, 255), (markedChip.dramUsable - 1, 1)], x.1 % 256 + x.2 ≤ 256 ∧ x.1 < markedChip.dramUsable) ∧
    ¬ (1279 % 256 + 2 ≤ 256) ∧ markedChip.dramUsable < 2 ^ 35 := by decide +kernel

/-- A read of tile 4 and a write entry of tile 5 that holds one write, by initiator 1. -/
def accOf (a : BitVec 35) (b : List Byte) : DramAccess := { init := 1, addr := a, bytes := b, mark := false }
def reqOf_ (n t : Nat) (write : Bool) (parts : List DramAccess) : DramReq :=
  { num := n, qos := 8, tile := t, init := 1, since := 0, issued := false, write := write, old := List.replicate 256 7, oldChk := 0, parts := parts }

def queuedChip (l : List DramReq) (clocks : Nat) : Chip :=
  { ddrChip with ddr := { ddrChip.ddr with reqs := l, nreq := l.length }, dtm := { ddrChip.dtm with clocks := clocks } }

/-- What is issued next, with nothing, one and two requests to one tile waiting; a request past its 20 µs. -/
theorem witness_DramAndMatrix_queue :
    (let r := reqOf_ 0 4 false []
     let w := reqOf_ 1 5 true [accOf 1280 [9]]
     let c := queuedChip [r, w] 9999
     issuable c.ddr.reqs [] = [r, w] ∧ issuable [reqOf_ 0 5 false [], w] [] = [reqOf_ 0 5 false []] ∧ ddrChip.dramNext = none ∧
       readOf (c.dramArrivals []).ddr.reqs 1 4 = some r ∧ readOf ([reqOf_ 0 5 true [], reqOf_ 1 5 false []]) 1 5 = some (reqOf_ 1 5 false []) ∧
       entryOf (c.dramArrivals []).ddr.reqs (accOf 1280 [9]) = some w ∧ accOf 1280 [9] ∈ w.parts ∧ w.tile = (1280 : BitVec 35).toNat / 256 ∧ w.old.length = 256 ∧
       (∀ q ∈ c.ddr.reqs, q.tile = 5 → q.num = w.num) ∧ w.parts.contains (accOf 1281 [9]) = false ∧ entryOf c.ddr.reqs (accOf 1281 [9]) = some w ∧
       r.qos < 12 ∧ ¬ (r.since + 10000 ≤ c.dtm.clocks) ∧ r.since + 10000 ≤ (queuedChip [r] 10000).dtm.clocks ∧
       (∀ k : Nat, k < 28 → c.level k = 0)) ∧
    ddrChip.ddr.reqs = [] ∧ (ddrChip.dramArrivals []).dramRoom true = true ∧
    (queuedChip ((List.range 64).map (fun i => reqOf_ i i true [])) 0).dramRoom true = false ∧
    (queuedChip ((List.range 128).map (fun i => reqOf_ i i false [])) 0).dramRoom false = false := by decide +kernel

/-- The ports of BMX: initiators 1 and 2 at region memory 0, where 2 was granted last, and 1 and 7 at the registers. -/
theorem witness_DramAndMatrix_ports :
    (let l : List (Nat × Nat) := [(2, 0x1001000000), (1, 0x1001000000)]
     l.head? = some (2, 0x1001000000) ∧ ddrChip.busPort 2 0x1001000000 = 1 ∧ ddrChip.busPort 1 0x1001000000 = 1) ∧
    (∀ a ∈ [(0, 0), (8, 0x2000000000)], ddrChip.busPort a.1 a.2 = 0 ∨ 5 ≤ ddrChip.busPort a.1 a.2) ∧
    (let c := { ddrChip with ports := { ddrChip.ports with bus := [(5, some 1)] } }
     Map.get last0 c.ports.bus 5 = some 1 ∧ Map.get last0 ddrChip.ports.bus 5 = none) := by decide +kernel

/-- Channel `n` heads the queue with the active set `a`, in STATE `st` with `r` retries. -/
def dmaChip (n st r : Nat) (a : DmaAct) : Chip :=
  let c := withRegs ddrChip [(Reg.DMA_CH_STAT n, BitVec.ofNat 32 (st * 2 ^ 29 + r * 2 ^ 23)), (Reg.DMA_CH_CTRL n, 1)]
  ({ c with dma := { c.dma with queue := [n] } }).setAct n (some a)

def act (src dst count left : Nat) (decr : Bool) (hold : List Byte) (writing : Bool) : DmaAct :=
  { src := src, dst := dst, count := count, cfg := if decr then 0x80355000 else 0x00355000, left := left, hold := hold, mark := writing, writing := writing, stop := false }

theorem witness_DramAndMatrix_targets :
    ddrChip.sys.up = true ∧ (∀ i ∈ [0, 2, 8], ddrChip.busTarget i 0xFFFFFFFFFF = none) ∧ ddrChip.busTarget 8 0 ≠ none ∧
    ddrChip.busTarget 2 0x1001000000 = some (.region 0) ∧ ddrChip.busTarget 3 0x1001000000 = none ∧ ddrChip.busTarget 9 0 = none ∧
    (∀ w ∈ [false, true], ∀ p ∈ [0x2000000000, 0x1000],
      let x := if w then act 0 p 8 8 false [1, 2, 3, 4, 5, 6, 7, 8] true else act p 0 8 8 false [] false
      let c := dmaChip 15 2 2 x
      c.dma.queue.head? = some 15 ∧ c.regFld (Reg.DMA_CH_STAT 15) 31 29 = 2 ∧ c.forced 4 = false ∧ c.dmaAct 15 = some x ∧ x.writing = w ∧
        (if w then x.burst.2.1 else x.burst.1) = p ∧ 0 < x.burst.2.2 ∧ (p = 0x2000000000 → c.busTarget 2 p = none) ∧ (p = 0x1000 → c.busTarget 2 p ≠ none) ∧
        c.regFld (Reg.DMA_CH_STAT 15) 25 23 < fld x.cfg 22 20) := by decide +kernel

/-- Channel 0 ready to start from 0x1000 to 0x2000 with 8 bytes at a time. -/
def startChip (count : Word) (dst : Word) : Chip :=
  withRegs ddrChip [(Reg.DMA_CH_SRC_LO 0, 0x1000), (Reg.DMA_CH_DST_LO 0, dst), (Reg.DMA_CH_COUNT 0, count), (Reg.DMA_CH_CFG 0, 0x00033000)]

theorem witness_DmaTransfers_channels :
    (∀ n ∈ [0, 1], let c := startChip (if n = 0 then 0 else 8) 0x2000
      c.pfUp false = true ∧ c.forced 4 = false ∧ c.regBit (Reg.DMA_CH_CTRL 0) 0 = false ∧ c.dmaCheck 0 = 0 ∧ (c.reg (Reg.DMA_CH_COUNT 0) = 0 ↔ n = 0)) ∧
    (startChip 8 0x2004).dmaCheck 0 ≠ 0 ∧ (startChip 16 0x1008).dmaCheck 0 ≠ 0 ∧ State.reset.chip.pfUp false = false ∧
    (∀ st ∈ [1, 2], let a := act 0x1000 0x2080 256 100 true [] false
      let c := dmaChip 3 st 0 a
      c.dma.queue.head? = some 3 ∧ c.forced 4 = false ∧ c.dmaAct 3 = some a ∧ c.regFld (Reg.DMA_CH_STAT 3) 31 29 = st ∧
        c.regBit (Reg.DMA_CH_CTRL 3) 0 = true ∧ a.cfg.getLsbD 31 = true ∧ a.burst = (0x1000, 0x2080, 100)) ∧
    (act 0x10F8 0x2000 256 256 false [] false).burst = (0x10F8, 0x2000, 8) ∧ (act 0x10F8 0x2000 256 256 false [] false).cfg.getLsbD 31 = false ∧
    (act 0x1000 0x2000 256 256 true [] false).burst = (0x1000, 0x2000, 256) ∧
    (let c := (dmaChip 3 2 0 (act 0 0 1 1 false [] false)).setReg Reg.CLK_GATE_FORCE 16
     c.forced 4 = true) ∧ (startChip 8 0x2000).dma.queue = [] := by decide +kernel

/-- A read and a write of channel 15 at DRAM, with retries left and used up, and a last burst and one that another follows. -/
theorem witness_DmaTransfers_bursts :
    (∀ v ∈ [(false, 2), (false, 3), (true, 2), (true, 3)],
      let a := act 768 0x1000 256 8 false (if v.1 then [1, 2, 3, 4, 5, 6, 7, 8] else []) v.1
      let c := dmaChip 15 2 v.2 a
      c.dma.queue.head? = some 15 ∧ c.regFld (Reg.DMA_CH_STAT 15) 31 29 = 2 ∧ c.dmaAct 15 = some a ∧ a.writing = v.1 ∧
        c.busTarget 2 a.burst.1 = some (.dram (768 + 248)) ∧ c.busTarget 2 a.burst.2.1 = some (.dram (0x1000 + 248)) ∧
        c.regFld (Reg.DMA_CH_STAT 15) 25 23 = v.2 ∧ fld a.cfg 22 20 = 3 ∧ a.burst.2.2 = 8) ∧
    (∀ k : Nat, k < 28 → (dmaChip 15 2 0 (act 0 0 1 1 false [] false)).level k = 0) ∧
    (tilesOf 1016 8).all (fun j => ! ddrChip.mem.fails .dram j) = true ∧ (tilesOf 768 8).any (fun j => marked (markedChip.mem.entry .dram j)) = true ∧
    (0x1000 + 248) % 256 + 8 ≤ 256 ∧ (act 768 0x1000 256 16 false [] true).burst.2.2 = 16 ∧ (act 0x1000 0x10FC 256 256 false [1, 2, 3, 4] true).burst.2.2 = 4 ∧
    (∀ w ∈ [false, true], let a := act 0x1001000000 0x1001000100 8 8 false [] w
      let c := dmaChip 0 2 0 a
      c.busTarget 2 (if w then a.burst.2.1 else a.burst.1) = some (.region (if w then 0x100 else 0)) ∧ c.dmaAct 0 = some a) ∧
    (∀ w ∈ [false, true], let a := act 0x2000000000 0x2000000100 8 8 false [] w
      (dmaChip 0 2 0 a).busTarget 2 (if w then a.burst.2.1 else a.burst.1) = none) := by decide +kernel

/-- A channel that stops at the end of its burst. -/
theorem witness_DmaTransfers_stops :
    (∀ w ∈ [false, true], let a := { act 768 0x1000 256 8 false (if w then [1, 2, 3, 4, 5, 6, 7, 8] else []) w with stop := true }
      let c := dmaChip 15 2 0 a
      c.dma.queue.head? = some 15 ∧ c.forced 4 = false ∧ c.dmaAct 15 = some a ∧ c.regFld (Reg.DMA_CH_STAT 15) 31 29 = 2 ∧ a.stop = true ∧ a.writing = w ∧
        c.busTarget 2 a.burst.2.1 = some (.dram (0x1000 + 248)) ∧ c.regBit (Reg.DMA_CH_CTRL 15) 0 = true) ∧
    (let a := { act 0 0x2000000000 8 8 false [] true with stop := true }
     (dmaChip 0 2 0 a).busTarget 2 a.burst.2.1 = none) := by decide +kernel

/-! ## Witnesses: faults and the supply -/

/-- Class 3 unacknowledged, class 19 with FN. -/
def fltChip : Chip := withRegs (taken (chipAt .running .entry) 0 (pkt 0x0A02 (leBytes 4 0x08))) [(Reg.FLT_UNACK, 8), (Reg.FLT_CFG 19, 0x11)]

def fltCfgPar (l : List (Nat × Nat × Nat)) : List Byte := leBytes 2 l.length ++ [0, 0] ++ l.flatMap (fun e => [BitVec.ofNat 8 e.1, BitVec.ofNat 8 e.2.1] ++ leBytes 2 e.2.2)

theorem witness_FaultsAndPower_faults :
    fltChip.pfUp false = true ∧ State.reset.chip.pfUp false = false ∧ fltChip.regBit Reg.FLT_UNACK 3 = true ∧ fltChip.regBit Reg.FLT_UNACK 27 = false ∧
    (∀ v ∈ [[8, 0, 0, 0], [0, 0, 0, 0x10], [8]], let c := taken fltChip 0 (pkt 0x0A02 v)
      let r := c.reqOf 0
      c.isFresh 0 0x0A02 = true ∧ r.noTick = true ∧ r.noHandle = true ∧ r.len = v.length) ∧
    (parseReq (pkt 0x0A02 [8, 0, 0, 0])).p 0 4 < 2 ^ 28 ∧ ¬ ((parseReq (pkt 0x0A02 [0, 0, 0, 0x10])).p 0 4 < 2 ^ 28) ∧
    (∀ v ∈ [([(3, 4, 1), (27, 0, 0)], 0), ([(3, 5, 0)], 4), ([(28, 1, 0)], 4), ([], 3)], let c := taken fltChip 0 (pkt 0x0A01 (fltCfgPar v.1))
      c.isFresh 0 0x0A01 = true ∧ chkFaultCfg (c.reqOf 0) = v.2) ∧
    (∀ v ∈ [leBytes 16 1, leBytes 16 (2 ^ 95), leBytes 16 0, [1]], let c := taken fltChip 0 (pkt 0x0A05 v)
      c.isFresh 0 0x0A05 = true ∧ (c.reqOf 0).len = v.length) ∧
    (parseReq (pkt 0x0A05 (leBytes 16 (2 ^ 95)))).z 12 4 = true ∧ ((parseReq (pkt 0x0A05 (leBytes 16 (2 ^ 95)))).p 0 12).testBit 95 = true := by
  decide +kernel

/-- Channel 0 holds a GRAPH_LOAD, channel 1 an accepted NOP; the DMA engine has an active set. -/
def resetsChip (l : List Unit3) : Chip :=
  let c := taken (takenAt 0x0201 loadPar) 1 (pkt 0x0110 [1])
  let d := (c.setChan 1 { c.chan 1 with work := .accepted }).setReg (Reg.DMA_CH_CTRL 15) 1
  { (d.setAct 15 (some (act 0 0 1 1 false [] false))) with flt := { c.flt with resets := l } }

theorem witness_FaultsAndPower_resets :
    (∀ u ∈ [Unit3.eng, .sap, .drv, .net, .dtm, .dma, .executive], let c := resetsChip [u]
      c.flt.resets.find? (fun x => x.atOnce || c.atBoundary) = some u ∧ (c.chan 0).st = .taken ∧ (c.chan 0).work = .fresh ∧ (c.reqOf 0).op = 0x0201 ∧
        (c.chan 1).work = .accepted ∧ c.cmd.chans.all (fun e => e.1 != 1 || decide (e.2 = c.chan 1)) = true ∧
        c.dmaAct 15 ≠ none ∧ c.regBit (Reg.DMA_CH_CTRL 15) 0 = true) ∧
    (∀ k : Nat, k < 28 → (resetsChip []).level k = 0) ∧
    (let c := { resetsChip [.net, .dma] with eng := Eng.reset }
     c.flt.resets.find? (fun x => x.atOnce || c.atBoundary) = some .dma) ∧
    ({ resetsChip [.net] with eng := Eng.reset } : Chip).atBoundary = false ∧
    (chipAt .running .entry).execRuns = true ∧ State.reset.chip.execRuns = false ∧ (chipAt .running .entry).snapNewer = none := by decide +kernel

/-- A supply of 1000 nominal and the PWR block `p`. -/
def pwrChip (p : Pwr) : Chip := { withRegs runChip [(Reg.PWR_VCORE, 0x03E80000)] with pwr := p }

theorem witness_FaultsAndPower_readings :
    (pwrChip Pwr.reset).regFld Reg.PWR_VCORE 31 16 = 1000 ∧ (pwrChip Pwr.reset).sys.railsGood = true ∧
    [4000, 3841, 3840, 3761, 3760, 3681, 3680, 3600, 3520, 3000].map (fun n => (pwrChip Pwr.reset).sagOf n) =
      [0, -398, -400, -598, -600, -798, -800, -1000, -1200, -2500] ∧
    (∀ k : Nat, k < 28 → (pwrChip Pwr.reset).level k = 0) ∧ (pwrChip Pwr.reset).sys.up = true ∧ State.reset.chip.sys.up = false ∧ State.reset.chip.sys.railsGood = true ∧
    (let c : Chip := { State.reset.chip with sys := { Sys.reset with railsGood := false } }
     c.sys.railsGood = false) ∧
    (26880 : Half).toInt = 26880 ∧ (29440 : Half).toInt = 29440 ∧ (0xFFFF : Half).toInt ≤ 25600 ∧ (25601 : Half).toInt = 25601 ∧
    (let p : Pwr := { Pwr.reset with supply := 1, above := 2501, hot105 := 1, hot115 := 1, cool := 999 }
     2501 ≤ (pwrChip p).pwr.above ∧ 0 < (pwrChip p).pwr.supply ∧ 1 ≤ (pwrChip p).pwr.hot105 ∧ 1 ≤ (pwrChip p).pwr.hot115 ∧ 999 ≤ (pwrChip p).pwr.cool) := by
  decide +kernel

theorem witness_FaultsAndPower_sag : IsRound ((pwrChip Pwr.reset).sagOf 3841) (((3841 : Nat) - (4 * 1000 : Nat) : Int) * 10000) (4 * 1000 : Nat) := by
  unfold IsRound; decide +kernel

/-- The stages that take effect at a boundary, up and down, the one of the supply that resets the chip, and its release. -/
theorem witness_FaultsAndPower_stages :
    (∀ v ∈ [(1, 0), (2, 0), (4, 0), (4, 3), (0, 4), (3, 4), (0, 1)],
      let p : Pwr := { Pwr.reset with supply := v.1, stage := v.2 }
      let c := pwrChip p
      c.sys.up = true ∧ p.decided = v.1 ∧ p.decided ≠ c.pwr.stage ∧ c.eng.ticking = true ∧ c.eng.phase = .entry ∧ c.graph.live = some graph3 ∧ graph3.cells ≠ [] ∧
        c.eng.engine = .running) ∧
    (let c := pwrChip { Pwr.reset with supply := 0, stage := 4 }
     ({ c with eng := { c.eng with engine := .staked } } : Chip).eng.engine = .staked) ∧
    graph3.cells.all (fun e => decide (e.cls < 4)) = true ∧
    ({ Pwr.reset with supply := 5 } : Pwr).decided = 5 ∧ ({ Pwr.reset with crit := true } : Pwr).decided = 5 ∧ ({ Pwr.reset with thermal := true } : Pwr).decided = 2 ∧
    (pwrChip { Pwr.reset with supply := 4, stage := 5 }).pwr.stage = 5 ∧ ({ Pwr.reset with supply := 4, stage := 5 } : Pwr).decided < 5 := by decide +kernel

/-- A cell that has failed to wake keeps that through stage 4; a correction within its limits. -/
theorem witness_FaultsAndPower_cells :
    (let c := (pwrChip { Pwr.reset with supply := 4 }).setCell 9 { Cell.reset with power := .wakeFail }
     (c.cell 9).power = .wakeFail ∧ c.graph.retire = none ∧ (c.cell 3).power = .on) ∧
    (resetsChip [.dtm]).dtm.corr.natAbs ≤ 20000000000 := by decide +kernel

/-! ## Witnesses: firmware, boot and the step -/

/-- A key whose public part is `fwKey`, and an image of 256 bytes of zeros that it signed: EXEC_VERSION 1, 2, 3, 4 and SVN 7. -/
def fwKey : BitVec 256 := 0xb83155126486dc1d5f0da59b30d6e46799c04be718dd701dbe10cef3bf07a103
def fwImage : List Byte :=
  leBytes 4 0x57465A43 ++ [1, 0] ++ leBytes 2 256 ++ leBytes 4 256 ++ [1, 2, 3, 4] ++ leBytes 2 0x200 ++ [0xB1, 0, 7, 0, 0, 0] ++ List.replicate 8 0 ++
    leBytes 64 0xc61099fbf9b492dcbddc8adf2ef8b31c0b703c13d2aecc5acaa0c7036a567c280b23039003e3213faf0c129522b24bcc5d3960eb49ab2a2d16a68383d5953f69 ++
    leBytes 64 0x4d33327a65b24621cd2aff5f73b474a59aa3863c36d6b2766affbdf56fc215515ac700e4f32648a4ae62b5a711aa569f31976912706de501ca2c1e98dd10e3a ++
    List.replicate 96 0 ++ List.replicate 256 0

/-- The image in a slot of a chip. -/
def withImage (c : Chip) (slot : Nat) : Chip :=
  { c with sys := { c.sys with qspi := (fwImage.zipIdx.filter (fun e => e.1 != 0xFF)).map (fun e => (fwBase slot + e.2, e.1)) } }

/-- A chip with the image in slot B that holds a request. -/
def fwChip (op : Nat) (par : List Byte) : Chip := withImage (takenAt op par) 1

set_option maxRecDepth 100000 in
/-- Slot B holds the image: what its header and its body read as. -/
theorem image_reads : (withImage runChip 1).fwHeader 1 = fwImage.take 256 ∧ (withImage runChip 1).nor (fwBase 1 + 256) 256 = List.replicate 256 0 := by
  decide +kernel

set_option maxRecDepth 100000 in
/-- The image passes the checks of R534, its key being `fwKey`. -/
theorem image_signed : let h := fwImage.take 256
    fwHeaderOk h = true ∧ leField h 8 4 = 256 ∧ sha512 (List.replicate 256 0) = bytesFrom h 32 64 ∧ leField h 24 1 = 0 ∧
      edVerify (leBytes 32 fwKey.toNat) (h.take 96) (bytesFrom h 96 64) = true ∧ leField h 20 1 = 7 := by decide +kernel

/-- On a chip whose ROM key 0 is `fwKey`, the image in slot B verifies. -/
theorem fwResult_of_key (c : Chip) (key : Config.romKey 0 = fwKey) (m : c.fwPtr.minSvn ≤ 7) : (withImage c 1).fwResult 1 false = 1 := by
  have r : (withImage c 1).fwHeader 1 = fwImage.take 256 := image_reads.1
  have b : (withImage c 1).nor (fwBase 1 + 256) 256 = List.replicate 256 0 := image_reads.2
  have w := image_signed
  obtain ⟨h1, h2, h3, h4, h5, h6⟩ := w
  have m' : ¬ 7 < (withImage c 1).fwPtr.minSvn := Nat.not_lt.mpr m
  simp only [Chip.fwResult, r, h1, h2, b, h3, h4, h5, h6, key]
  simp [m']

/-- With that ROM key: EXEC_SWAP to slot B is accepted, and FW_SLOT_SET makes it ACTIVE or TRY. -/
theorem witness_Firmware_swap (key : Config.romKey 0 = fwKey) :
    (let c := fwChip 0x0B12 [1, 0, 0, 0]
     c.isFresh 0 0x0B12 = true ∧ c.chkSwap 0 (c.reqOf 0) false = 0) ∧
    (∀ v : Fin 2, let c := fwChip 0x0B13 [1, BitVec.ofNat 8 v, 0, 0]
      c.isFresh 0 0x0B13 = true ∧ c.chkSlotSet (c.reqOf 0) false = 0 ∧ (c.reqOf 0).p 1 1 = v) := by
  have swap : (fwChip 0x0B12 [1, 0, 0, 0]).fwResult 1 false = 1 := fwResult_of_key _ key (by decide +kernel)
  have set (v : Fin 2) : (fwChip 0x0B13 [1, BitVec.ofNat 8 v, 0, 0]).fwResult 1 false = 1 :=
    fwResult_of_key _ key (by revert v; decide +kernel)
  have slot : ((fwChip 0x0B12 [1, 0, 0, 0]).reqOf 0).p 0 1 = 1 := by decide +kernel
  have slots (v : Fin 2) : ((fwChip 0x0B13 [1, BitVec.ofNat 8 v, 0, 0]).reqOf 0).p 0 1 = 1 := by revert v; decide +kernel
  refine ⟨⟨by decide +kernel, ?_⟩, fun v => ⟨by revert v; decide +kernel, ?_, by revert v; decide +kernel⟩⟩
  · simp only [Chip.chkSwap, slot, swap]; decide +kernel
  · simp only [Chip.chkSlotSet, slots, set]; revert v; decide +kernel

theorem witness_Firmware_refusals :
    (∀ v ∈ [0x0B10, 0x0B12, 0x0B13, 0x0B20, 0x0B21], (takenAt v [1]).isFresh 0 v = true) ∧
    (takenAt 0x0B10 [1]).chkFwWrite ((takenAt 0x0B10 [1]).reqOf 0) ≠ 0 ∧ (takenAt 0x0B12 [1]).chkSwap 0 ((takenAt 0x0B12 [1]).reqOf 0) false ≠ 0 ∧
    (takenAt 0x0B13 [1]).chkSlotSet ((takenAt 0x0B13 [1]).reqOf 0) false ≠ 0 ∧ (takenAt 0x0B20 [1]).chkFbWrite ((takenAt 0x0B20 [1]).reqOf 0) ≠ 0 ∧
    (takenAt 0x0B21 [1]).chkKeySet ((takenAt 0x0B21 [1]).reqOf 0) ≠ 0 := by decide +kernel

/-- FW_WRITE of 256 bytes to slot B, FW_VERIFY, two records of the field book, and a key on a chip without one. -/
theorem witness_Firmware_writes :
    (let c := takenAt 0x0B10 ([1] ++ List.replicate 7 0 ++ leBytes 8 4096 ++ leBytes 4 256 ++ leBytes 4 0)
     c.isFresh 0 0x0B10 = true ∧ c.chkFwWrite (c.reqOf 0) = 0 ∧ (tilesOf 4096 256).all (fun i => !c.mem.fails .dram i && !marked (c.mem.entry .dram i)) = true ∧
       (∀ k : Nat, k < 28 → c.level k = 0)) ∧
    (∀ v ∈ [[0, 0, 0, 0], [1, 0, 0, 0], [2, 0, 0, 0], [0]], (takenAt 0x0B11 v).isFresh 0 0x0B11 = true) ∧
    (let c := takenAt 0x0B11 [1, 0, 0, 0]
     let r := c.reqOf 0
     r.len = 4 ∧ r.noTick = true ∧ r.noHandle = true ∧ r.p 0 1 ≤ 1 ∧ r.z 1 3 = true ∧ c.swapBars r = false ∧
       ({ c with sys := { c.sys with swap := some (1, 5) } } : Chip).swapBars r = true) ∧
    (let c := takenAt 0x0B20 (leBytes 4 0x3C0 ++ leBytes 2 2 ++ List.replicate 138 0)
     c.isFresh 0 0x0B20 = true ∧ c.chkFbWrite (c.reqOf 0) = 0 ∧ (c.reqOf 0).p 4 2 = 2) ∧
    (let c := takenAt 0x0B21 ([3, 0, 0, 0] ++ List.replicate 32 1)
     c.isFresh 0 0x0B21 = true ∧ c.chkKeySet (c.reqOf 0) = 0 ∧ (c.reqOf 0).p 0 1 = 3) := by decide +kernel

/-- The handover at its boundary, and while it holds the channels. -/
def handover (held : Bool) : Chip :=
  let c := checkedAt .entry 0x0B12 [1, 0, 0, 0] 2 0
  { c with cmd := { c.cmd with held := held }, sys := { c.sys with swap := some (1, 0) } }

theorem witness_Firmware_rest :
    (∀ b ∈ [false, true], (handover b).sys.swap = some (1, 0) ∧ (handover b).cmd.held = b ∧ (handover b).eng.ticking = true ∧ (handover b).eng.phase = .entry ∧
      ((handover b).chan 0).effTick ≤ (handover b).tickN) ∧
    runChip.sys.swap = none ∧
    (∀ i : Nat, i < 4 → runChip.keyEmpty i = true) ∧ runChip.secureEn = true ∧ runChip.sys.railsGood = true ∧ State.reset.chip.secureEn = false ∧
    openHost.pfUp false = true ∧ openHost.cmd.session.isOpen = true ∧ runChip.cmd.session.isOpen = false := by decide +kernel

theorem witness_Firmware_change : (handover false).eng.change = none ∧ (handover true).eng.change = none := by decide +kernel

/-- The internal reset held by good clocks alone, and by each of its other reasons. -/
def freeChip (k : Clk) (stat : Word) : Chip :=
  let c := State.reset.chip.setReg Reg.CLK_STAT stat
  { c with sys := { c.sys with resetN := true }, clk := k, regs := Map.put regReset c.regs (Reg.FLT_CFG 3) 0 }

theorem witness_ResetsAndBoot :
    (∀ v ∈ [({ Clk.reset with first := 2 }, 0), ({ Clk.reset with latch := true, hold := true }, 0x140)],
      let c := freeChip v.1 v.2
      c.sys.up = false ∧ c.sys.resetN = true ∧ c.sys.railsGood = true ∧ c.sys.tapTest = false ∧ c.pwr.stage ≠ 5 ∧
        (if c.clk.hold = true ∨ c.onFbrc = true then c.fbOk = true ∧ c.onFbrc = true else c.clk.first = 2)) ∧
    (freeChip { Clk.reset with first := 2 } 0).fwResult 0 false ≠ 1 ∧ (freeChip { Clk.reset with first := 2 } 0).fwResult 1 true ≠ 1 ∧
    (freeChip Clk.reset 0).fwPtr.try_.getD (freeChip Clk.reset 0).fwPtr.active = 0 ∧ State.reset.chip.sys.resetN = false ∧
    (∀ v ∈ [4, 5], let c : Chip := withRegs (chipAt .boot .idle) [(Reg.GCTL_BOOT, BitVec.ofNat 32 (v * 2 ^ 28))]
      let d := { c with sys := { c.sys with execReady := false } }
      d.sys.up = true ∧ d.sys.execStarted = true ∧ d.sys.execReady = false ∧ d.regFld Reg.GCTL_BOOT 31 28 = v) ∧
    ((takenAt 0x0101 []).chan 0).st = .taken ∧ ((takenAt 0x0101 []).chan 7).st ≠ .taken ∧
    (let c : Chip := { runChip with sys := { runChip.sys with railsGood := false } }
     c.sys.railsGood = false) := by decide +kernel

theorem witness_ResetsAndBoot_tap :
    (∀ ir ∈ [TapIr.extest, .clamp, .highz], ir = .extest ∨ ir = .clamp ∨ ir = .highz) ∧
    (∀ ir ∈ [TapIr.bypass, .idcode, .sample], ¬ (ir = .extest ∨ ir = .clamp ∨ ir = .highz)) := by decide +kernel

/-- A record that makes slot B the ACTIVE one, with MIN_SVN 7. -/
def ptrB : List Byte := withCrc (leBytes 4 0x54535746 ++ [1, 0, 1, 255, 7] ++ List.replicate 55 0) 64

def bootChip (ptr : Bool) : Chip :=
  let c := freeChip { Clk.reset with first := 2 } 0
  withImage { c with sys := { c.sys with fieldBook := if ptr then memWrite [] fbPtr ptrB else [] } } 1

set_option maxRecDepth 100000 in
/-- With the key `fwKey` in ROM a boot starts the image in slot B: as the ACTIVE slot, or after a slot A that holds none. -/
theorem witness_ResetsAndBoot_images (key : Config.romKey 0 = fwKey) :
    (bootChip true).fwPtr = { active := 1, try_ := none, minSvn := 7 } ∧ (bootChip true).fwResult 1 false = 1 ∧
    (bootChip false).fwPtr = { active := 0, try_ := none, minSvn := 0 } ∧ (bootChip false).fwResult 0 false = 2 ∧ (bootChip false).fwResult 1 false = 1 :=
  ⟨by decide +kernel, fwResult_of_key _ key (by decide +kernel), by decide +kernel, by decide +kernel, fwResult_of_key _ key (by decide +kernel)⟩

/-- A state with all that the invariant ranges over listed, and a step of it that writes DRAM. -/
theorem witness_StepKeepsForm :
    (let s : State := { chip := markedChip, pending := [.dramWriteDone 0 300 [1, 2, 3] false ⟨false, []⟩] }
     s.wf ∧ s.chip.mem.dram ≠ [] ∧ (match step s with | .next t => decide (t.chip.mem ≠ s.chip.mem) | _ => false) = true) := by
  unfold State.wf; decide +kernel

/-! ## Ill-formed commands, and single steps -/

def sub0 : SubFrame := { audio := 0, v := false, u := false, c := false, err := false, active := false, blk := false }

/-- An ill-formed term for every check. -/
theorem test_ill_formed_refused :
    [Instr.windowEnd 37 0 0, .windowEnd 0 5 0, .scheduleTileFetch 37 0 0 false, .scheduleTileFetch 0 5 0 false, .hostAccessAbort 3 0 4 false,
      .doorbellRing false 4 0 false, .doorbellTake false 31 (.take 0), .doorbellTimeout false 4 0 none, .refEnWrite 18 0, .refTimingPoint ⟨18, false⟩ 0 0,
      .refTimingPoint ⟨5, true⟩ 0 0, .missingEdge ⟨31, false⟩, .missingEdge ⟨3, true⟩,
      .freqGateEnd 18 0, .pllLockLoss 7, .gateClose 23, .forceHit 5 false 0, .nonaudioHoldEnd 12 0, .madiFrameReceived 0 true 0 0 (List.replicate 65 sub0),
      .receiverLockLoss 12, .bulkFrameReceived (.tile 0 0 [1] false), .retrainWindow 21, .ddrFreqChange 601, .dramReadDone 9 0 0 false false false ⟨false, []⟩,
      .dramReadDone 0 0 0 false false false ⟨false, [⟨9, 0, [], false⟩]⟩,
      .dramWriteDone 9 0 [1] false ⟨false, []⟩, .dramWriteDone 0 0 [] false ⟨false, []⟩, .dramWriteDone 0 255 [1, 2] false ⟨false, []⟩, .defaultTarget 9 0 false,
      .busTimeout 9 0 false, .keyLoad 4 0].any wellFormed = false := by decide

/-- The last value that each of these checks takes. -/
theorem test_well_formed_taken :
    [Instr.windowEnd 36 4 0, .scheduleTileFetch 36 4 0 true, .hostAccessAbort 2 0 4 false, .doorbellRing false 3 31 true, .doorbellRing true 31 31 false,
      .doorbellTake true 31 (.mask 0), .doorbellTimeout false 3 0 none, .refEnWrite 17 0, .refTimingPoint ⟨17, false⟩ 0 0,
      .refTimingPoint ⟨4, true⟩ 0 0, .missingEdge ⟨17, false⟩, .missingEdge ⟨4, true⟩, .freqGateEnd 17 0, .pllLockLoss 6,
      .gateClose 22, .forceHit 4 true 0, .nonaudioHoldEnd 11 0, .madiFrameReceived 3 true 0 0 (List.replicate 64 sub0), .receiverLockLoss 11,
      .bulkFrameReceived (.tile 0 0 (List.replicate 256 0) false), .retrainWindow 20, .ddrFreqChange 600, .dramReadDone 8 0 0 false false false ⟨false, [⟨8, 255, [1], true⟩]⟩, .bmxHeldIssue,
      .dramWriteDone 8 255 [1] false ⟨false, []⟩, .defaultTarget 8 0 false, .busTimeout 8 0 false, .keyLoad 3 0].all wellFormed = true := by decide +kernel

/-- What a D register of cell 3 holds after a step of the command. -/
def dAfter (x : Cell) (w : DWord) (i : Instr) (r : Nat) : Option Word :=
  match exec i (withCell x w) with
  | .next t => some ((t.chip.cell 3).rd r).v
  | _ => none

def cellOf (a b : Word) : Cell := { cellBase with d := [(1, { v := a, p := false }), (2, { v := b, p := false })] }

/-- R108, with MR.DSAT 0: the sum wraps. -/
theorem test_add_wraps : dAfter (cellOf 0x7FFFFFFF 1) (encWord 4 1 1 2 0 4 0 0) (.add 3 1 2 4 noPorts) 4 = some 0x80000000 := by decide +kernel

/-- R108: Ra minus Rb, in that order. -/
theorem test_sub_order : dAfter (cellOf 5 7) (encWord 4 2 1 2 0 4 0 0) (.sub 3 1 2 4 noPorts) 4 = some 0xFFFFFFFE := by decide +kernel

/-- R108: the immediate is the low 32 bits of the word. -/
theorem test_ldi : dAfter cellBase (encWord 5 0 0 0 0 15 0 0xDEADBEEF) (.ldi 3 15 0xDEADBEEF) 15 = some 0xDEADBEEF := by decide +kernel

/-- R106: the instruction is the one that the word at the index spells; another command changes nothing. -/
theorem test_other_word : dAfter (cellOf 5 7) (encWord 4 1 1 2 0 4 0 0) (.sub 3 1 2 4 noPorts) 4 = some 0 := by decide +kernel

/-- The command at the front runs, and the rest of the queue waits. -/
theorem test_step_front :
    (match step { chip := chipAt .running .entry, pending := [.tapTestMode ⟨none, []⟩, .missingEdge ⟨0, false⟩] } with
      | .next t => decide (t.pending = [.missingEdge ⟨0, false⟩])
      | _ => false) = true ∧
    (match step State.reset with
      | .next t => decide (t = State.reset)
      | _ => false) = true := by decide +kernel

/-- R204: the checksum of the nine digits is the one that defines CRC-32C. -/
theorem test_crc32c : crc32c [0x31, 0x32, 0x33, 0x34, 0x35, 0x36, 0x37, 0x38, 0x39] = 0xE3069283 := by decide +kernel

/-- A command that answers a next state. -/
theorem witness_StepRunsFront : ∃ t : State, exec (.tapTestMode ⟨none, []⟩) { chip := Chip.reset, pending := [] } = .next t := ⟨_, rfl⟩

end Sys2Proof.Tests
end

section
/-! PROOFS. The queue's part of a step (R11, R25) and the state after reset (R16, R344, R500). -/
namespace Sys2Proof.Machine
open Sys2Proof

/-! ## The queue -/

/-- Every command acts on the chip alone: one function of the chip gives its meaning, whatever the queue holds. -/
theorem exec_eq_act (i : Instr) : ∃ f : Chip → Chip, ∀ s : State, exec i s = s.act f := by
  cases i <;> (dsimp only [exec]; exact ⟨_, fun _ => rfl⟩)

/-- Settles O58: a meaning is a function of the chip, so the queue is only passed on. -/
theorem stepRunsFront : Obligations.StepRunsFront := by
  intro c i q
  obtain ⟨f, hf⟩ := exec_eq_act i
  refine ⟨rfl, rfl, fun t ht => ?_⟩
  rw [hf, State.act_eq] at ht
  cases ht
  exact ⟨rfl, hf _⟩

/-! ## The state after reset -/

/-- At reset a register reads its reset value, but for the cause of the reset (R344). -/
theorem Chip.reg_reset (a : Nat) : Chip.reset.reg a = if a = Reg.CLK_RESET_CAUSE then 1 else regReset a :=
  Map.get_put regReset [] Reg.CLK_RESET_CAUSE a 1

/-- The reset state lists one register and nothing else, in canonical form. -/
theorem State.reset_wf : State.reset.wf :=
  ⟨rfl, Map.wf_put regReset [] Reg.CLK_RESET_CAUSE 1 (Map.wf_nil _), rfl⟩

/-- The levels of the fault classes at reset (R500). -/
theorem Chip.reset_levels : (List.range 28).map Chip.reset.level =
    [1, 1, 0, 1, 1, 1, 1, 1, 1, 1, 1, 0, 0, 0, 0, 0, 0, 1, 1, 1, 1, 1, 1, 1, 1, 1, 2, 1] := by
  decide +kernel

/-- The classes that drive FAULT_N at reset (R500, R508). -/
theorem Chip.reset_faultN_classes (k : Nat) (hk : k < 28) :
    Chip.reset.regBit (Reg.FLT_CFG k) 4 = true ↔ k = 18 ∨ k = 19 ∨ k = 25 ∨ k = 26 := by
  have all : ∀ j : Nat, j < 28 → (Chip.reset.regBit (Reg.FLT_CFG j) 4 = true ↔ j = 18 ∨ j = 19 ∨ j = 25 ∨ j = 26) := by decide +kernel
  exact all k hk

/-- Settles O59: the reset state lists nothing but the cause of the reset, so everything else reads its default. -/
theorem resetIsWellFormed : Obligations.ResetIsWellFormed := by
  refine ⟨State.reset_wf, rfl, rfl, rfl, rfl, rfl, rfl, rfl, rfl, rfl, ?_, fun _ => rfl, fun _ => rfl, fun a ha => ?_, Chip.reset_levels,
    Chip.reset_faultN_classes⟩
  · exact (Chip.reg_reset _).trans (if_pos rfl)
  · exact (Chip.reg_reset a).trans (if_neg ha)

end Sys2Proof.Machine
end

section
/-! SUPPORT. Writes of the host: gates, plain registers, clear registers, and the memory windows. -/
namespace Sys2Proof.Machine
open Sys2Proof

/-! ## Gates (R350) -/

/-- A gate shows in one bit of CLK_SAP_GATE or CLK_GATE_STAT; a unit without a gate shows nowhere. -/
theorem Chip.setGate_cases (c : Chip) (u : Nat) (b : Bool) :
    c.setGate u b = c ∨ (∃ i, c.setGate u b = c.setBit Reg.CLK_SAP_GATE i b) ∨ ∃ i, c.setGate u b = c.setBit Reg.CLK_GATE_STAT i b := by
  unfold Chip.setGate
  split
  · exact .inr (.inl ⟨_, rfl⟩)
  split
  · exact .inr (.inr ⟨_, rfl⟩)
  split
  · exact .inr (.inr ⟨_, rfl⟩)
  split
  · exact .inr (.inr ⟨_, rfl⟩)
  · exact .inl rfl

/-- Opening or closing a gate touches the registers alone. -/
theorem Chip.setGate_but_regs (c : Chip) (u : Nat) (b : Bool) (m : Map Word) :
    { c.setGate u b with regs := m } = { c with regs := m } := by
  obtain h | ⟨i, h⟩ | ⟨i, h⟩ := c.setGate_cases u b <;> rw [h]
  · rfl
  · rfl

/-- A gate shows in no register but CLK_SAP_GATE and CLK_GATE_STAT. -/
theorem Chip.reg_setGate_ne (c : Chip) (u : Nat) (b : Bool) {a : Nat} (hs : a ≠ Reg.CLK_SAP_GATE) (hg : a ≠ Reg.CLK_GATE_STAT) :
    (c.setGate u b).reg a = c.reg a := by
  obtain h | ⟨i, h⟩ | ⟨i, h⟩ := c.setGate_cases u b <;> rw [h]
  · exact c.reg_setBit_ne i b hs
  · exact c.reg_setBit_ne i b hg

theorem Chip.openGates_but_regs (c : Chip) (off : Nat) (m : Map Word) :
    { c.openGates off with regs := m } = { c with regs := m } :=
  foldl_keep (fun d : Chip => { d with regs := m }) _ (fun d u => d.setGate_but_regs u true m) _ c

theorem Chip.openGates_of_blockUnit_none (c : Chip) {off : Nat} (h : blockUnit off = none) : c.openGates off = c := by
  simp [Chip.openGates, gateUnits, h]

/-- The gates that an access opens are not shown in the register that it accesses. -/
theorem Chip.reg_openGates_self (c : Chip) (a : Nat) : (c.openGates a).reg a = c.reg a := by
  cases h : blockUnit a with
  | none => rw [c.openGates_of_blockUnit_none h]
  | some u =>
    have hclk : a ≠ Reg.CLK_SAP_GATE ∧ a ≠ Reg.CLK_GATE_STAT := by
      constructor <;> rintro rfl <;> exact Option.some_ne_none u (h.symm.trans rfl)
    exact foldl_keep (fun d : Chip => d.reg a) _ (fun d u => d.reg_setGate_ne u true hclk.1 hclk.2) _ c

/-! ## Registers that only hold their fields (R12 to R14) -/

/-- A register whose write has no action of its own. -/
def PlainReg (a : Nat) : Prop :=
  isClear a = false ∧ a ∉ [Reg.FLT_UNACK, Reg.PWR_RESET_CAUSE, Reg.CLK_GATE_FORCE, Reg.CLK_OBS, Reg.GCTL_DEBUG, Reg.PAIR_SIG_TAKE] ∧
    (∀ k : Nat, k < 8 → a ≠ Reg.CMD_DOORBELL k ∧ a ≠ Reg.CMD_TIMEOUT k ∧ ∀ w : Nat, w < 256 → a ≠ Reg.CMD_REQ k w) ∧
    (∀ k : Nat, k < 16 → a ≠ Reg.DMA_CH_CTRL k) ∧ (∀ k : Nat, k < 4 → a ≠ Reg.NET_RXQ_TAIL k ∧ a ≠ Reg.NET_SNAP k)

theorem indexOf_eq_none {f : Nat → Nat} {n a : Nat} (h : ∀ i < n, f i ≠ a) : indexOf f n a = none := by
  simpa [indexOf] using h

theorem Chip.chanWrite_of_plainReg (c : Chip) {a : Nat} (v : Word) (ha : a % 4 = 0) (h : PlainReg a) : c.chanWrite a v = none := by
  obtain ⟨-, -, hch, -, -⟩ := h
  have hbell : indexOf Reg.CMD_DOORBELL 8 a = none := indexOf_eq_none fun i hi => (hch i hi).1.symm
  have htmo : indexOf Reg.CMD_TIMEOUT 8 a = none := indexOf_eq_none fun i hi => (hch i hi).2.1.symm
  have hreq : indexOf (fun n => Reg.CMD_REQ n 0) 8 (a - a % 1024) = none := indexOf_eq_none fun i hi he =>
    (hch i hi).2.2 (a % 1024 / 4) (by omega) (by unfold Reg.CMD_REQ at he ⊢; omega)
  simp only [Chip.chanWrite, hbell, htmo, hreq]

theorem Chip.unitWrite_of_plainReg (c : Chip) {a : Nat} (v : Word) (h : PlainReg a) : c.unitWrite a v = none := by
  obtain ⟨-, -, -, hdma, hnet⟩ := h
  have hctrl : indexOf Reg.DMA_CH_CTRL 16 a = none := indexOf_eq_none fun i hi => (hdma i hi).symm
  have htail : indexOf Reg.NET_RXQ_TAIL 4 a = none := indexOf_eq_none fun i hi => (hnet i hi).1.symm
  have hsnap : indexOf Reg.NET_SNAP 4 a = none := indexOf_eq_none fun i hi => (hnet i hi).2.symm
  simp only [Chip.unitWrite, hctrl, htail, hsnap]

theorem Chip.regWrite_of_plainReg (c : Chip) {a : Nat} (v : Word) (ha : a % 4 = 0) (h : PlainReg a) :
    c.regWrite a v = c.plainWrite a v := by
  obtain ⟨hclr, hown, -⟩ := id h
  simp only [List.mem_cons, List.not_mem_nil, or_false, not_or] at hown
  obtain ⟨h1, h2, h3, h4, h5, h6⟩ := hown
  simp only [Chip.regWrite, hclr, Bool.false_eq_true, if_false, h1, h2, h3, h4, h5, h6, c.chanWrite_of_plainReg v ha h,
    c.unitWrite_of_plainReg v h]

/-- A plain write touches the register addressed and nothing else. -/
theorem Chip.plainWrite_but_regs (c : Chip) (a : Nat) (v : Word) (m : Map Word) :
    { c.plainWrite a v with regs := m } = { c with regs := m } := by
  unfold Chip.plainWrite
  split <;> rfl

theorem Chip.reg_plainWrite_ne (c : Chip) {a b : Nat} (v : Word) (h : b ≠ a) : (c.plainWrite a v).reg b = c.reg b := by
  unfold Chip.plainWrite
  split
  · exact Chip.reg_setReg_ne c _ h
  · rfl

/-- A writable bit takes the bit written, a flag falls with a written 1, and every other bit stays (R12 to R14). -/
theorem Chip.regBit_plainWrite (c : Chip) {a i : Nat} {r : RegRow} (v : Word) (hr : regRow a = some r) (hi : i < 32) :
    (c.plainWrite a v).regBit a i =
      if r.rw.testBit i then v.getLsbD i else if r.w1c.testBit i && v.getLsbD i then false else c.regBit a i := by
  simp only [Chip.regBit, Chip.plainWrite, hr, Chip.modReg, Chip.reg_setReg_self, BitVec.getLsbD_or, BitVec.getLsbD_and,
    BitVec.getLsbD_not, BitVec.getLsbD_ofNat, hi, decide_true, Bool.true_and]
  cases r.rw.testBit i <;> cases r.w1c.testBit i <;> simp [Bool.and_comm]

theorem Chip.plainWrite_of_no_row (c : Chip) {a : Nat} (v : Word) (hr : regRow a = none) : c.plainWrite a v = c := by
  simp only [Chip.plainWrite, hr]

/-! ## A 32-bit write of a register of PF0 -/

/-- An aligned access below the end of the registers is not answered with Completer Abort (R36). -/
theorem Chip.aborts_regs (c : Chip) {a : Nat} (w : Bool) (ha : a < 0xF0000) (h4 : a % 4 = 0) : c.aborts 0 a 4 w = false := by
  simp [Chip.aborts, ha, h4]

/-- The write is carried out with the gates of its unit open (R350). -/
theorem exec_registerWrite (s : State) {addr : Word} (v : Word) (hup : s.chip.pfUp false = true) (ha : addr.toNat < 0xF0000)
    (h4 : addr.toNat % 4 = 0) (hg : s.chip.gatedAt addr.toNat = none) :
    exec (.registerWrite addr false ⟨v.setWidth 64, false⟩) s =
      .next { s with chip := (s.chip.openGates addr.toNat).regWrite addr.toNat v } := by
  have hpf : decide (0x80000000 ≤ addr.toNat) = false := by simp; omega
  have hwin : decide (0x1000000 ≤ addr.toNat) = false := by simp; omega
  have hv : (v.setWidth 64).setWidth 32 = v := by simp
  show execRegisterWrite addr false ⟨v.setWidth 64, false⟩ s = _
  simp [execRegisterWrite, Chip.hostWrite, hpf, hwin, hup, s.chip.aborts_regs true ha h4, Chip.hostAt, hg, Chip.regWrites, hv]

theorem registerWrite_row (s : State) {addr : Word} {r : RegRow} (v : Word) (hup : s.chip.pfUp false = true) (ha : addr.toNat < 0xF0000)
    (h4 : addr.toNat % 4 = 0) (hp : PlainReg addr.toNat) (hg : s.chip.gatedAt addr.toNat = none) (hr : regRow addr.toNat = some r) :
    ∃ t : State, exec (.registerWrite addr false ⟨v.setWidth 64, false⟩) s = .next t ∧
      { t.chip with regs := s.chip.regs } = s.chip ∧ t.pending = s.pending ∧
      (∀ b : Nat, b ≠ addr.toNat → t.chip.reg b = (s.chip.openGates addr.toNat).reg b) ∧
      ∀ i : Nat, i < 32 → t.chip.regBit addr.toNat i =
        if r.rw.testBit i then v.getLsbD i else if r.w1c.testBit i && v.getLsbD i then false else s.chip.regBit addr.toNat i := by
  refine ⟨_, exec_registerWrite s v hup ha h4 hg, ?_, rfl, fun b hb => ?_, fun i hi => ?_⟩ <;>
    simp only [Chip.regWrite_of_plainReg _ v h4 hp]
  · rw [Chip.plainWrite_but_regs, Chip.openGates_but_regs]
  · exact Chip.reg_plainWrite_ne _ v hb
  · rw [Chip.regBit_plainWrite _ v hr hi, Chip.regBit, Chip.reg_openGates_self, Chip.regBit]

theorem registerWrite_no_row (s : State) {addr : Word} (v : Word) (hup : s.chip.pfUp false = true) (ha : addr.toNat < 0xF0000)
    (h4 : addr.toNat % 4 = 0) (hp : PlainReg addr.toNat) (hg : s.chip.gatedAt addr.toNat = none) (hr : regRow addr.toNat = none) :
    exec (.registerWrite addr false ⟨v.setWidth 64, false⟩) s = .next { s with chip := s.chip.openGates addr.toNat } := by
  rw [exec_registerWrite s v hup ha h4 hg, Chip.regWrite_of_plainReg _ v h4 hp, Chip.plainWrite_of_no_row _ v hr]

/-! ## Poisoned writes (R260) -/

theorem registerWrite_poisoned (s : State) (addr : Word) (wide : Bool) (d : DWord)
    (hup : s.chip.pfUp (decide (0x80000000 ≤ addr.toNat)) = true) :
    exec (.registerWrite addr wide ⟨d, true⟩) s = .next { s with chip := s.chip.unsupported } := by
  show execRegisterWrite addr wide ⟨d, true⟩ s = _
  simp only [execRegisterWrite, State.act_eq, if_true, hup]

theorem windowWrite_poisoned (s : State) (bar2 wide : Bool) (off : BitVec 30) (d : DWord) (hup : s.chip.pfUp false = true) :
    exec (.hostMemoryWindowAccess bar2 off wide (some ⟨d, true⟩)) s = .next { s with chip := s.chip.unsupported } := by
  show execHostMemoryWindowAccess bar2 off wide (some ⟨d, true⟩) s = _
  simp [execHostMemoryWindowAccess, hup]

/-! ## Clear registers (R87, R509, R510) -/

/-- The registers that bit `i` of clear register `a` returns to their reset values. -/
def clearedBy (a i : Nat) : List Nat := ((clearTable.find? (fun e => e.1 == a && e.2.1 == i)).map (fun e => e.2.2)).getD []

/-- Returns registers to their reset values. -/
def Chip.resetRegs (c : Chip) (l : List Nat) : Chip := l.foldl (fun c r => c.setReg r (regReset r)) c

theorem Chip.resetRegs_but_regs (c : Chip) (l : List Nat) (m : Map Word) : { c.resetRegs l with regs := m } = { c with regs := m } :=
  foldl_keep (fun d : Chip => { d with regs := m }) (fun d r => d.setReg r (regReset r)) (fun _ _ => rfl) l c

theorem Chip.reg_resetRegs (c : Chip) (l : List Nat) (b : Nat) : (c.resetRegs l).reg b = if b ∈ l then regReset b else c.reg b := by
  induction l generalizing c with
  | nil => rfl
  | cons r l ih =>
    rw [Chip.resetRegs, List.foldl_cons, ← Chip.resetRegs, ih, Chip.reg_setReg]
    by_cases hl : b ∈ l
    · simp [hl]
    · by_cases hr : b = r <;> simp [hl, hr]

/-- A clear register that holds nothing but registers to clear. -/
theorem Chip.clearBit_eq_resetRegs (c : Chip) {a : Nat} (i : Nat) (hc : a ≠ Reg.ENG_CELL_CLR) (hn : a ≠ Reg.NET_CNT_CLR) :
    c.clearBit a i = c.resetRegs (clearedBy a i) := by
  simp only [Chip.clearBit, clearedBy, hc, hn, false_and, if_false]
  cases clearTable.find? (fun e => e.1 == a && e.2.1 == i) <;> rfl

theorem Chip.clearWrite_but_regs (c : Chip) {a : Nat} (v : Word) (m : Map Word) (hc : a ≠ Reg.ENG_CELL_CLR) (hn : a ≠ Reg.NET_CNT_CLR) :
    { c.clearWrite a v with regs := m } = { c with regs := m } := by
  refine foldl_keep (fun d : Chip => { d with regs := m }) _ (fun d i => ?_) _ c
  split
  · rw [d.clearBit_eq_resetRegs i hc hn, Chip.resetRegs_but_regs]
  · rfl

/-- A register after bits of a clear register: those of them that name it and are written 1 return it to its reset value. -/
theorem Chip.reg_clearBits (c : Chip) {a : Nat} (v : Word) (b : Nat) (hc : a ≠ Reg.ENG_CELL_CLR) (hn : a ≠ Reg.NET_CNT_CLR) (l : List Nat) :
    (l.foldl (fun c i => if v.getLsbD i then c.clearBit a i else c) c).reg b =
      if ∃ i ∈ l, v.getLsbD i = true ∧ b ∈ clearedBy a i then regReset b else c.reg b := by
  induction l generalizing c with
  | nil => simp
  | cons i l ih =>
    rw [List.foldl_cons, ih]
    by_cases hv : v.getLsbD i = true
    · simp only [hv, if_true, c.clearBit_eq_resetRegs i hc hn, Chip.reg_resetRegs, List.mem_cons, or_and_right, exists_or, exists_eq_left,
        true_and]
      by_cases hb : b ∈ clearedBy a i <;> simp only [hb, if_true, if_false, true_or, false_or, ite_self]
    · simp only [hv, Bool.false_eq_true, if_false, List.mem_cons, or_and_right, exists_or, exists_eq_left, false_and,
        false_or]

theorem Chip.reg_clearWrite (c : Chip) {a : Nat} (v : Word) (b : Nat) (hc : a ≠ Reg.ENG_CELL_CLR) (hn : a ≠ Reg.NET_CNT_CLR) :
    (c.clearWrite a v).reg b = if ∃ i ∈ List.range 9, v.getLsbD i = true ∧ b ∈ clearedBy a i then regReset b else c.reg b :=
  c.reg_clearBits v b hc hn (List.range 9)

/-- What stands in a column stands in a column that exists, and in the table. -/
theorem mem_column {cols : List (List Nat)} {i b : Nat} (h : b ∈ cols.getD i []) : i < cols.length ∧ b ∈ cols.flatten := by
  rw [List.getD_eq_getElem?_getD] at h
  cases hi : cols[i]? with
  | none =>
    rw [hi] at h
    exact absurd h List.not_mem_nil
  | some col =>
    rw [hi] at h
    obtain ⟨hl, rfl⟩ := List.getElem?_eq_some_iff.1 hi
    exact ⟨hl, List.mem_flatten_of_mem (List.getElem_mem hl) h⟩

/-- A write to the clear register of a block that no gate closes: `cols` lists what each of its bits clears, and no register stands
under two of them. -/
theorem registerWrite_clears (s : State) (v : Word) {a : Nat} (cols : List (List Nat)) (hup : s.chip.pfUp false = true) (ha : a < 0xF0000)
    (h4 : a % 4 = 0) (hb : blockUnit a = none) (hclr : isClear a = true) (hc : a ≠ Reg.ENG_CELL_CLR) (hn : a ≠ Reg.NET_CNT_CLR)
    (hcols : ∀ i < 9, clearedBy a i = cols.getD i []) (hlen : cols.length ≤ 9)
    (hone : ∀ i < cols.length, ∀ j < cols.length, ∀ b ∈ cols.getD i [], b ∈ cols.getD j [] → i = j) :
    ∃ t : State, exec (.registerWrite (BitVec.ofNat 32 a) false ⟨v.setWidth 64, false⟩) s = .next t ∧
      ((∀ b : Nat, b ∉ cols.flatten → t.chip.reg b = s.chip.reg b) ∧ { t.chip with regs := s.chip.regs } = s.chip ∧ t.pending = s.pending) ∧
      ∀ i : Nat, i < cols.length → ∀ b ∈ cols.getD i [], t.chip.reg b = if v.getLsbD i then regReset b else s.chip.reg b := by
  have haddr : (BitVec.ofNat 32 a).toNat = a := by simp; omega
  have hg : s.chip.gatedAt a = none := by simp [Chip.gatedAt, hb]
  refine ⟨_, by rw [exec_registerWrite s v hup (by rwa [haddr]) (by rwa [haddr]) (by rwa [haddr]), haddr], ?_⟩
  rw [s.chip.openGates_of_blockUnit_none hb, Chip.regWrite, if_pos hclr]
  refine ⟨⟨fun b hb' => ?_, s.chip.clearWrite_but_regs v _ hc hn, rfl⟩, fun i hi b hbi => ?_⟩ <;> rw [s.chip.reg_clearWrite v b hc hn]
  · refine if_neg fun ⟨i, hi, _, h⟩ => hb' ?_
    rw [hcols i (List.mem_range.1 hi)] at h
    exact (mem_column h).2
  · have hbit : (∃ j ∈ List.range 9, v.getLsbD j = true ∧ b ∈ clearedBy a j) ↔ v.getLsbD i = true := by
      refine ⟨fun ⟨j, hj, hv, h⟩ => ?_, fun hv => ⟨i, List.mem_range.2 (by omega), hv, by rwa [hcols i (by omega)]⟩⟩
      rw [hcols j (List.mem_range.1 hj)] at h
      rwa [hone i hi j (mem_column h).1 b hbi h]
    simp only [hbit]

/-! ## DRAM_WIN_WRITE, MSIX_COLLAPSE_WRITE and ABORT_CLR (R43, R45, R38) -/

theorem dramWinWrite_sets (s : State) (v : Word) (hup : s.chip.pfUp false = true) : ∃ t : State, exec (.dramWinWrite v) s = .next t ∧
    ((∀ b : Nat, b ∉ [Reg.GCTL_DRAM_WIN] → t.chip.reg b = s.chip.reg b) ∧ { t.chip with regs := s.chip.regs } = s.chip ∧
      t.pending = s.pending) ∧ t.chip.regFld Reg.GCTL_DRAM_WIN 4 0 = v.toNat % 32 := by
  have hrow : regRow Reg.GCTL_DRAM_WIN = some ⟨0x20, 0x0, 1, 0x0, 1, 0x0, 0x1F, 0x0⟩ := by decide
  refine ⟨{ s with chip := s.chip.plainWrite Reg.GCTL_DRAM_WIN v }, ?_, ⟨fun b hb => ?_, s.chip.plainWrite_but_regs _ v _, rfl⟩, ?_⟩
  · show execDramWinWrite v s = _
    simp only [execDramWinWrite, State.act_eq, hup, if_true]
  · exact s.chip.reg_plainWrite_ne v (by simpa using hb)
  · refine Nat.eq_of_testBit_eq fun i => ?_
    show _ = (v.toNat % 2 ^ 5).testBit i
    rw [Chip.regFld, fld, bits_testBit, Nat.testBit_mod_two_pow, Nat.zero_add]
    by_cases hi : i < 5
    · have hbit := s.chip.regBit_plainWrite v hrow (show i < 32 by omega)
      have hrw : Nat.testBit 0x1F i = true := by rw [show 0x1F = 2 ^ 5 - 1 from rfl, Nat.testBit_two_pow_sub_one]; simpa using hi
      rw [hrw, if_pos rfl, Chip.regBit, BitVec.getLsbD, BitVec.getLsbD] at hbit
      rw [hbit]
    · simp [hi]

theorem msixCollapseWrite_sets (s : State) (on : Bool) (hup : s.chip.pfUp false = true) :
    ∃ t : State, exec (.msixCollapseWrite on) s = .next t ∧
      ((∀ b : Nat, b ∉ [Reg.GCTL_MSIX_ROUTE] → t.chip.reg b = s.chip.reg b) ∧ { t.chip with regs := s.chip.regs } = s.chip ∧
        t.pending = s.pending) ∧ t.chip.regBit Reg.GCTL_MSIX_ROUTE 0 = on ∧ t.chip.msix = s.chip.msix := by
  refine ⟨{ s with chip := s.chip.setBit Reg.GCTL_MSIX_ROUTE 0 on }, ?_, ⟨fun b hb => ?_, rfl, rfl⟩, ?_, rfl⟩
  · show execMsixCollapseWrite on s = _
    simp only [execMsixCollapseWrite, State.act_eq, hup, if_true]
  · exact s.chip.reg_setBit_ne 0 on (by simpa using hb)
  · simp [Chip.regBit_setBit]

theorem abortClr_clears (s : State) (hup : s.chip.pfUp false = true) : ∃ t : State, exec .abortClr s = .next t ∧
    ((∀ b : Nat, b ∉ [Reg.GCTL_ABORT_CNT, Reg.GCTL_ABORT_LAST] → t.chip.reg b = s.chip.reg b) ∧
      { t.chip with regs := s.chip.regs } = s.chip ∧ t.pending = s.pending) ∧
    t.chip.reg Reg.GCTL_ABORT_CNT = 0 ∧ t.chip.reg Reg.GCTL_ABORT_LAST = 0 := by
  have hclr : clearedBy Reg.GCTL_CNT_CLR 0 = [Reg.GCTL_ABORT_CNT, Reg.GCTL_ABORT_LAST] := rfl
  have hcnt : regReset Reg.GCTL_ABORT_CNT = 0 := by decide
  have hlast : regReset Reg.GCTL_ABORT_LAST = 0 := by decide
  refine ⟨{ s with chip := s.chip.resetRegs [Reg.GCTL_ABORT_CNT, Reg.GCTL_ABORT_LAST] }, ?_,
    ⟨fun b hb => ?_, s.chip.resetRegs_but_regs _ _, rfl⟩, ?_, ?_⟩
  · show execAbortClr s = _
    simp only [execAbortClr, State.act_eq, hup, if_true,
      s.chip.clearBit_eq_resetRegs 0 (a := Reg.GCTL_CNT_CLR) (by decide) (by decide), hclr]
  · rw [Chip.reg_resetRegs, if_neg hb]
  · rw [Chip.reg_resetRegs, if_pos (by simp), hcnt]
  · rw [Chip.reg_resetRegs, if_pos (by simp), hlast]

end Sys2Proof.Machine
end
section
/-! SUPPORT. Writes smaller than a tile (R179) while every fault class is at LEVEL 0. -/
namespace Sys2Proof.Machine
open Sys2Proof

/-! ## Bytes -/

@[simp] theorem leBytes_length (n v : Nat) : (leBytes n v).length = n := by
  induction n generalizing v with
  | zero => rfl
  | succ n ih => simp [leBytes, ih]

/-- Byte `k` of a little-endian number (R9). -/
theorem leBytes_getElem? (n v k : Nat) (h : k < n) : (leBytes n v)[k]? = some (BitVec.ofNat 8 (v / 256 ^ k)) := by
  induction n generalizing v k with
  | zero => omega
  | succ n ih =>
    cases k with
    | zero => simp [leBytes]
    | succ k => rw [leBytes, List.getElem?_cons_succ, ih _ _ (by omega), Nat.div_div_eq_div_mul, Nat.pow_succ']

/-- One byte after a write of bytes. -/
theorem get_memWrite_leBytes (m : Map Byte) (a n v j : Nat) :
    Map.get byte0 (memWrite m a (leBytes n v)) j =
      if a ≤ j ∧ j < a + n then BitVec.ofNat 8 (v / 256 ^ (j - a)) else Map.get byte0 m j := by
  split
  next h => rw [get_memWrite, if_pos h.1, leBytes_getElem? n v _ (by omega)]; rfl
  next h => exact get_memWrite_out _ _ _ _ (by rw [leBytes_length]; omega)

/-! ## Merging into a tile -/

/-- A merge within one tile changes exactly the bytes it covers: the rest of the tile is written back as it was read (R179). -/
theorem Mem.get_merge (m : Mem) (sp : Space) (a j : Nat) (b : List Byte) (bad : Bool) (h : a % 256 + b.length ≤ 256) :
    Map.get byte0 ((m.merge sp a b bad).bytes sp) j = Map.get byte0 (memWrite (m.bytes sp) a b) j := by
  simp only [Mem.merge, Mem.putTile, Mem.bytes_set, Mem.tile, get_memWrite]
  have hold : ∀ k < 256, (memRead (m.bytes sp) (256 * (a / 256)) 256)[k]? = some (Map.get byte0 (m.bytes sp) (256 * (a / 256) + k)) :=
    fun k hk => memRead_getElem? _ _ _ _ hk
  by_cases hlo : j < 256 * (a / 256)
  · rw [if_neg (by omega), if_neg (by omega)]
  by_cases hhi : 256 * (a / 256) + 256 ≤ j
  · rw [if_pos (by omega), if_pos (by omega), List.getElem?_eq_none (by simp; omega), List.getElem?_eq_none (by omega)]
  obtain ⟨k, rfl⟩ := Nat.exists_eq_add_of_le (Nat.le_of_not_lt hlo)
  have hk : k < 256 := by omega
  rw [if_pos (by omega), Nat.add_sub_cancel_left]
  by_cases hbefore : k < a % 256
  · rw [if_neg (by omega), List.append_assoc, List.getElem?_append_left (by simp; omega), List.getElem?_take_of_lt hbefore, hold k hk]
    rfl
  rw [if_pos (by omega), show 256 * (a / 256) + k - a = k - a % 256 by omega]
  by_cases hafter : a % 256 + b.length ≤ k
  · rw [List.getElem?_append_right (by simp; omega), List.getElem?_drop, List.getElem?_eq_none (l := b) (by omega)]
    simp only [List.length_append, List.length_take, memRead_length]
    rw [show a % 256 + b.length + (k - (min (a % 256) 256 + b.length)) = k by omega, hold k hk]
    rfl
  · rw [List.getElem?_append_left (by simp; omega), List.getElem?_append_right (by simp; omega)]
    simp only [List.length_take, memRead_length]
    rw [show min (a % 256) 256 = a % 256 by omega, List.getElem?_eq_getElem (by omega)]

/-- A merge leaves the mark exactly where the tile carried it or failed its check (R179). -/
theorem Mem.marked_merge (m : Mem) (sp : Space) (a : Nat) (b : List Byte) (bad : Bool) :
    marked ((m.merge sp a b bad).entry sp (a / 256)) = (bad || marked (m.entry sp (a / 256)) || m.fails sp (a / 256)) :=
  Mem.marked_putTile m sp _ _ _

theorem Mem.entry_merge_ne (m : Mem) (sp : Space) {a k : Nat} (b : List Byte) (bad : Bool) (h : k ≠ a / 256) :
    (m.merge sp a b bad).entry sp k = m.entry sp k := by
  rw [Mem.merge, Mem.entry_putTile, if_neg h]

/-! ## A failed check at LEVEL 0 (R178, R501) -/

/-- A register that is not a configuration of a fault class does not show in its LEVEL. -/
theorem Chip.level_setReg (c : Chip) {a : Nat} (k : Nat) (v : Word) (h : Reg.FLT_CFG k ≠ a) : (c.setReg a v).level k = c.level k := by
  unfold Chip.level Chip.regFld
  rw [Chip.reg_setReg_ne c v h]

theorem Chip.level_event (c : Chip) {a : Nat} (k i v : Nat) (ok : Bool) (h : Reg.FLT_CFG k ≠ a) : (c.event a i v ok).level k = c.level k := by
  unfold Chip.level Chip.regFld
  rw [Chip.event_reg_ne c i v ok h]

/-- At LEVEL 0 a failed check of a tile of a cell or a region is counted and recorded, and nothing reacts. -/
theorem Chip.tileCheck_level0 (c : Chip) (mover pcell region tile : Nat) (h : c.level 0 = 0) :
    c.tileCheck mover pcell region tile =
      ((c.bump Reg.ENG_TCHK_CNT).setReg Reg.ENG_TCHK_LAST
        (putFld (putFld (putFld (putFld 0 31 28 mover) 24 16 pcell) 15 14 region) 13 0 tile)).event Reg.ENG_CHAIN_EVENT 2 17 false := by
  have hlvl : decide (1 ≤ c.level 0) = false := by simp [h]
  unfold Chip.tileCheck
  simp only [hlvl]
  refine Chip.raise_level0 _ .tileCheck _ _ ?_
  show Chip.level _ 0 = 0
  rw [Chip.level_event _ _ _ _ _ (by decide), Chip.level_setReg _ _ _ (by decide), Chip.bump, Chip.setFld, Chip.modReg,
    Chip.level_setReg _ _ _ (by decide), h]

/-- At LEVEL 0 a failed check of a tile of DRAM is counted and recorded, and nothing reacts. -/
theorem Chip.dramFail_level0 (c : Chip) (t : Nat) (h : c.level 0 = 0) :
    c.dramFail t = ((c.ddrCount Reg.DDR_TCHK_CNT t).setReg Reg.DDR_TCHK_ADDR (BitVec.ofNat 32 (t % 2 ^ 27))).setBit Reg.DDR_EVENT 1 true := by
  refine Chip.raise_level0 _ .tileCheck _ _ ?_
  show Chip.level _ 0 = 0
  simp only [Chip.setBit, Chip.ddrCount, Chip.bump, Chip.setFld, Chip.modReg]
  rw [Chip.level_setReg _ _ _ (by decide), Chip.level_setReg _ _ _ (by decide), Chip.level_setReg _ _ _ (by decide),
    Chip.level_setReg _ _ _ (by decide), h]

/-- At LEVEL 0 a write of part of a tile merges its bytes into the memory, and the engine and the cells stay as they were. -/
theorem Chip.tileWrite_part (c : Chip) (sp : Space) (a : Nat) (b : List Byte) (mark : Bool) (hb : b.length < 256) (h : c.level 0 = 0) :
    (c.tileWrite sp a b mark).mem = c.mem.merge sp a b mark ∧ (c.tileWrite sp a b mark).eng = c.eng ∧
      (c.tileWrite sp a b mark).cells = c.cells := by
  unfold Chip.tileWrite
  rw [if_neg (fun hw => by omega)]
  dsimp only
  split
  next =>
    unfold Chip.dramCheck
    split
    next => rw [c.dramFail_level0 _ h]; exact ⟨rfl, rfl, rfl⟩
    next => exact ⟨rfl, rfl, rfl⟩
  next =>
    split
    next => rw [c.tileCheck_level0 _ _ _ _ h]; simp
    next => exact ⟨rfl, rfl, rfl⟩

/-! ## The memory windows (R180) -/

/-- What a write of `n` bytes of `v` at `b` in memory `sp` makes of the chip: the bytes covered are replaced, the tile's mark stands
where it stood or where the tile failed its check, and the engine and the cells stay as they were. -/
def Chip.WroteBytes (c : Chip) (sp : Space) (b n v : Nat) (d : Chip) : Prop :=
  (∀ i : Nat, memRead (d.mem.bytes sp) i 1 =
      if b ≤ i ∧ i < b + n then [BitVec.ofNat 8 (v / 256 ^ (i - b))] else memRead (c.mem.bytes sp) i 1) ∧
    (marked (d.mem.entry sp (b / 256)) = true ↔ (marked (c.mem.entry sp (b / 256)) = true ∨ c.mem.fails sp (b / 256) = true)) ∧
    (∀ k : Nat, k ≠ b / 256 → d.mem.entry sp k = c.mem.entry sp k) ∧ d.eng = c.eng ∧ d.cells = c.cells

/-- An aligned write of 4 or 8 bytes, which lies within one tile. -/
theorem Chip.tileWrite_wroteBytes (c : Chip) (sp : Space) (b v : Nat) (wide : Bool) (hal : b % (if wide then 8 else 4) = 0)
    (h : c.level 0 = 0) :
    c.WroteBytes sp b (if wide then 8 else 4) v (c.tileWrite sp b (leBytes (if wide then 8 else 4) v) false) := by
  have hin : b % 256 + (if wide then 8 else 4) ≤ 256 ∧ (if wide then 8 else 4) < 256 := by
    cases wide <;> simp only [if_true, Bool.false_eq_true, if_false] at hal ⊢ <;> omega
  generalize (if wide then 8 else 4) = n at hin ⊢
  obtain ⟨hmem, heng, hcells⟩ := c.tileWrite_part sp b (leBytes n v) false (by rw [leBytes_length]; exact hin.2) h
  refine ⟨fun i => ?_, ?_, fun k hk => ?_, heng, hcells⟩ <;> rw [hmem]
  · simp only [memRead]
    rw [Mem.get_merge _ _ _ _ _ _ (by rw [leBytes_length]; exact hin.1), get_memWrite_leBytes]
    split <;> rfl
  · rw [Mem.marked_merge, Bool.false_or, Bool.or_eq_true]
  · exact Mem.entry_merge_ne _ _ _ _ hk

/-- A write through the region memory window (R180). -/
theorem exec_regionWindowWrite (s : State) (wide : Bool) (off : BitVec 30) (d : DWord) (hup : s.chip.pfUp false = true)
    (hal : off.toNat % (if wide then 8 else 4) = 0) (hlo : 0x1000000 ≤ off.toNat) (hhi : off.toNat < 0x2000000) :
    exec (.hostMemoryWindowAccess false off wide (some ⟨d, false⟩)) s =
      .next { s with chip := s.chip.tileWrite .region (off.toNat - 0x1000000) (leBytes (if wide then 8 else 4) d.toNat) false } := by
  have hab : s.chip.aborts 0 off.toNat (if wide then 8 else 4) true = false := by
    cases wide <;> simp only [if_true, Bool.false_eq_true, if_false] at hal ⊢ <;> simp [Chip.aborts, hal, hlo, hhi]
  show execHostMemoryWindowAccess false off wide (some ⟨d, false⟩) s = _
  simp [execHostMemoryWindowAccess, hup, Chip.window, hab, Nat.not_lt.2 hlo]

/-- A write through BAR2, at the DRAM address that WIN gives (R43, R180). -/
theorem exec_dramWindowWrite (s : State) (wide : Bool) (off : BitVec 30) (d : DWord) (hup : s.chip.pfUp false = true)
    (hal : off.toNat % (if wide then 8 else 4) = 0) (hin : s.chip.winAddr off.toNat + (if wide then 8 else 4) ≤ s.chip.dramUsable) :
    exec (.hostMemoryWindowAccess true off wide (some ⟨d, false⟩)) s =
      .next { s with chip := s.chip.tileWrite .dram (s.chip.winAddr off.toNat) (leBytes (if wide then 8 else 4) d.toNat) false } := by
  have hoff : off.toNat < 1073741824 := off.isLt
  have hab : s.chip.aborts 1 off.toNat (if wide then 8 else 4) true = false := by
    cases wide <;> simp only [if_true, Bool.false_eq_true, if_false] at hal hin ⊢ <;> simp [Chip.aborts, hal, hin, hoff]
  show execHostMemoryWindowAccess true off wide (some ⟨d, false⟩) s = _
  simp [execHostMemoryWindowAccess, hup, Chip.window, hab]

theorem regionWindowWrite_writes (s : State) (wide : Bool) (off : BitVec 30) (d : DWord) (hup : s.chip.pfUp false = true)
    (hal : off.toNat % (if wide then 8 else 4) = 0) (hlo : 0x1000000 ≤ off.toNat) (hhi : off.toNat < 0x2000000) (hq : Quiet s) :
    ∃ t : State, exec (.hostMemoryWindowAccess false off wide (some ⟨d, false⟩)) s = .next t ∧
      s.chip.WroteBytes .region (off.toNat - 0x1000000) (if wide then 8 else 4) d.toNat t.chip := by
  refine ⟨_, exec_regionWindowWrite s wide off d hup hal hlo hhi, ?_⟩
  dsimp only
  refine s.chip.tileWrite_wroteBytes .region _ _ wide ?_ (hq 0 (by decide))
  cases wide <;> simp only [if_true, Bool.false_eq_true, if_false] at hal ⊢ <;> omega

theorem dramWindowWrite_writes (s : State) (wide : Bool) (off : BitVec 30) (d : DWord) (hup : s.chip.pfUp false = true)
    (hal : off.toNat % (if wide then 8 else 4) = 0)
    (hin : s.chip.winAddr off.toNat + (if wide then 8 else 4) ≤ s.chip.dramUsable) (hq : Quiet s) :
    ∃ t : State, exec (.hostMemoryWindowAccess true off wide (some ⟨d, false⟩)) s = .next t ∧
      s.chip.WroteBytes .dram (s.chip.winAddr off.toNat) (if wide then 8 else 4) d.toNat t.chip := by
  refine ⟨_, exec_dramWindowWrite s wide off d hup hal hin, ?_⟩
  dsimp only
  refine s.chip.tileWrite_wroteBytes .dram _ _ wide ?_ (hq 0 (by decide))
  unfold Chip.winAddr
  cases wide <;> simp only [if_true, Bool.false_eq_true, if_false] at hal ⊢ <;> omega

end Sys2Proof.Machine
end
section
/-! PROOFS. What a write of the host does (R12 to R14, R38, R43, R45, R87, R179, R260, R350). -/
namespace Sys2Proof.Machine
open Sys2Proof

/-- Settles O37: each kind of write by its own lemma. -/
theorem hostWrites : Obligations.HostWrites := by
  intro s addr v d r on wide bar2 off
  refine ⟨fun hup ha h4 hp hg hr => registerWrite_row s v hup ha h4 hp hg hr,
    fun hup ha h4 hp hg hr => registerWrite_no_row s v hup ha h4 hp hg hr,
    registerWrite_poisoned s addr wide d, windowWrite_poisoned s bar2 wide off d,
    fun hup => ?_, dramWinWrite_sets s v, msixCollapseWrite_sets s on, abortClr_clears s,
    regionWindowWrite_writes s wide off d, dramWindowWrite_writes s wide off d⟩
  refine ⟨?_, ?_, ?_⟩ <;> exact registerWrite_clears s v _ hup (by decide) (by decide) (by decide) (by decide) (by decide) (by decide)
    (by decide) (by decide) (by decide)

end Sys2Proof.Machine
end
section
/-! SUPPORT. Completer Abort and accesses to force-gated units (R36, R37, R41, R353). -/
namespace Sys2Proof.Machine
open Sys2Proof

/-! ## Completer Abort (R41) -/

/-- `d` is `c` after an access to offset `a` of space `sp` has been answered with Completer Abort. -/
def Chip.AbortedTo (c d : Chip) (sp a : Nat) : Prop :=
  d.host.rsp = { status := 2, data := 0 } ∧ d.host.latches = c.host.latches ∧
    d.regFld Reg.GCTL_ABORT_CNT 15 0 = min 65535 (c.regFld Reg.GCTL_ABORT_CNT 15 0 + 1) ∧ d.regFld Reg.GCTL_ABORT_LAST 31 30 = sp ∧
    d.regFld Reg.GCTL_ABORT_LAST 29 0 = a ∧ (∀ r : Nat, r ≠ Reg.GCTL_ABORT_CNT → r ≠ Reg.GCTL_ABORT_LAST → d.reg r = c.reg r) ∧
    { d with host := c.host, regs := c.regs } = c

theorem Chip.hostAbort_but_host_regs (c : Chip) (sp a : Nat) (h : HostState) (m : Map Word) :
    { c.hostAbort sp a with host := h, regs := m } = { c with host := h, regs := m } := rfl

theorem Chip.reg_hostAbort (c : Chip) (sp a r : Nat) : (c.hostAbort sp a).reg r =
    if r = Reg.GCTL_ABORT_LAST then putFld (putFld 0 31 30 sp) 29 0 a else (c.bump Reg.GCTL_ABORT_CNT).reg r :=
  (c.bump Reg.GCTL_ABORT_CNT).reg_setReg Reg.GCTL_ABORT_LAST r _

theorem Chip.reg_hostAbort_ne (c : Chip) (sp a : Nat) {r : Nat} (hc : r ≠ Reg.GCTL_ABORT_CNT) (hl : r ≠ Reg.GCTL_ABORT_LAST) :
    (c.hostAbort sp a).reg r = c.reg r := by
  rw [Chip.reg_hostAbort, if_neg hl, Chip.reg_bump_ne c hc]

theorem Chip.hostAbort_count (c : Chip) (sp a : Nat) :
    (c.hostAbort sp a).regFld Reg.GCTL_ABORT_CNT 15 0 = min 65535 (c.regFld Reg.GCTL_ABORT_CNT 15 0 + 1) := by
  rw [← c.bump_count, Chip.regFld, Chip.reg_hostAbort, if_neg (by decide), Chip.regFld]

theorem Chip.hostAbort_abortedTo (c : Chip) {sp a : Nat} (hsp : sp < 4) (ha : a < 2 ^ 30) : c.AbortedTo (c.hostAbort sp a) sp a := by
  refine ⟨rfl, rfl, c.hostAbort_count sp a, ?_, ?_, fun r => c.reg_hostAbort_ne sp a, rfl⟩ <;> rw [Chip.regFld, Chip.reg_hostAbort, if_pos rfl]
  · rw [fld_putFld_ne _ _ _ _ _ _ (.inr (by decide)), fld_putFld _ _ _ _ (by decide)]
    exact Nat.mod_eq_of_lt hsp
  · rw [fld_putFld _ _ _ _ (by decide)]
    exact Nat.mod_eq_of_lt ha

/-! ## Which accesses are aborted (R36, R37, R39, R181, R288) -/

/-- An access of 4 bytes aligned to 4, or of 8 aligned to 8 (R36). -/
def Aligned (off len : Nat) : Prop := (len = 4 ∧ off % 4 = 0) ∨ (len = 8 ∧ off % 8 = 0)

theorem aligned_width (off : Nat) (wide : Bool) : Aligned off (if wide then 8 else 4) ↔ off % (if wide then 8 else 4) = 0 := by
  cases wide <;> simp [Aligned]

/-- The alignment comes first, whatever place the access then names. -/
theorem ite_misaligned_iff {place : Bool} {p : Prop} (off len : Nat) (h : place = true ↔ p) :
    (if !((len == 4 && off % 4 == 0) || (len == 8 && off % 8 == 0)) then true else place) = true ↔ ¬ Aligned off len ∨ p := by
  have hmis : (!((len == 4 && off % 4 == 0) || (len == 8 && off % 8 == 0))) = true ↔ ¬ Aligned off len := by
    simp only [Aligned, Bool.not_eq_true', ← Bool.not_eq_true, Bool.or_eq_true, Bool.and_eq_true, beq_iff_eq]
  by_cases ha : Aligned off len
  · rw [if_neg (fun hm => hmis.1 hm ha), h]
    simp [ha]
  · rw [if_pos (hmis.2 ha)]
    simp [ha]

theorem Chip.aborts_pf0 (c : Chip) (off len : Nat) (write : Bool) :
    c.aborts 0 off len write = true ↔ ¬ Aligned off len ∨ ¬ (off < 0xF0000 ∨ (0x1000000 ≤ off ∧ off < 0x2000000)) :=
  ite_misaligned_iff off len (by
    simp only [if_true, Bool.not_eq_true', ← Bool.not_eq_true, Bool.or_eq_true, Bool.and_eq_true, decide_eq_true_eq])

theorem Chip.aborts_bar2 (c : Chip) {off : Nat} (len : Nat) (write : Bool) (ho : off < 2 ^ 30) :
    c.aborts 1 off len write = true ↔ ¬ Aligned off len ∨ c.dramUsable < c.winAddr off + len :=
  ite_misaligned_iff off len (by rw [if_neg (by decide), if_pos rfl, decide_eq_true ho]; simp)

theorem Chip.aborts_pf1 (c : Chip) (off len : Nat) (write : Bool) :
    c.aborts 2 off len write = true ↔ ¬ Aligned off len ∨ (¬ (0x10000 ≤ off ∧ off < 0x20000) ∧
      (¬ (0x100000 ≤ off ∧ off < 0x140000) ∨ write = true ∨ c.cmd.session.isOpen = false)) := by
  refine ite_misaligned_iff off len ?_
  rw [if_neg (by decide), if_neg (by decide), if_pos rfl]
  by_cases hcmd : 0x10000 ≤ off ∧ off < 0x20000
  · simp [hcmd]
  · by_cases hbook : 0x100000 ≤ off ∧ off < 0x140000
    · simp only [hcmd, hbook, if_true, if_false, Bool.or_eq_true, Bool.not_eq_true', not_true_eq_false, not_false_eq_true, false_or, true_and]
    · simp only [hcmd, hbook, if_false, not_false_eq_true, true_or, and_self]

/-! ## Accesses to a force-gated unit (R353) -/

theorem Chip.forceHit_but_host_regs (c : Chip) (u : Nat) (h : HostState) (m : Map Word) :
    { c.forceHit u with host := h, regs := m } = { c with host := h, regs := m } := rfl

theorem Chip.reg_forceHit_ne (c : Chip) (u : Nat) {r : Nat} (hh : r ≠ Reg.CLK_FORCE_HIT) (he : r ≠ Reg.CLK_EVENT) :
    (c.forceHit u).reg r = c.reg r := by
  rw [Chip.forceHit, Chip.reg_setBit_ne _ _ _ he, Chip.reg_setFld_ne _ _ _ _ hh, Chip.reg_bump_ne _ hh]

theorem Chip.forceHit_count (c : Chip) (u : Nat) :
    (c.forceHit u).regFld Reg.CLK_FORCE_HIT 15 0 = min 65535 (c.regFld Reg.CLK_FORCE_HIT 15 0 + 1) := by
  rw [Chip.regFld, Chip.forceHit, Chip.reg_setBit_ne _ _ _ (by decide), ← Chip.regFld, Chip.regFld_setFld_apart _ _ _ _ _ _ _ (.inl (by decide)),
    Chip.bump_count]

theorem Chip.forceHit_unit (c : Chip) {u : Nat} (hu : u < 8) : (c.forceHit u).regFld Reg.CLK_FORCE_HIT 31 29 = u := by
  rw [Chip.regFld, Chip.forceHit, Chip.reg_setBit_ne _ _ _ (by decide), ← Chip.regFld, Chip.regFld_setFld _ _ _ _ _ (by decide)]
  exact Nat.mod_eq_of_lt hu

theorem Chip.forceHit_event (c : Chip) (u : Nat) : (c.forceHit u).regBit Reg.CLK_EVENT 4 = true := by
  rw [Chip.forceHit, Chip.regBit_setBit, if_pos rfl]
  rfl

/-- `d` is `c` after a host access to offset `a` has met the force-gated unit `u`: counted with its unit, and answered with
Completer Abort. -/
def Chip.GateHitBy (c d : Chip) (u : Nat) : Prop :=
  d.host.rsp = { status := 2, data := 0 } ∧
    d.regFld Reg.GCTL_ABORT_CNT 15 0 = min 65535 (c.regFld Reg.GCTL_ABORT_CNT 15 0 + 1) ∧
    d.regFld Reg.CLK_FORCE_HIT 15 0 = min 65535 (c.regFld Reg.CLK_FORCE_HIT 15 0 + 1) ∧ d.regFld Reg.CLK_FORCE_HIT 31 29 = u ∧
    d.regBit Reg.CLK_EVENT 4 = true ∧ { d with host := c.host, regs := c.regs } = c ∧
    ∀ r : Nat, r ∉ [Reg.GCTL_ABORT_CNT, Reg.GCTL_ABORT_LAST, Reg.CLK_FORCE_HIT, Reg.CLK_EVENT] → d.reg r = c.reg r

theorem Chip.forceHit_hostAbort_gateHitBy (c : Chip) {u : Nat} (a : Nat) (hu : u < 8) : c.GateHitBy ((c.forceHit u).hostAbort 0 a) u := by
  refine ⟨rfl, ?_, ?_, ?_, ?_, ?_, fun r hr => ?_⟩
  · rw [Chip.hostAbort_count, Chip.regFld, Chip.reg_forceHit_ne _ _ (by decide) (by decide), Chip.regFld]
  · rw [Chip.regFld, Chip.reg_hostAbort_ne _ _ _ (by decide) (by decide), ← Chip.regFld, Chip.forceHit_count]
  · rw [Chip.regFld, Chip.reg_hostAbort_ne _ _ _ (by decide) (by decide), ← Chip.regFld, Chip.forceHit_unit c hu]
  · rw [Chip.regBit, Chip.reg_hostAbort_ne _ _ _ (by decide) (by decide), ← Chip.regBit, Chip.forceHit_event]
  · rw [Chip.hostAbort_but_host_regs, Chip.forceHit_but_host_regs]
  · simp only [List.mem_cons, List.not_mem_nil, or_false, not_or] at hr
    obtain ⟨hcnt, hlast, hhit, hev⟩ := hr
    rw [Chip.reg_hostAbort_ne _ _ _ hcnt hlast, Chip.reg_forceHit_ne _ _ hhit hev]

theorem blockUnit_of_mem {off u : Nat} (h : (off / 65536, u) ∈ [(5, 0), (13, 1), (6, 2), (7, 3)]) :
    blockUnit off = some u ∧ u < 4 ∧ off < 0xE0000 := by
  simp only [List.mem_cons, Prod.mk.injEq, List.not_mem_nil, or_false] at h
  obtain ⟨hb, rfl⟩ | ⟨hb, rfl⟩ | ⟨hb, rfl⟩ | ⟨hb, rfl⟩ := h <;> exact ⟨by simp [blockUnit, hb], by omega, by omega⟩

theorem Chip.hostAt_forced (c : Chip) {off u : Nat} (f : Chip → Chip) (hb : blockUnit off = some u) (hf : c.forced u = true) :
    c.hostAt off f = (c.forceHit u).hostAbort 0 off := by
  have hg : c.gatedAt off = some u := by rw [Chip.gatedAt, hb, Option.filter_some, if_pos hf]
  rw [Chip.hostAt, hg]

/-! ## The row HOST_ACCESS_ABORT -/

theorem exec_hostAccessAbort (s : State) (space : BitVec 2) (off : BitVec 30) (len : BitVec 4) (write : Bool) (hs : space ≠ 3) :
    exec (.hostAccessAbort space off len write) s = .next
    { s with chip :=
      if s.chip.pfUp (decide (space = 2)) = true ∧ s.chip.aborts space.toNat off.toNat len.toNat write = true then
        s.chip.hostAbort space.toNat off.toNat
      else s.chip } := by
  have hk : ∀ x : BitVec 2, x ≠ 3 → x.toNat < 3 ∧ spacePf1 x.toNat = decide (x = 2) := by decide
  show execHostAccessAbort space off len write s = _
  simp only [execHostAccessAbort, State.act_eq, hk space hs, decide_true, Bool.true_and, Bool.and_eq_true]

/-- The rule of R36 to R39, R181 and R288 over the three BAR spaces. -/
def Chip.AbortRule (c : Chip) (space : BitVec 2) (off len : Nat) (write : Bool) : Prop :=
  ¬ Aligned off len ∨ (space = 0 ∧ ¬ (off < 0xF0000 ∨ (0x1000000 ≤ off ∧ off < 0x2000000))) ∨
    (space = 1 ∧ c.dramUsable < c.winAddr off + len) ∨
    (space = 2 ∧ ¬ (0x10000 ≤ off ∧ off < 0x20000) ∧
      (¬ (0x100000 ≤ off ∧ off < 0x140000) ∨ write = true ∨ c.cmd.session.isOpen = false))

theorem Chip.aborts_iff_rule (c : Chip) {space : BitVec 2} {off : Nat} (len : Nat) (write : Bool) (hs : space ≠ 3) (ho : off < 2 ^ 30) :
    c.aborts space.toNat off len write = true ↔ c.AbortRule space off len write := by
  have hcases : ∀ x : BitVec 2, x ≠ 3 → x = 0 ∨ x = 1 ∨ x = 2 := by decide
  obtain rfl | rfl | rfl := hcases space hs
  · exact (c.aborts_pf0 off len write).trans (by simp [Chip.AbortRule])
  · exact (c.aborts_bar2 len write ho).trans (by simp [Chip.AbortRule])
  · exact (c.aborts_pf1 off len write).trans (by simp [Chip.AbortRule])

/-! ## Window accesses and register writes under the rule -/

theorem windowAccess_aborted (s : State) (bar2 wide : Bool) (off : BitVec 30) (w : Option TlpWrite) (hup : s.chip.pfUp false = true)
    (hw : ∀ x : TlpWrite, w = some x → x.poison = false)
    (hab : ∀ write : Bool, s.chip.aborts (if bar2 then 1 else 0) off.toNat (if wide then 8 else 4) write = true) :
    ∃ t : State, exec (.hostMemoryWindowAccess bar2 off wide w) s = .next t ∧ s.chip.AbortedTo t.chip (if bar2 then 1 else 0) off.toNat := by
  have hclean : w.any (fun x => x.poison) = false := by
    cases w with
    | none => rfl
    | some x => exact hw x rfl
  refine ⟨{ s with chip := s.chip.hostAbort (if bar2 then 1 else 0) off.toNat }, ?_,
    s.chip.hostAbort_abortedTo (by cases bar2 <;> decide) off.isLt⟩
  show execHostMemoryWindowAccess bar2 off wide w s = _
  simp only [execHostMemoryWindowAccess, State.act_eq, hup, hclean, Chip.window, hab, Bool.not_true, Bool.false_eq_true, if_false, if_true]

theorem fieldbookWindowRead_aborted (s : State) (foff : BitVec 18) (wide : Bool) (hup : s.chip.pfUp true = true)
    (h : foff.toNat % (if wide then 8 else 4) ≠ 0 ∨ s.chip.cmd.session.isOpen = false) :
    ∃ t : State, exec (.fieldbookWindowRead foff wide) s = .next t ∧ s.chip.AbortedTo t.chip 2 (0x100000 + foff.toNat) := by
  have hlt : foff.toNat < 2 ^ 18 := foff.isLt
  have hab : s.chip.aborts 2 (0x100000 + foff.toNat) (if wide then 8 else 4) false = true := by
    rw [Chip.aborts_pf1, aligned_width]
    refine h.imp (fun hm => ?_) (fun hc => ⟨by omega, .inr (.inr hc)⟩)
    cases wide <;> simp only [if_true, Bool.false_eq_true, if_false] at hm ⊢ <;> omega
  refine ⟨{ s with chip := s.chip.hostAbort 2 (0x100000 + foff.toNat) }, ?_, s.chip.hostAbort_abortedTo (by decide) (by omega)⟩
  show execFieldbookWindowRead foff wide s = _
  simp only [execFieldbookWindowRead, State.act_eq, hup, hab, Bool.not_true, Bool.false_eq_true, if_false, if_true]

/-- A write of PF0 registers that is not poisoned, at an address that is an offset of BAR0. -/
theorem exec_registerWrite_pf0 (s : State) (off : BitVec 30) (wide : Bool) (v : DWord) (hup : s.chip.pfUp false = true) :
    exec (.registerWrite (off.setWidth 32) wide ⟨v, false⟩) s = .next
    { s with chip :=
      if s.chip.aborts 0 off.toNat (if wide then 8 else 4) true = true then s.chip.hostAbort 0 off.toNat
      else if 0x1000000 ≤ off.toNat then s.chip.window false off.toNat (if wide then 8 else 4) (some v)
      else s.chip.hostAt off.toNat (fun c => c.regWrites off.toNat wide v) } := by
  have hlt : off.toNat < 2 ^ 30 := off.isLt
  have haddr : (off.setWidth 32).toNat = off.toNat := by simp; omega
  have hpf : decide (0x80000000 ≤ off.toNat) = false := by simp; omega
  show execRegisterWrite (off.setWidth 32) wide ⟨v, false⟩ s = _
  simp [execRegisterWrite, Chip.hostWrite, haddr, hpf, hup]

theorem registerWrite_aborted (s : State) (off : BitVec 30) (wide : Bool) (v : DWord) (hup : s.chip.pfUp false = true)
    (hlo : 0xF0000 ≤ off.toNat) (hhi : off.toNat < 0x1000000) :
    ∃ t : State, exec (.registerWrite (off.setWidth 32) wide ⟨v, false⟩) s = .next t ∧ s.chip.AbortedTo t.chip 0 off.toNat := by
  refine ⟨_, exec_registerWrite_pf0 s off wide v hup, ?_⟩
  rw [if_pos ((s.chip.aborts_pf0 _ _ _).2 (.inr (by omega)))]
  exact s.chip.hostAbort_abortedTo (by decide) off.isLt

/-! ## Register accesses that meet a force-gated unit -/

theorem registerWrite_gateHit (s : State) {off : BitVec 30} {u : Nat} (wide : Bool) (v : DWord) (hup : s.chip.pfUp false = true)
    (hal : off.toNat % (if wide then 8 else 4) = 0) (hu : (off.toNat / 65536, u) ∈ [(5, 0), (13, 1), (6, 2), (7, 3)])
    (hf : s.chip.forced u = true) :
    ∃ t : State, exec (.registerWrite (off.setWidth 32) wide ⟨v, false⟩) s = .next t ∧ s.chip.GateHitBy t.chip u := by
  obtain ⟨hb, hu4, hlt⟩ := blockUnit_of_mem hu
  refine ⟨_, exec_registerWrite_pf0 s off wide v hup, ?_⟩
  rw [if_neg (fun hab => ((s.chip.aborts_pf0 _ _ _).1 hab).elim (· ((aligned_width _ wide).2 hal)) (by omega)), if_neg (by omega),
    s.chip.hostAt_forced _ hb hf]
  exact s.chip.forceHit_hostAbort_gateHitBy _ (by omega)

theorem latchedLoRead_gateHit (s : State) {off : BitVec 30} {u : Nat} (hup : s.chip.pfUp false = true)
    (hu : (off.toNat / 65536, u) ∈ [(5, 0), (13, 1), (6, 2), (7, 3)]) (hf : s.chip.forced u = true) (hl : latchOf off.toNat ≠ []) :
    ∃ t : State, exec (.latchedLoRead (off.setWidth 32)) s = .next t ∧ s.chip.GateHitBy t.chip u := by
  obtain ⟨hb, hu4, hlt⟩ := blockUnit_of_mem hu
  have haddr : (off.setWidth 32).toNat = off.toNat := by simp; omega
  refine ⟨{ s with chip := (s.chip.forceHit u).hostAbort 0 off.toNat }, ?_, s.chip.forceHit_hostAbort_gateHitBy _ (by omega)⟩
  show execLatchedLoRead (off.setWidth 32) s = _
  simp [execLatchedLoRead, haddr, hup, hl, s.chip.hostAt_forced _ hb hf]

end Sys2Proof.Machine
end
section
/-! PROOFS. Accesses that are answered with Completer Abort (R36, R37, R39, R41, R181, R288, R353). -/
namespace Sys2Proof.Machine
open Sys2Proof

/-- Settles O36: each kind of access by its own lemma. -/
theorem hostAborts : Obligations.HostAborts := by
  intro s space off len write wide foff w v u
  refine ⟨fun hup hs hr => ?_, fun hr hs => ?_, fun hup hw h => ?_, fun hup hw h => ?_, fieldbookWindowRead_aborted s foff wide,
    registerWrite_aborted s off wide v, fun hup hal hu hf i hi hl => ?_⟩
  · refine ⟨_, exec_hostAccessAbort s space off len write hs, ?_⟩
    rw [if_pos ⟨hup, (s.chip.aborts_iff_rule _ _ hs off.isLt).2 hr⟩]
    exact s.chip.hostAbort_abortedTo space.isLt off.isLt
  · rw [exec_hostAccessAbort s space off len write hs, if_neg (fun h => hr ((s.chip.aborts_iff_rule _ _ hs off.isLt).1 h.2))]
  · refine windowAccess_aborted s false wide off w hup hw fun wr => (s.chip.aborts_pf0 _ _ _).2 ?_
    exact h.imp (mt (aligned_width _ wide).1) (by omega)
  · refine windowAccess_aborted s true wide off w hup hw fun wr => (s.chip.aborts_bar2 _ _ off.isLt).2 ?_
    exact h.imp_left (mt (aligned_width _ wide).1)
  · simp only [List.mem_cons, List.not_mem_nil, or_false] at hi
    obtain rfl | rfl := hi
    · exact registerWrite_gateHit s wide v hup hal hu hf
    · exact latchedLoRead_gateHit s hup hu hf (hl rfl)

end Sys2Proof.Machine
end
section
/-! SUPPORT. Reads of the host: the halves that a read latches (R40, R61) and the memory windows (R180). -/
namespace Sys2Proof.Machine
open Sys2Proof

/-! ## Low and high halves -/

/-- The low and high halves that are shown from state. -/
def shownHalves : List Nat :=
  [Reg.GCTL_TICK_LO, Reg.GCTL_TICK_HI, Reg.ENG_TICK_LO, Reg.ENG_TICK_HI, Reg.ENG_LIVE_ID_LO, Reg.ENG_LIVE_ID_HI, Reg.PAIR_HB_TICK_LO,
    Reg.PAIR_HB_TICK_HI, Reg.PAIR_RELEASE_LO, Reg.PAIR_RELEASE_HI, Reg.NET_TIME_NS, Reg.NET_TIME_SEC_LO, Reg.NET_TIME_SEC_HI]

/-- The low and high halves that are stored. -/
def storedHalves : List Nat :=
  [Reg.SAP_REL_TICK_LO, Reg.SAP_REL_TICK_HI, Reg.BMX_DEC_ADDR_LO, Reg.BMX_DEC_ADDR_HI, Reg.BMX_ERR_ADDR_LO, Reg.BMX_ERR_ADDR_HI] ++
    (List.range 16).map Reg.DMA_CH_RES_ADDR_LO ++ (List.range 16).map Reg.DMA_CH_RES_ADDR_HI

/-- A register that a 32-bit read latches a half of is a low half. -/
theorem mem_halves_of_latchOf {a : Nat} (h : latchOf a ≠ []) : a ∈ shownHalves ++ storedHalves := by
  refine Decidable.byContradiction fun hno => ?_
  simp only [shownHalves, storedHalves, List.mem_append, List.mem_cons, List.not_mem_nil, or_false, not_or, List.mem_map, List.mem_range] at hno
  have hdma : (List.range 16).find? (fun n => a == Reg.DMA_CH_RES_ADDR_LO n) = none := by
    simp only [List.find?_eq_none, List.mem_range, beq_iff_eq]
    exact fun n hn he => hno.2.1.2 ⟨n, hn, he.symm⟩
  exact h (by simp only [latchOf, hno, hdma, if_false])

/-- A low half is not latched itself; what it latches are halves, and each shows what was latched. -/
theorem halves_latched : ∀ a ∈ shownHalves ++ storedHalves, ∀ h ∈ latchOf a,
    isLatched a = false ∧ isLatched h = true ∧ h ∈ shownHalves ++ storedHalves := by decide

theorem storedHalves_ne_gates : ∀ a ∈ storedHalves, a ≠ Reg.CLK_SAP_GATE ∧ a ≠ Reg.CLK_GATE_STAT := by decide

theorem Chip.regLive_shownHalf (c : Chip) (m : Map Word) : ∀ a ∈ shownHalves, { c with regs := m }.regLive a = c.regLive a :=
  List.map_inj_left.1 (show shownHalves.map { c with regs := m }.regLive = shownHalves.map c.regLive from rfl)

theorem Chip.regLive_storedHalf (c : Chip) : ∀ a ∈ storedHalves, c.regLive a = c.reg a :=
  List.map_inj_left.1 (show storedHalves.map c.regLive = storedHalves.map c.reg from rfl)

theorem Chip.openGates_eq_with_regs (c : Chip) (off : Nat) : c.openGates off = { c with regs := (c.openGates off).regs } :=
  c.openGates_but_regs off (c.openGates off).regs

/-- Opening gates changes no half. -/
theorem Chip.regLive_openGates (c : Chip) (off : Nat) {a : Nat} (ha : a ∈ shownHalves ++ storedHalves) :
    (c.openGates off).regLive a = c.regLive a := by
  obtain hs | hs := List.mem_append.1 ha
  · rw [c.openGates_eq_with_regs, c.regLive_shownHalf _ a hs]
  · obtain ⟨hsap, hgate⟩ := storedHalves_ne_gates a hs
    rw [Chip.regLive_storedHalf _ a hs, Chip.regLive_storedHalf _ a hs]
    exact foldl_keep (fun d : Chip => d.reg a) _ (fun d u => d.reg_setGate_ne u true hsap hgate) _ c

/-! ## Reads that latch -/

theorem Chip.regRead_latched (c : Chip) {a : Nat} (h : isLatched a = true) : c.regRead a = Map.get latch0 c.host.latches a := if_pos h

theorem Chip.regRead_live (c : Chip) {a : Nat} (h : isLatched a = false) : c.regRead a = c.regLive a := by simp [Chip.regRead, h]

theorem Chip.read32_but_host (c : Chip) (a : Nat) (h : HostState) : { c.read32 a with host := h } = { c with host := h } :=
  foldl_keep (fun d : Chip => { d with host := h })
    (fun d k => { d with host := { d.host with latches := Map.put latch0 d.host.latches k (c.regLive k) } }) (fun _ _ => rfl) (latchOf a) c

theorem Chip.read32_rsp (c : Chip) (a : Nat) : (c.read32 a).host.rsp = { status := 1, data := BitVec.ofNat 64 (c.regRead a).toNat } := rfl

/-- Each half that belongs to a register is latched as it is. -/
theorem Chip.read32_latches (c : Chip) {a h : Nat} (hh : h ∈ latchOf a) :
    Map.get latch0 (c.read32 a).host.latches h = c.regLive h := by
  have hfold : ∀ (l : List Nat) (d : Chip),
      Map.get latch0 (l.foldl (fun d h => { d with host := { d.host with latches := Map.put latch0 d.host.latches h (c.regLive h) } })
        d).host.latches h = if h ∈ l then c.regLive h else Map.get latch0 d.host.latches h := by
    intro l
    induction l with
    | nil => exact fun d => rfl
    | cons k l ih =>
      intro d
      rw [List.foldl_cons, ih, Map.get_put]
      by_cases hl : h ∈ l
      · simp [hl]
      · by_cases hk : h = k <;> simp [hl, hk]
  exact (hfold (latchOf a) c).trans (if_pos hh)

theorem tickLoRead_completes (s : State) (eng : Bool) (hup : s.chip.pfUp false = true) (tick : DWord) :
    ∃ t : State, exec (.tickLoRead eng) s = .next t ∧ ({ t.chip with host := s.chip.host } = s.chip ∧ t.pending = s.pending) ∧
      t.chip.host.rsp = { status := 1, data := BitVec.ofNat 64 (s.chip.eng.tick.toNat % 2 ^ 32) } ∧
      ({ t.chip with eng := { t.chip.eng with tick := tick } }).regRead ((if eng then 0xE0000 else 0x8) + 4) =
        (s.chip.eng.tick >>> 32).setWidth 32 := by
  have hhigh : hiHalf s.chip.tickN = (s.chip.eng.tick >>> 32).setWidth 32 :=
    BitVec.eq_of_toNat_eq (by simp [hiHalf, Chip.tickN, Nat.shiftRight_eq_div_pow])
  have hlow : (loHalf s.chip.tickN).toNat = s.chip.eng.tick.toNat % 2 ^ 32 := by simp [loHalf, Chip.tickN]
  refine ⟨{ s with chip := s.chip.read32 (if eng then Reg.ENG_TICK_LO else Reg.GCTL_TICK_LO) }, ?_,
    ⟨s.chip.read32_but_host _ _, rfl⟩, ?_, ?_⟩
  · show execTickLoRead eng s = _
    simp only [execTickLoRead, State.act_eq, hup, if_true]
  · rw [Chip.read32_rsp, ← hlow]
    cases eng <;> rfl
  · rw [← hhigh]
    cases eng
    · exact s.chip.read32_latches (a := Reg.GCTL_TICK_LO) (h := Reg.GCTL_TICK_HI) (by decide)
    · exact s.chip.read32_latches (a := Reg.ENG_TICK_LO) (h := Reg.ENG_TICK_HI) (by decide)

theorem latchedLoRead_completes (s : State) (addr : Word) (hup : s.chip.pfUp false = true) (hl : latchOf addr.toNat ≠ [])
    (hg : s.chip.gatedAt addr.toNat = none) :
    ∃ t : State, exec (.latchedLoRead addr) s = .next t ∧
      { t.chip with host := s.chip.host } = s.chip.openGates addr.toNat ∧ t.pending = s.pending ∧
      t.chip.host.rsp = { status := 1, data := BitVec.ofNat 64 (s.chip.regRead addr.toNat).toNat } ∧
      ∀ h ∈ latchOf addr.toNat, t.chip.regRead h = s.chip.regLive h := by
  have hmem := mem_halves_of_latchOf hl
  obtain ⟨k, hk⟩ := List.exists_mem_of_ne_nil _ hl
  obtain ⟨hfree, -, -⟩ := halves_latched _ hmem k hk
  have hhost : (s.chip.openGates addr.toNat).host = s.chip.host := by rw [Chip.openGates_eq_with_regs]
  refine ⟨{ s with chip := (s.chip.openGates addr.toNat).read32 addr.toNat }, ?_, ?_, rfl, ?_, fun h hh => ?_⟩
  · show execLatchedLoRead addr s = _
    simp [execLatchedLoRead, hup, hl, Chip.hostAt, hg]
  · rw [Chip.read32_but_host, ← hhost]
  · rw [Chip.read32_rsp, Chip.regRead_live _ hfree, Chip.regRead_live _ hfree, Chip.regLive_openGates _ _ hmem]
  · obtain ⟨-, hlat, hhalf⟩ := halves_latched _ hmem h hh
    rw [Chip.regRead_latched _ hlat, Chip.read32_latches _ hh, Chip.regLive_openGates _ _ hhalf]

/-! ## Reads of the memory windows -/

/-- `d` is `c` after a read of `n` bytes at `a` of memory `sp` has completed with them, poisoned exactly when the tile fails its check
or carries the mark. -/
def Chip.ReadBytes (c : Chip) (sp : Space) (a n : Nat) (d : Chip) : Prop :=
  d.host.rsp.data = BitVec.ofNat 64 (leNat (memRead (c.mem.bytes sp) a n)) ∧
    d.host.rsp.status = (if c.mem.fails sp (a / 256) = true ∨ marked (c.mem.entry sp (a / 256)) = true then 3 else 1) ∧
    d.mem = c.mem ∧ d.eng = c.eng ∧ d.cells = c.cells

theorem Chip.completeMem_readBytes (c d : Chip) (sp : Space) (a n : Nat) (hmem : d.mem = c.mem) (heng : d.eng = c.eng)
    (hcells : d.cells = c.cells) :
    c.ReadBytes sp a n
      (d.completeMem (memRead (c.mem.bytes sp) a n) (c.mem.fails sp (a / 256) || marked (c.mem.entry sp (a / 256)))) := by
  refine ⟨rfl, ?_, hmem, heng, hcells⟩
  simp only [Chip.completeMem, Bool.or_eq_true]

/-- At LEVEL 0 a read of region memory leaves the memory, the engine and the cells as they were. -/
theorem Chip.regionRead_keeps (c : Chip) (a n : Nat) (h : c.level 0 = 0) : (c.regionRead a n).1.mem = c.mem ∧
    (c.regionRead a n).1.eng = c.eng ∧ (c.regionRead a n).1.cells = c.cells := by
  unfold Chip.regionRead
  dsimp only
  split
  next => rw [c.tileCheck_level0 _ _ _ _ h]; simp
  next => exact ⟨rfl, rfl, rfl⟩

theorem Chip.regionRead_readBytes (c : Chip) (a n : Nat) (h : c.level 0 = 0) :
    c.ReadBytes .region a n ((c.regionRead a n).1.completeMem (c.regionRead a n).2.1 (c.regionRead a n).2.2) := by
  obtain ⟨hmem, heng, hcells⟩ := c.regionRead_keeps a n h
  exact c.completeMem_readBytes _ .region a n hmem heng hcells

/-- At LEVEL 0 the check of a tile of DRAM leaves the memory, the engine and the cells as they were. -/
theorem Chip.dramCheck_keeps (c : Chip) (t : Nat) (h : c.level 0 = 0) : (c.dramCheck t).1.mem = c.mem ∧ (c.dramCheck t).1.eng = c.eng ∧
    (c.dramCheck t).1.cells = c.cells ∧ (c.dramCheck t).2 = (c.mem.fails .dram t || marked (c.mem.entry .dram t)) := by
  unfold Chip.dramCheck
  split
  next hf => rw [c.dramFail_level0 _ h]; exact ⟨rfl, rfl, rfl, by simp [hf]⟩
  next hf => exact ⟨rfl, rfl, rfl, by simp [hf]⟩

/-- The bytes of a read that lies within one tile. -/
theorem tilesOf_within_tile {a n : Nat} (hn : 0 < n) (h : a % 256 + n ≤ 256) : tilesOf a n = [a / 256] := by
  have hone : (a + n - 1) / 256 - a / 256 + 1 = 1 := by omega
  rw [tilesOf, if_neg (by omega), hone]
  simp

theorem Chip.dramRead_readBytes (c : Chip) {a n : Nat} (hn : 0 < n) (hin : a % 256 + n ≤ 256) (h : c.level 0 = 0) :
    c.ReadBytes .dram a n ((c.dramRead a n).1.completeMem (c.dramRead a n).2.1 (c.dramRead a n).2.2) := by
  obtain ⟨hmem, heng, hcells, hflag⟩ := c.dramCheck_keeps (a / 256) h
  have hread : c.dramRead a n = ((c.dramCheck (a / 256)).1, memRead (c.mem.bytes .dram) a n,
      c.mem.fails .dram (a / 256) || marked (c.mem.entry .dram (a / 256))) := by
    simp only [Chip.dramRead, tilesOf_within_tile hn hin, Chip.dramChecks, Bool.or_false, hmem, hflag, Mem.bytes]
  rw [hread]
  exact c.completeMem_readBytes _ .dram a n hmem heng hcells

theorem width_within_tile {b : Nat} {wide : Bool} (h : b % (if wide then 8 else 4) = 0) :
    0 < (if wide then 8 else 4) ∧ b % 256 + (if wide then 8 else 4) ≤ 256 := by
  cases wide <;> simp only [if_true, Bool.false_eq_true, if_false] at h ⊢ <;> omega

theorem regionWindowRead_reads (s : State) (wide : Bool) (off : BitVec 30) (hup : s.chip.pfUp false = true)
    (hal : off.toNat % (if wide then 8 else 4) = 0) (hlo : 0x1000000 ≤ off.toNat) (hhi : off.toNat < 0x2000000) (hq : Quiet s) :
    ∃ t : State, exec (.hostMemoryWindowAccess false off wide none) s = .next t ∧
      s.chip.ReadBytes .region (off.toNat - 0x1000000) (if wide then 8 else 4) t.chip := by
  have hab : ¬ s.chip.aborts 0 off.toNat (if wide then 8 else 4) false = true := by
    rw [Chip.aborts_pf0, aligned_width]
    omega
  refine ⟨{ s with chip := s.chip.window false off.toNat (if wide then 8 else 4) none }, ?_, ?_⟩
  · show execHostMemoryWindowAccess false off wide none s = _
    simp [execHostMemoryWindowAccess, hup]
  · simp only [Chip.window, Bool.false_eq_true, if_false, Option.isSome_none, hab, Nat.not_lt.2 hlo]
    exact s.chip.regionRead_readBytes _ _ (hq 0 (by decide))

theorem dramWindowRead_reads (s : State) (wide : Bool) (off : BitVec 30) (hup : s.chip.pfUp false = true)
    (hal : off.toNat % (if wide then 8 else 4) = 0)
    (hin : s.chip.winAddr off.toNat + (if wide then 8 else 4) ≤ s.chip.dramUsable) (hq : Quiet s) :
    ∃ t : State, exec (.hostMemoryWindowAccess true off wide none) s = .next t ∧
      s.chip.ReadBytes .dram (s.chip.winAddr off.toNat) (if wide then 8 else 4) t.chip := by
  have hab : ¬ s.chip.aborts 1 off.toNat (if wide then 8 else 4) false = true := by
    rw [Chip.aborts_bar2 _ _ _ off.isLt, aligned_width]
    omega
  have halw : s.chip.winAddr off.toNat % (if wide then 8 else 4) = 0 := by
    unfold Chip.winAddr
    cases wide <;> simp only [if_true, Bool.false_eq_true, if_false] at hal ⊢ <;> omega
  obtain ⟨hpos, htile⟩ := width_within_tile halw
  refine ⟨{ s with chip := s.chip.window true off.toNat (if wide then 8 else 4) none }, ?_, ?_⟩
  · show execHostMemoryWindowAccess true off wide none s = _
    simp [execHostMemoryWindowAccess, hup]
  · simp only [Chip.window, if_true, Option.isSome_none, hab]
    exact s.chip.dramRead_readBytes hpos htile (hq 0 (by decide))

/-! ## Reads of the field book window (R288) -/

theorem fieldbookWindowRead_reads (s : State) (foff : BitVec 18) (wide : Bool) (hup : s.chip.pfUp true = true)
    (hopen : s.chip.cmd.session.isOpen = true) (hal : foff.toNat % (if wide then 8 else 4) = 0) :
    exec (.fieldbookWindowRead foff wide) s =
      .next { s with chip := s.chip.complete (leNat (memRead s.chip.sys.fieldBook foff.toNat (if wide then 8 else 4))) } := by
  have hlt : foff.toNat < 2 ^ 18 := foff.isLt
  have hal' : (0x100000 + foff.toNat) % (if wide then 8 else 4) = 0 := by
    cases wide <;> simp only [if_true, Bool.false_eq_true, if_false] at hal ⊢ <;> omega
  have hab : ¬ s.chip.aborts 2 (0x100000 + foff.toNat) (if wide then 8 else 4) false = true := by
    rw [Chip.aborts_pf1, aligned_width, hopen]
    simp only [Bool.false_eq_true, Bool.true_eq_false, or_false]
    omega
  show execFieldbookWindowRead foff wide s = _
  simp only [execFieldbookWindowRead, State.act_eq, hup, hab, Chip.fb, Bool.not_true, Bool.false_eq_true, if_false]

end Sys2Proof.Machine
end
section
/-! PROOFS. What a read of the host delivers (R40, R61, R180, R288, R350). -/
namespace Sys2Proof.Machine
open Sys2Proof

/-- Settles O35: each kind of read by its own lemma. -/
theorem hostReads : Obligations.HostReads := by
  intro s eng addr off foff wide tick
  exact ⟨fun hup => tickLoRead_completes s eng hup tick, latchedLoRead_completes s addr, regionWindowRead_reads s wide off,
    dramWindowRead_reads s wide off,
    fun hup hopen hal => ⟨_, fieldbookWindowRead_reads s foff wide hup hopen hal, ⟨rfl, rfl⟩, rfl⟩⟩

end Sys2Proof.Machine
end
section
/-! SUPPORT. The clock gates (R350 to R353) and clock observation (R355). -/
namespace Sys2Proof.Machine
open Sys2Proof

/-! ## One gate -/

/-- The register that shows the gate of a unit. -/
def gateReg (u : Nat) : Nat := if u < 16 then Reg.CLK_SAP_GATE else Reg.CLK_GATE_STAT

/-- The bit of a unit in the register that shows its gate. -/
def gateBit (u : Nat) : Nat := if u < 16 then u else if u = 16 then 18 else if u < 21 then u - 3 else u - 2

theorem Chip.setGate_eq_setBit (c : Chip) {u : Nat} (b : Bool) (hu : u < 23) : c.setGate u b = c.setBit (gateReg u) (gateBit u) b := by
  unfold Chip.setGate gateReg gateBit
  by_cases h16 : u < 16
  · simp only [h16, if_true]
  by_cases heq : u = 16
  · simp only [heq, Nat.lt_irrefl, if_true, if_false]
  by_cases h21 : u < 21
  · simp only [h16, heq, h21, if_true, if_false]
  · simp only [h16, heq, h21, hu, if_true, if_false]

theorem gateClose_closes (s : State) (unit : BitVec 5) (hu : unit.toNat < 23) (hw : s.chip.gateWork unit.toNat = false)
    (hd : unit.toNat ∉ s.chip.dmaUnits) : ∃ t : State, exec (.gateClose unit) s = .next t ∧
      t.chip.regBit (gateReg unit.toNat) (gateBit unit.toNat) = false ∧
      (∀ j : Nat, j < 32 → j ≠ gateBit unit.toNat → t.chip.regBit (gateReg unit.toNat) j = s.chip.regBit (gateReg unit.toNat) j) ∧
      RegsBut [gateReg unit.toNat] s t ∧ { t.chip with regs := s.chip.regs } = s.chip := by
  refine ⟨{ s with chip := s.chip.setBit (gateReg unit.toNat) (gateBit unit.toNat) false }, ?_, ?_, fun j _ hj => ?_, fun a ha => ?_, rfl⟩
  · show execGateClose unit s = _
    simp [execGateClose, hw, hd, s.chip.setGate_eq_setBit false hu]
  · rw [Chip.regBit_setBit, if_pos rfl, Bool.and_false]
  · rw [Chip.regBit_setBit, if_neg hj]
  · exact s.chip.reg_setBit_ne _ _ (by simpa using ha)

theorem gateClose_busy (s : State) (unit : BitVec 5) (h : s.chip.gateWork unit.toNat = true ∨ unit.toNat ∈ s.chip.dmaUnits) :
    exec (.gateClose unit) s = .next s := by
  have hbusy : (s.chip.gateWork unit.toNat || s.chip.dmaUnits.contains unit.toNat) = true := by simpa using h
  show execGateClose unit s = _
  simp only [execGateClose, State.act_eq, hbusy, if_true]

/-! ## Force bits -/

/-- The registers in which a write of CLK_GATE_FORCE shows, apart from its reason. -/
def forceRegs : List Nat := [Reg.CLK_GATE_FORCE, Reg.CLK_SAP_GATE, Reg.CLK_GATE_STAT]

/-- `d` is `c` in everything but the registers that a force bit and its gates show in. -/
def Chip.SameButForce (c d : Chip) : Prop := (∀ a : Nat, a ∉ forceRegs → d.reg a = c.reg a) ∧ ∃ m : Map Word, d = { c with regs := m }

theorem Chip.SameButForce.refl (c : Chip) : c.SameButForce c := ⟨fun _ _ => rfl, c.regs, rfl⟩

theorem Chip.SameButForce.trans {c d e : Chip} (h : c.SameButForce d) (h' : d.SameButForce e) : c.SameButForce e := by
  obtain ⟨hreg, m, rfl⟩ := h
  obtain ⟨hreg', m', rfl⟩ := h'
  exact ⟨fun a ha => (hreg' a ha).trans (hreg a ha), m', rfl⟩

theorem Chip.SameButForce.foldl {α : Type} {f : Chip → α → Chip} (h : ∀ c x, Chip.SameButForce c (f c x)) (l : List α) (c : Chip) :
    c.SameButForce (l.foldl f c) := by
  induction l generalizing c with
  | nil => exact .refl c
  | cons x l ih => exact (h c x).trans (ih (f c x))

theorem Chip.setBit_sameButForce (c : Chip) {a : Nat} (i : Nat) (b : Bool) (ha : a ∈ forceRegs) : c.SameButForce (c.setBit a i b) :=
  ⟨fun _ hr => c.reg_setBit_ne i b (fun he => hr (he ▸ ha)), _, rfl⟩

theorem Chip.setGate_sameButForce (c : Chip) (u : Nat) (b : Bool) : c.SameButForce (c.setGate u b) := by
  obtain h | ⟨i, h⟩ | ⟨i, h⟩ := c.setGate_cases u b <;> rw [h]
  · exact .refl c
  · exact c.setBit_sameButForce i b (by decide)
  · exact c.setBit_sameButForce i b (by decide)

/-- What a force bit does, with the gates that it moves: `moves` says which. -/
theorem Chip.forceBit_eq (c : Chip) (u : Nat) (on : Bool) : ∃ (b : Bool) (moves : Chip → Nat → Bool),
    c.forceBit u on = (forceUnits u).foldl (fun d g => if moves d g then d.setGate g b else d)
      (c.setBit Reg.CLK_GATE_FORCE u (on && c.forceOk u)) := by
  unfold Chip.forceBit
  cases on
  · exact ⟨true, fun d g => d.gateWork g, rfl⟩
  · cases hok : c.forceOk u
    · exact ⟨false, fun _ _ => false, (foldl_keep id (fun d _ => d) (fun _ _ => rfl) (forceUnits u) _).symm⟩
    · exact ⟨false, fun _ _ => true, rfl⟩

theorem Chip.moveGates_sameButForce (moves : Chip → Nat → Bool) (b : Bool) (l : List Nat) (c : Chip) :
    c.SameButForce (l.foldl (fun d g => if moves d g then d.setGate g b else d) c) := by
  refine .foldl (fun d g => ?_) l c
  split
  · exact d.setGate_sameButForce g b
  · exact .refl d

theorem Chip.forceBit_sameButForce (c : Chip) (u : Nat) (on : Bool) : c.SameButForce (c.forceBit u on) := by
  obtain ⟨b, moves, h⟩ := c.forceBit_eq u on
  rw [h]
  exact (c.setBit_sameButForce u _ (by decide)).trans (Chip.moveGates_sameButForce moves b _ _)

theorem Chip.forced_setGate (c : Chip) (u k : Nat) (b : Bool) : (c.setGate u b).forced k = c.forced k := by
  rw [Chip.forced, Chip.regBit, c.reg_setGate_ne u b (by decide) (by decide), ← Chip.regBit, ← Chip.forced]

/-- A force bit takes the value written where it is 0 or the condition of R352 holds; every other stays. -/
theorem Chip.forced_forceBit (c : Chip) {u : Nat} (k : Nat) (on : Bool) (hu : u < 32) :
    (c.forceBit u on).forced k = if k = u then on && c.forceOk u else c.forced k := by
  obtain ⟨b, moves, h⟩ := c.forceBit_eq u on
  rw [h, foldl_keep (fun d : Chip => d.forced k) _ (fun d g => ?_), Chip.forced, Chip.regBit_setBit, decide_eq_true hu, Bool.true_and,
    ← Chip.forced]
  split
  · exact d.forced_setGate g k b
  · rfl

/-! ## The condition of R352 -/

/-- The guarded enables stand in no register of the gates. -/
theorem enables_not_forceRegs : (∀ p ∈ allPorts, portCfg p.1 p.2 ∉ forceRegs) ∧ (∀ m < 4, Reg.NET_MAC_CFG m ∉ forceRegs) ∧
    ∀ m < 8, Reg.DRV_MOD_CTRL m ∉ forceRegs := by decide

/-- The condition of R352: every guarded enable of the block reads 0, and no DMA channel runs or waits. -/
def Chip.MayForce (c : Chip) (k : Nat) : Prop :=
  (k = 0 → ∀ kind i : Nat, (kind, i) ∈ allPorts → c.portEn kind i = false) ∧
    (k = 2 → (∀ m : Nat, m < 4 → c.macEn m = false) ∧ ∀ e ∈ c.net.streams, e.2.en = false) ∧
    (k = 3 → ∀ m : Nat, m < 8 → c.modEn m = false) ∧ (k = 4 → c.dma.queue = [])

theorem Chip.forceOk_iff (c : Chip) {k : Nat} (hk : k < 5) : c.forceOk k = true ↔ c.MayForce k := by
  obtain rfl | rfl | rfl | rfl | rfl : k = 0 ∨ k = 1 ∨ k = 2 ∨ k = 3 ∨ k = 4 := by omega
  all_goals simp [Chip.forceOk, Chip.MayForce]

/-- Force bits and gates do not bear on the condition. -/
theorem Chip.SameButForce.mayForce_iff {c d : Chip} (h : c.SameButForce d) (k : Nat) : d.MayForce k ↔ c.MayForce k := by
  obtain ⟨hreg, m, rfl⟩ := h
  obtain ⟨hports, hmacs, hmods⟩ := enables_not_forceRegs
  refine and_congr ?_ (and_congr ?_ (and_congr ?_ Iff.rfl)) <;> refine imp_congr_right fun _ => ?_
  · exact forall₂_congr fun kind i => imp_congr_right fun hp => by
      rw [Chip.portEn, Chip.regBit, hreg _ (hports _ hp), ← Chip.regBit, ← Chip.portEn]
  · refine and_congr (forall_congr' fun n => imp_congr_right fun hn => ?_) Iff.rfl
    rw [Chip.macEn, Chip.regBit, hreg _ (hmacs n hn), ← Chip.regBit, ← Chip.macEn]
  · refine forall_congr' fun n => imp_congr_right fun hn => ?_
    rw [Chip.modEn, Chip.regBit, hreg _ (hmods n hn), ← Chip.regBit, ← Chip.modEn]

theorem Chip.SameButForce.forceOk {c d : Chip} (h : c.SameButForce d) {k : Nat} (hk : k < 5) : d.forceOk k = c.forceOk k :=
  Bool.eq_iff_iff.2 (((d.forceOk_iff hk).trans (h.mayForce_iff k)).trans (c.forceOk_iff hk).symm)

/-! ## A write of CLK_GATE_FORCE -/

/-- The force bits as a write of `v` sets them, one after another. -/
def Chip.forceBits (c : Chip) (v : Word) (l : List Nat) : Chip := l.foldl (fun c u => c.forceBit u (v.getLsbD u)) c

theorem Chip.forceBits_sameButForce (c : Chip) (v : Word) (l : List Nat) : c.SameButForce (c.forceBits v l) :=
  .foldl (fun d u => d.forceBit_sameButForce u _) l c

theorem Chip.forced_forceBits (c : Chip) (v : Word) (k : Nat) (l : List Nat) (hl : ∀ u ∈ l, u < 5) :
    (c.forceBits v l).forced k = if k ∈ l then v.getLsbD k && c.forceOk k else c.forced k := by
  induction l generalizing c with
  | nil => rfl
  | cons u l ih =>
    obtain ⟨hu, hl⟩ := List.forall_mem_cons.1 hl
    rw [Chip.forceBits, List.foldl_cons, ← Chip.forceBits, ih _ hl]
    by_cases hk : k ∈ l
    · simp only [hk, if_true, List.mem_cons, or_true, (c.forceBit_sameButForce u _).forceOk (hl k hk)]
    · rw [if_neg hk, c.forced_forceBit k _ (by omega)]
      by_cases hku : k = u <;> simp [hku, hk]

/-! ## The gates of the TDM ports -/

/-- A fold over a list of operations that each keep a field keeps it. -/
theorem foldl_keep_of_mem {α β γ : Type} (g : α → γ) (f : α → β → α) (l : List β) (a : α) (h : ∀ a, ∀ b ∈ l, g (f a b) = g a) :
    g (l.foldl f a) = g a :=
  List.foldlRecOn l f (motive := fun x => g x = g a) rfl fun x hx b hb => (h x b hb).trans hx

theorem Chip.reg_sapGate_setGate (c : Chip) {g : Nat} (b : Bool) (hg : 16 ≤ g) :
    (c.setGate g b).reg Reg.CLK_SAP_GATE = c.reg Reg.CLK_SAP_GATE := by
  have h16 : ¬ g < 16 := by omega
  by_cases h23 : g < 23
  · rw [c.setGate_eq_setBit b h23, gateReg, if_neg h16]
    exact c.reg_setBit_ne _ b (by decide)
  · rw [Chip.setGate, if_neg h16, if_neg (by omega), if_neg (by omega), if_neg h23]

theorem forceUnits_not_tdm {u : Nat} (hu : u ≠ 0) : ∀ g ∈ forceUnits u, 16 ≤ g := by
  unfold forceUnits
  rw [if_neg hu]
  split
  · simp
  · split
    · simp
    · split <;> simp

/-- Only the force bit of SAP moves the gates of the TDM ports. -/
theorem Chip.reg_sapGate_forceBit (c : Chip) {u : Nat} (on : Bool) (hu : u ≠ 0) :
    (c.forceBit u on).reg Reg.CLK_SAP_GATE = c.reg Reg.CLK_SAP_GATE := by
  obtain ⟨b, moves, h⟩ := c.forceBit_eq u on
  rw [h, foldl_keep_of_mem (fun d : Chip => d.reg Reg.CLK_SAP_GATE) _ _ _ (fun d g hg => ?_), c.reg_setBit_ne u _ (by decide)]
  split
  · exact d.reg_sapGate_setGate b (forceUnits_not_tdm hu g hg)
  · rfl

theorem Chip.regBit_closeGates (c : Chip) (i : Nat) (l : List Nat) (hl : ∀ g ∈ l, g < 16) :
    (l.foldl (fun d g => d.setGate g false) c).regBit Reg.CLK_SAP_GATE i = if i ∈ l then false else c.regBit Reg.CLK_SAP_GATE i := by
  induction l generalizing c with
  | nil => rfl
  | cons g l ih =>
    obtain ⟨hg, hl⟩ := List.forall_mem_cons.1 hl
    rw [List.foldl_cons, ih _ hl, Chip.setGate, if_pos hg, Chip.regBit_setBit]
    by_cases hil : i ∈ l
    · simp [hil]
    · by_cases hig : i = g <;> simp [hil, hig]

/-- Forcing SAP closes the gates of all TDM ports. -/
theorem Chip.forceBit_sap_closes (c : Chip) (hok : c.forceOk 0 = true) : (c.forceBit 0 true).regFld Reg.CLK_SAP_GATE 15 0 = 0 := by
  refine Nat.eq_of_testBit_eq fun i => ?_
  rw [Chip.regFld, fld, bits_testBit, Nat.zero_testBit, Nat.zero_add, Bool.and_eq_false_imp]
  intro hi
  have hclosed := (c.setBit Reg.CLK_GATE_FORCE 0 true).regBit_closeGates i (List.range 16) (fun g => List.mem_range.1)
  rw [if_pos (List.mem_range.2 (by simpa using hi)), Chip.regBit, BitVec.getLsbD] at hclosed
  simpa [Chip.forceBit, hok, forceUnits] using hclosed

theorem Chip.forceBits_sap_closes (c : Chip) (v : Word) (hv : v.getLsbD 0 = true) (hok : c.forceOk 0 = true) :
    (c.forceBits v (List.range 5)).regFld Reg.CLK_SAP_GATE 15 0 = 0 := by
  have hrest : (c.forceBits v (List.range 5)).reg Reg.CLK_SAP_GATE = (c.forceBit 0 true).reg Reg.CLK_SAP_GATE := by
    show ((c.forceBit 0 (v.getLsbD 0)).forceBits v [1, 2, 3, 4]).reg Reg.CLK_SAP_GATE = _
    rw [hv]
    exact foldl_keep_of_mem (fun d : Chip => d.reg Reg.CLK_SAP_GATE) _ _ _ fun d u hu =>
      d.reg_sapGate_forceBit _ (by rintro rfl; simp at hu)
  rw [Chip.regFld, hrest]
  exact c.forceBit_sap_closes hok

/-! ## The reason of a write of CLK_GATE_FORCE -/

/-- Some bit written 1 did not take effect. -/
def Chip.forceRefused (c : Chip) (v : Word) : Bool := (List.range 5).any (fun u => v.getLsbD u && !c.forceOk u)

theorem Chip.forceRefused_iff (c : Chip) (v : Word) :
    c.forceRefused v = true ↔ ∃ k : Nat, k < 5 ∧ v.getLsbD k = true ∧ ¬ c.MayForce k := by
  simp only [Chip.forceRefused, List.any_eq_true, List.mem_range, Bool.and_eq_true, Bool.not_eq_true', ← Bool.not_eq_true]
  exact exists_congr fun k => and_congr_right fun hk => and_congr_right fun _ => not_congr (c.forceOk_iff hk)

theorem Chip.gateForce_open (c : Chip) (v : Word) (h : c.cmd.session.isOpen = true) : c.gateForce v =
    if v.toNat % 32 = 0 then c.forceBits v (List.range 5)
    else (c.forceBits v (List.range 5)).setReg Reg.CLK_REASON (BitVec.ofNat 32 (if c.forceRefused v then 6 else 0)) := by
  rw [Chip.gateForce, h]
  rfl

/-- The reason aside, a write of CLK_GATE_FORCE in a session is what its bits do. -/
theorem Chip.reg_gateForce (c : Chip) (v : Word) {a : Nat} (h : c.cmd.session.isOpen = true) (ha : a ≠ Reg.CLK_REASON) :
    (c.gateForce v).reg a = (c.forceBits v (List.range 5)).reg a := by
  rw [c.gateForce_open v h]
  split
  · rfl
  · exact Chip.reg_setReg_ne _ _ ha

theorem Chip.reg_gateForce_reason (c : Chip) (v : Word) (h : c.cmd.session.isOpen = true) : (c.gateForce v).reg Reg.CLK_REASON =
    if v.toNat % 32 = 0 then c.reg Reg.CLK_REASON else if c.forceRefused v then 6 else 0 := by
  rw [c.gateForce_open v h]
  split
  · exact (c.forceBits_sameButForce v _).1 _ (by decide)
  · rw [Chip.reg_setReg_self]
    split <;> rfl

theorem Chip.gateForce_but_regs (c : Chip) (v : Word) (h : c.cmd.session.isOpen = true) : { c.gateForce v with regs := c.regs } = c := by
  obtain ⟨-, m, hm⟩ := c.forceBits_sameButForce v (List.range 5)
  rw [c.gateForce_open v h]
  split <;> rw [hm]
  rfl

/-- What a write of CLK_GATE_FORCE in a session does. -/
def Chip.ForcedBy (c : Chip) (v : Word) (d : Chip) : Prop :=
  (∀ k : Nat, k < 5 → (d.forced k = true ↔ v.getLsbD k = true ∧ c.MayForce k)) ∧
    (v.toNat % 32 = 0 → d.reg Reg.CLK_REASON = c.reg Reg.CLK_REASON) ∧
    (v.toNat % 32 ≠ 0 → (∃ k : Nat, k < 5 ∧ v.getLsbD k = true ∧ ¬ c.MayForce k) → d.reg Reg.CLK_REASON = 6) ∧
    (v.toNat % 32 ≠ 0 → (∀ k : Nat, k < 5 → v.getLsbD k = true → c.MayForce k) → d.reg Reg.CLK_REASON = 0) ∧
    (v.getLsbD 0 = true → c.MayForce 0 → d.regFld Reg.CLK_SAP_GATE 15 0 = 0) ∧
    (∀ a : Nat, a ∉ [Reg.CLK_GATE_FORCE, Reg.CLK_REASON, Reg.CLK_SAP_GATE, Reg.CLK_GATE_STAT] → d.reg a = c.reg a) ∧
    { d with regs := c.regs } = c

theorem Chip.gateForce_forcedBy (c : Chip) (v : Word) (h : c.cmd.session.isOpen = true) : c.ForcedBy v (c.gateForce v) := by
  refine ⟨fun k hk => ?_, fun hv => ?_, fun hv hbad => ?_, fun hv hok => ?_, fun hv hok => ?_, fun a ha => ?_, c.gateForce_but_regs v h⟩
  · rw [Chip.forced, Chip.regBit, c.reg_gateForce v h (by decide), ← Chip.regBit, ← Chip.forced,
      c.forced_forceBits v k _ (fun u => List.mem_range.1), if_pos (List.mem_range.2 hk), Bool.and_eq_true, c.forceOk_iff hk]
  · rw [c.reg_gateForce_reason v h, if_pos hv]
  · rw [c.reg_gateForce_reason v h, if_neg hv, if_pos ((c.forceRefused_iff v).2 hbad)]
  · rw [c.reg_gateForce_reason v h, if_neg hv, if_neg fun hb => ?_]
    obtain ⟨k, hk, hvk, hno⟩ := (c.forceRefused_iff v).1 hb
    exact hno (hok k hk hvk)
  · rw [Chip.regFld, c.reg_gateForce v h (by decide), ← Chip.regFld]
    exact c.forceBits_sap_closes v hv ((c.forceOk_iff (by decide)).2 hok)
  · simp only [List.mem_cons, List.not_mem_nil, or_false, not_or] at ha
    obtain ⟨hforce, hreason, hsap, hstat⟩ := ha
    rw [c.reg_gateForce v h hreason]
    exact (c.forceBits_sameButForce v _).1 a (by simp [forceRegs, hforce, hsap, hstat])

/-! ## Accesses that meet a force-gated unit (R353) -/

theorem abortLast_pf0 {off : Nat} (h : off < 2 ^ 30) : putFld (putFld 0 31 30 0) 29 0 off = BitVec.ofNat 32 off := by
  refine BitVec.eq_of_getLsbD_eq fun i hi => ?_
  rw [putFld_getLsbD, putFld_getLsbD, BitVec.getLsbD_ofNat]
  by_cases hlow : i < 30
  · rw [if_pos (by omega), Nat.sub_zero]
  · have hbeyond : off < 2 ^ i := Nat.lt_of_lt_of_le h (Nat.pow_le_pow_right (by decide) (by omega))
    rw [if_neg (by omega), if_pos (by omega), Nat.zero_testBit, Nat.testBit_lt_two_pow hbeyond]

theorem exec_forceHit (s : State) (fu : BitVec 3) (host : Bool) (off : BitVec 30) (h5 : fu.toNat < 5) (hf : s.chip.forced fu.toNat = true) :
    exec (.forceHit fu host off) s = .next { s with chip :=
      if host then (s.chip.forceHit fu.toNat).hostAbort 0 off.toNat else s.chip.forceHit fu.toNat } := by
  show execForceHit fu host off s = _
  simp only [execForceHit, State.act_eq, h5, hf, decide_true, Bool.and_self, if_true]

theorem forceHit_counts (s : State) (fu : BitVec 3) (host : Bool) (off : BitVec 30) (h5 : fu.toNat < 5)
    (hf : s.chip.forced fu.toNat = true) : ∃ t : State, exec (.forceHit fu host off) s = .next t ∧ CountsOne Reg.CLK_FORCE_HIT s t ∧
      t.chip.regFld Reg.CLK_FORCE_HIT 31 29 = fu.toNat ∧ t.chip.regBit Reg.CLK_EVENT 4 = true ∧
      RegsBut [Reg.CLK_FORCE_HIT, Reg.CLK_EVENT, Reg.GCTL_ABORT_CNT, Reg.GCTL_ABORT_LAST] s t ∧
      { t.chip with regs := s.chip.regs, host := s.chip.host } = s.chip ∧
      (host = true → t.chip.host.rsp.status = 2 ∧ CountsOne Reg.GCTL_ABORT_CNT s t ∧
        t.chip.reg Reg.GCTL_ABORT_LAST = BitVec.ofNat 32 off.toNat) ∧
      (host = false → t.chip.host = s.chip.host ∧ t.chip.reg Reg.GCTL_ABORT_CNT = s.chip.reg Reg.GCTL_ABORT_CNT) := by
  refine ⟨_, exec_forceHit s fu host off h5 hf, ?_⟩
  cases host
  · refine ⟨s.chip.forceHit_count _, s.chip.forceHit_unit (by omega), s.chip.forceHit_event _, fun a ha => ?_,
      s.chip.forceHit_but_host_regs _ _ _, fun h => absurd h (by decide), fun _ => ⟨rfl, s.chip.reg_forceHit_ne _ (by decide) (by decide)⟩⟩
    simp only [List.mem_cons, List.not_mem_nil, or_false, not_or] at ha
    exact s.chip.reg_forceHit_ne _ ha.1 ha.2.1
  · obtain ⟨hrsp, habort, hcount, hunit, hevent, hrest, hregs⟩ := s.chip.forceHit_hostAbort_gateHitBy off.toNat (show fu.toNat < 8 by omega)
    refine ⟨hcount, hunit, hevent, fun a ha => hregs a ?_, hrest, fun _ => ⟨congrArg HostRsp.status hrsp, habort, ?_⟩,
      fun h => absurd h (by decide)⟩
    · simp only [List.mem_cons, List.not_mem_nil, or_false, not_or] at ha ⊢
      obtain ⟨hhit, hev, hcnt, hlast⟩ := ha
      exact ⟨hcnt, hlast, hhit, hev⟩
    · exact (Chip.reg_hostAbort _ _ _ _).trans ((if_pos rfl).trans (abortLast_pf0 off.isLt))

theorem forceHit_unforced (s : State) (fu : BitVec 3) (host : Bool) (off : BitVec 30) (hf : s.chip.forced fu.toNat = false) :
    exec (.forceHit fu host off) s = .next s := by
  show execForceHit fu host off s = _
  simp only [execForceHit, State.act_eq, hf, Bool.and_false, Bool.false_eq_true, if_false]

/-! ## Clock observation (R355) -/

/-- The smallest dividers of the domains, in the order of SEL. -/
theorem obsMin_eq : ∀ n < 16, obsMin n = [1, 1, 1, 1, 6, 4, 1, 4, 16, 2, 3, 2, 2].getD n 1 := by decide

theorem clkObsWrite_sets (s : State) (v : Word) (hup : s.chip.pfUp false = true) : ∃ t : State, exec (.clkObsWrite v) s = .next t ∧
    t.chip.reg Reg.CLK_OBS = v &&& 0x8FF0FFFF ∧
    t.chip.reg Reg.CLK_OBS_EFF =
      BitVec.ofNat 32 (max (v.toNat % 65536 + 1) ([1, 1, 1, 1, 6, 4, 1, 4, 16, 2, 3, 2, 2].getD (v.toNat / 2 ^ 24 % 16) 1)) ∧
    RegsBut [Reg.CLK_OBS, Reg.CLK_OBS_EFF] s t ∧ { t.chip with regs := s.chip.regs } = s.chip := by
  have hsel : fld v 27 24 = v.toNat / 2 ^ 24 % 16 := by
    simp only [fld, bits, Nat.shiftRight_eq_div_pow, Nat.reduceAdd, Nat.reduceSub, Nat.reducePow]
  refine ⟨{ s with chip := s.chip.clkObs v }, ?_, ?_, ?_, fun a ha => ?_, rfl⟩
  · show execClkObsWrite v s = _
    simp only [execClkObsWrite, State.act_eq, hup, if_true]
  · exact (Chip.reg_setReg_ne _ _ (by decide)).trans (Chip.reg_setReg_self _ _ _)
  · rw [← obsMin_eq _ (Nat.mod_lt _ (by decide)), ← hsel]
    exact Chip.reg_setReg_self _ _ _
  · simp only [List.mem_cons, List.not_mem_nil, or_false, not_or] at ha
    exact (Chip.reg_setReg_ne _ _ ha.2).trans (Chip.reg_setReg_ne _ _ ha.1)

end Sys2Proof.Machine
end
section
/-! PROOFS. The clock gates and clock observation (R41, R350 to R353, R355). -/
namespace Sys2Proof.Machine
open Sys2Proof

/-- Settles O44: each row by its own lemma. -/
theorem clockGates : Obligations.ClockGates := by
  intro s unit v fu host off
  refine ⟨gateClose_closes s unit, gateClose_busy s unit, fun hup hopen => ?_, fun hclosed => ?_, forceHit_counts s fu host off,
    forceHit_unforced s fu host off, clkObsWrite_sets s v⟩
  · refine ⟨{ s with chip := s.chip.gateForce v }, ?_, s.chip.gateForce_forcedBy v hopen⟩
    show execGateForceWrite v s = _
    simp only [execGateForceWrite, State.act_eq, hup, if_true]
  · show execGateForceWrite v s = _
    simp [execGateForceWrite, Chip.gateForce, hclosed]

end Sys2Proof.Machine
end
